-- ==== Sys2Proof/Word.lean ====
section
/-! DEFINITION. The plainest word types of the EN9144 model.
The hub is modelled as a BLOCK that takes commands, so there is no processor word; these are the widths in
which the manual numbers bits (bytes of entries and frames, 32-bit registers, 64-bit counters). -/

namespace Sys2Proof

/-- A byte of an entry, a frame or a record. -/
abbrev Byte := BitVec 8

/-- A 32-bit register of the register window (R497). -/
abbrev W32 := BitVec 32

/-- A 64-bit register pair or counter. -/
abbrev W64 := BitVec 64

end Sys2Proof
end

