-- ==== Sys2Proof/Syntax.lean ====
section
/-! DEFINITION. The commands of the EN9144: one constructor of `Instr` per row of the opcode table, with the row's operands.
The hub is a block: a command is a host command entry, a register access, a message or a frame that arrives, a pin event, or the
passing of a limit of the manual. An operand says what arrived or what the baseband, the converter or the sensor measured; what the
hub makes of it is its meaning. -/

namespace Sys2Proof

/-- A PCI Express port of the hub (R493). -/
inductive Port where
  | a | b
  deriving DecidableEq, Repr

/-- The mailbox a command came by. -/
inductive Mbx where
  | normal (p : Port)
  | urgent (p : Port)
  | smbus
  deriving DecidableEq, Repr

/-- A descriptor (R513): ADDR, LEN, and FLAGS with bit 0 LAST and bit 1 TO_HOST. -/
structure Descr where
  addr : Nat
  len : Nat
  flags : Nat
  deriving DecidableEq, Repr

/-- A host command as the hub's DMA reads it: the command entry of R501's ring, its descriptor list up to LAST or 256 descriptors, and the data to the
hub that the list names (R513). -/
structure Req where
  mbx : Mbx
  op : Nat
  tag : Nat
  seq : Nat
  len : Nat
  flags : Nat
  payload : List Byte
  /-- The DMA read of the entry succeeded. -/
  entryOk : Bool
  /-- DMA, and the descriptors read there. -/
  dma : Nat
  descs : List Descr
  /-- Every DMA read and write of the command's data succeeds. -/
  dataOk : Bool
  /-- Data to the hub. -/
  data : List Byte
  deriving DecidableEq, Repr

/-- Token classes (R362). -/
inductive TokenClass where
  | v | c | f
  deriving DecidableEq, Repr

/-- Clock sources that have a monitor (R651). -/
inductive Src where
  | refclk | txo | xtal
  deriving DecidableEq, Repr

/-- PLLs (R647); the 33 SerDes quads share one entry, as CLK_STATUS does. -/
inductive Pll where
  | fpll | spll | tpll | cpll | serdes
  deriving DecidableEq, Repr

/-- Clock multiplexers (R659). -/
inductive Mux where
  | sclk | cbclk | xspi | rtc
  deriving DecidableEq, Repr

/-- The two cascade sides (R348). -/
inductive CSide where
  | lower | upper
  deriving DecidableEq, Repr

/-- A lane receiver: that of a head port, or a lane of a cascade side (0 first, 1 standby). -/
inductive Rx where
  | head (b : Nat)
  | casc (side : CSide) (lane : Nat)
  deriving DecidableEq, Repr

/-- Rails with a brown-out threshold (R815). -/
inductive Rail where
  | core | sup | keep | io33
  deriving DecidableEq, Repr

/-- A coil measurement whose last sample instant lies in a slate (R174, R189, R191): raw amplitude and phase as LF_CUR, HF_CUR and HF_IQ
give them, over a measurement interval, or over one carrier cycle (`cycle`) for the open-coil test. -/
structure CoilMeas where
  hf : Bool
  cycle : Bool
  amp : Nat
  phase : Nat
  deriving DecidableEq, Repr

/-- What the HF samples of a bay decode to (R208, R209): the frames that arrive at one time, each whole with its check bytes (of an anticollision
answer, the row of five bytes that it completes), with the mean magnitude of their subcarrier in HF_IQ (R219); or a signal that is no frame. As a
reader these are the answers of cards, as the bay tag the frames of an external reader. -/
inductive CardFrame where
  | frames (l : List (List Byte)) (mag : Nat)
  | bad
  deriving DecidableEq, Repr

/-- What a receiver makes of a codeword (R79, R81). -/
inductive Cw where
  | clean | corrected | bad
  deriving DecidableEq, Repr

/-- A codeword as received: its 544 symbols in the order sent (R79). -/
structure Codeword where
  syms : List (BitVec 10)
  deriving DecidableEq, Repr

/-- An upstream slate as received (R82 to R87): the data blocks that follow its START block, in the order sent. -/
structure UpSlate where
  blocks : List (BitVec 256)
  /-- Arrival of its START block, clapper ticks. -/
  arrival : Nat
  coil : List CoilMeas
  /-- A frame on the HF coil whose decoding ends in this slate. -/
  card : Option CardFrame
  deriving DecidableEq, Repr

/-- A packet of the sighting exchange as its 32 bytes (R67), from the ring or a cascade side. -/
structure SightMsg where
  body : List Byte
  deriving DecidableEq, Repr

/-- A correlation result at a tap or lag, a complex number in the engine's units. -/
structure Tap where
  re : Int
  im : Int
  deriving DecidableEq, Repr

/-- A tap of the search window: its correlation with each of the 64 preamble symbols, and, at the own head, with the whole STS (R274, R275). -/
structure TapCorr where
  syms : List Tap
  sts : Tap
  deriving DecidableEq, Repr

/-- What the samples of one antenna correlate to: the 256 taps of the search window (R271). -/
structure AntCir where
  taps : List TapCorr
  deriving DecidableEq, Repr

/-- The reception of a RESPONSE: antennas 0 to 3, and whether the frame came in a mode of R253. -/
structure RespCir where
  ants : List AntCir
  badMode : Bool
  deriving DecidableEq, Repr

/-- A frame received in the REPORT interval: its RMARKER, whether it came in a mode of R253, its encrypted payload and MIC. -/
structure ReportMeas where
  rmarker : Nat
  badMode : Bool
  cipher : List Byte
  deriving DecidableEq, Repr

/-- The reception of a RESPONSE at a listening head: antennas 0 to 3. -/
structure ListenCir where
  ants : List AntCir
  badMode : Bool
  /-- A slate of the window was lost (R121). -/
  lost : Bool
  deriving DecidableEq, Repr

/-- One round of a rapid exchange as the 4 groups correlate it (R307, R308): C_ref and C_dat at the 44 lags of the window. -/
structure RoundCorr where
  lags : List (Tap × Tap)
  deriving DecidableEq, Repr

/-- A class V blink (R390) as heard in listen windows of several bays, each with its raw first paths on the four antennas. -/
structure BlinkMsg where
  payload : List Byte
  badMode : Bool
  heard : List (Nat × List (Option Nat))
  deriving DecidableEq, Repr

/-- A fob frame, FOB_ID to CRC in the order sent (R398), its band, and the bays whose receivers hear it, each with 20 log10 of the mean
UHF_IQ magnitude in 0.001 dB (R776). -/
structure FobHeard where
  frame : List Byte
  band : Nat
  heard : List (Nat × Int)
  deriving DecidableEq, Repr

/-- One take of the calibration procedure (R788). -/
structure CalibTake where
  /-- Outcome code of R288. -/
  outcome : Nat
  /-- Status of a take that did not run: 0 TX_LATE, 1 RADIO_BUSY, 2 COEX_DENIED, 3 REG_LIMIT. -/
  why : Nat
  fpq : Nat
  /-- FP_SUSPECT and FP_EDGE of its record. -/
  suspect : Bool
  edge : Bool
  tPoll : Nat
  /-- Raw first paths of antennas 0 to 3 in 1/256 tick, and their phases. -/
  ants : List Nat
  phases : List Nat
  dbTok : Nat
  rbTok : Nat
  deriving DecidableEq, Repr

/-- What the measurements of a CALIB_BAY procedure give (R788): raw AMP and PHASE of each coil at the 33 tuning codes, the result of the
reference token's authentication, its takes, and the levels of the fob's replies in 0.001 dB. -/
structure CalibRun where
  lf : List (Nat × Nat)
  hf : List (Nat × Nat)
  auth : Nat
  takes : List CalibTake
  fob : List Int
  deriving DecidableEq, Repr

/-- A JTAG instruction (R773): those the manual gives an effect on the hub. -/
inductive Jtag where
  | bypass
  | boundaryScan
  | holdSupervisor | releaseSupervisor
  | holdRegion (r : Nat) | releaseRegion (r : Nat)
  deriving DecidableEq, Repr

/-- A LINKDOWN block of a head (R80): its bay and the bits of the block below its type. -/
structure LinkdownBlock where
  bay : Nat
  body : BitVec 248
  deriving DecidableEq, Repr

/-- An emitter cut at a bay (R48, R102), and whether the stop is held beyond its 16 slates. -/
structure EmitterCut where
  bay : Nat
  hold : Bool
  deriving DecidableEq, Repr

/-- The reply to a pass (R389): the bytes heard, and whether the frame is in a mode of R253. -/
structure AuthFrame where
  bytes : List Byte
  badMode : Bool := false
  deriving DecidableEq, Repr

/-- Two-sector areas that the hub reads as it starts (R755): boot record, compliance page, site record, vault block, part of the fleet table. -/
inductive FlashArea where
  | boot | comp | site | vault | fleet
  deriving DecidableEq, Repr

/-- What the hub finds as it starts (R749 to R753): a flash with valid SFDP, the clock sources, the vault's checks of R742, the SMB_ADDR
straps, main power, the links of the two host ports, whether VBAT held while VDD_KEEP was absent (R694), and the levels of TAMPER[3:0] (R695). -/
structure BootInput where
  flashOk : Bool
  refclk : Bool
  txo : Bool
  vaultOk : Bool
  strap : Nat
  main : Bool
  linkA : Bool
  linkB : Bool
  vbat : Bool
  tamper : Nat
  /-- The TEST_EN strap. -/
  testEn : Bool
  /-- Sectors of two-sector areas that fail their checks from now on: area, block and whether it is the second sector; and vault records that fail
  their CRC or unwrap. -/
  lost : List (FlashArea × Nat × Bool) := []
  vaultLost : List Nat := []
  deriving DecidableEq, Repr

/-- The commands: one constructor per row of the opcode table. -/
inductive Instr where
  /-- BAY_STATUS (R534): Host command that returns a bay's state, link, verdict, release and flags, optionally with the counter block and a clear of
  the bay's counters. -/
  | bayStatus (q : Req)
  /-- BAY_CONFIG_POLLING (R538): BAY_CONFIG section 0 sets the polling parameters of one or all bays, and they take effect at once. -/
  | bayConfigPolling (q : Req)
  /-- BAY_CONFIG_RANGING (R538): BAY_CONFIG section 1 stores the ranging and rapid-exchange parameters for dialogues that begin later. -/
  | bayConfigRanging (q : Req)
  /-- BAY_CONFIG_BINDING (R538): BAY_CONFIG section 2 stores the binding policy, thresholds, ENGAGE_LIMIT, HF_RATE_MAX and FIELD_MARGIN. -/
  | bayConfigBinding (q : Req)
  /-- BAY_CONFIG_RELEASE (R538): BAY_CONFIG section 3 sets REL_ENABLE, FAULT_RELEASE, REL_INTERVAL, HOLD_TIME and METER_ID, subject to the bay state
  and to key provisioning. -/
  | bayConfigRelease (q : Req)
  /-- BAY_CONTROL_ENABLE (R539): BAY_CONTROL ENABLE enables the port, and the bay then follows the bay states from OFFLINE. -/
  | bayControlEnable (q : Req)
  /-- BAY_CONTROL_DISABLE (R539): BAY_CONTROL DISABLE takes the port down with LINKDOWN, ends the dialogues and, with FORCE, wraps a session before
  the bay goes OFFLINE. -/
  | bayControlDisable (q : Req)
  /-- BAY_CONTROL_WAKE (R539): BAY_CONTROL WAKE moves an IDLE or DARK bay to WATCH. -/
  | bayControlWake (q : Req)
  /-- BAY_CONTROL_REARM_COILS (R539): BAY_CONTROL REARM_COILS clears LF_COIL_OPEN, HF_COIL_OPEN and, where neither remains, DEGRADED. -/
  | bayControlRearmCoils (q : Req)
  /-- BAY_CONTROL_RETRAIN (R539): BAY_CONTROL RETRAIN takes the port down with LINKDOWN and trains it again. -/
  | bayControlRetrain (q : Req)
  /-- BAY_GEOMETRY_SET (R540): Host command that checks and loads a park geometry blob, which takes effect at the next slot boundary. -/
  | bayGeometrySet (q : Req)
  /-- PROFILE_SET (R541): Host command that changes the operating profile, raising the level before widening or narrowing before lowering. -/
  | profileSet (q : Req)
  /-- BAY_MEASURE (R542): Host command that runs an LF or HF coil measurement as an AUTH-class item and returns AMP and PHASE. -/
  | bayMeasure (q : Req)
  /-- TAKE (R543): Host command that runs a take on demand, with an optional rapid exchange, and returns its records. -/
  | take (q : Req)
  /-- CARD_EXCHANGE (R544): Host command that runs an APDU on the card selected at a bay, with optional activation, write marking and deselect. -/
  | cardExchange (q : Req)
  /-- BAY_TAG_READ (R545): BAY_TAG READ returns blocks of the last committed tag image. -/
  | bayTagRead (q : Req)
  /-- BAY_TAG_WRITE (R545): BAY_TAG WRITE replaces tag blocks 1 to 13 as a wire write, which is queued while the field side owns the tag. -/
  | bayTagWrite (q : Req)
  /-- BAY_TAG_REARM (R237): BAY_TAG REARM commits the image with FAIL_BASE set to TAG_FAIL and PW_DISABLED clear, and can install a new password. -/
  | bayTagRearm (q : Req)
  /-- BAY_TAG_ENABLE (R545): BAY_TAG ENABLE sets or clears TAG_ENABLE in the control block. -/
  | bayTagEnable (q : Req)
  /-- SESSION_AUTHORIZE (R546): Host command that runs the checks and then opens a session by the ordered steps of R20. -/
  | sessionAuthorize (q : Req)
  /-- SESSION_WRAP (R550): Host command that ends the dialogues of an ENGAGED bay, begins the wrap of a CHARGING bay, or adds a cause to a running
  wrap. -/
  | sessionWrap (q : Req)
  /-- RELEASE_HOLD (R551): Host command that moves the bay's release to HOLD from its next boundary. -/
  | releaseHold (q : Req)
  /-- RELEASE_RESUME (R551): Host command that moves the bay's release from HOLD back to RELEASE. -/
  | releaseResume (q : Req)
  /-- RELEASE_CLASS (R551): Host command that sets the CURRENT_CLASS sent from the next boundary. -/
  | releaseClass (q : Req)
  /-- SAFETY_CUT (R552): Host command that sends a safety cut at a bay and begins the wrap of a CHARGING bay without HOLD. -/
  | safetyCut (q : Req)
  /-- PERMIT_DROP (R553): Host command that safety-cuts the CHARGING and WRAPPING bays of the regions named and then lowers their PWRPERMIT lines. -/
  | permitDrop (q : Req)
  /-- METER_READ (R554): Host command that requests a SPOT meter reading, posts it and logs it. -/
  | meterRead (q : Req)
  /-- COEX_SET (R555): Host command that enables or disables coexistence for regions from the next slot boundary. -/
  | coexSet (q : Req)
  /-- COMPLIANCE_WRITE (R556): Signed host command that checks and commits a new compliance page and then retrains every link. -/
  | complianceWrite (q : Req)
  /-- COMPLIANCE_READ (R557): Host command that returns the compliance page state and the LIMITS payload in force. -/
  | complianceRead (q : Req)
  /-- TEST_EMIT (R558): Host command that starts a compliance test emission at an idle bay. -/
  | testEmit (q : Req)
  /-- TEST_END (R559): Host command that sends the TEST_END cue and ends the running test emission. -/
  | testEnd (q : Req)
  /-- QUEUE_DUMP (R560): Host command that writes conversation queue descriptors to host memory. -/
  | queueDump (q : Req)
  /-- CAPTURE_READ (R561): Host command that writes raw samples from the capture ring to host memory. -/
  | captureRead (q : Req)
  /-- CRED_ENROL (R569): Signed host command that enrols or updates one credential under the counted-enrolment order. -/
  | credEnrol (q : Req)
  /-- CRED_REVOKE (R570): Signed host command that clears a credential slot or, with FORCE, sets it RETIRING and wraps its session. -/
  | credRevoke (q : Req)
  /-- CRED_QUERY (R571): Host command that returns a credential slot without its key. -/
  | credQuery (q : Req)
  /-- FLEET_SET (R572): Signed host command that sets a fleet's QUOTA and FOB_W and commits its fleet part. -/
  | fleetSet (q : Req)
  /-- FLEET_QUERY (R573): Host command that returns a fleet entry and its ENROLLED count. -/
  | fleetQuery (q : Req)
  /-- BULK_BEGIN (R574): Signed host command that opens a bulk load for a list of fleets and advances LOAD_CTR. -/
  | bulkBegin (q : Req)
  /-- BULK_DATA (R575): Host command that takes a batch of credential records into the bulk staging area, whole or not at all. -/
  | bulkData (q : Req)
  /-- BULK_COMMIT (R576): Signed host command that checks the load, assigns slots, writes the shadow blocks, advances ENROL_COUNT and commits the
  BULK_COMMIT journal entry. -/
  | bulkCommit (q : Req)
  /-- BULK_ABORT (R577): Host command that closes the open bulk load with nothing changed. -/
  | bulkAbort (q : Req)
  /-- BULK_TIMEOUT (R382): An open bulk load with no BULK_DATA or BULK_COMMIT for 600 s is aborted. -/
  | bulkTimeout
  /-- CRED_STATUS (R578): Host command that returns the store counts and counters, optionally clearing the counters. -/
  | credStatus (q : Req)
  /-- LOG_READ (R579): Host command that writes committed reel records from a given SEQ to host memory. -/
  | logRead (q : Req)
  /-- LOG_ACK (R580): Host command that advances REEL_ACK, freeing acknowledged sectors. -/
  | logAck (q : Req)
  /-- LOG_CONFIG (R581): Host command that resizes the reel or sets DAILIES_OFFSET. -/
  | logConfig (q : Req)
  /-- LOG_STATUS (R582): Host command that returns the reel's fill level, sizes and SEQ values, optionally with the reel counters. -/
  | logStatus (q : Req)
  /-- DAILIES_GET (R583): Host command that returns the last DAILIES entry's SEQ, RTC and chain value. -/
  | dailiesGet (q : Req)
  /-- TIME_SET (R584): Host command that commits an RTC_SET event and then sets the RTC, moving the bays' last detection times with it. -/
  | timeSet (q : Req)
  /-- TIME_GET (R585): Host command that returns the RTC, clapper time and TMU_TIME sampled in one cycle. -/
  | timeGet (q : Req)
  /-- POWER_SET (R586): Host command that sets the region floors and S3_ALLOW, which govern the firmware's power votes. -/
  | powerSet (q : Req)
  /-- PL_SET (R587): Host command that pins a performance level and runs the DVFS change. -/
  | plSet (q : Req)
  /-- RAPID_RESERVE (R588): Host command that sets or clears the rapid-exchange reserve at a slot boundary. -/
  | rapidReserve (q : Req)
  /-- HOLDUP_SET (R589): Host command that sets the hold-up parameters and commits the board section of the calibration page. -/
  | holdupSet (q : Req)
  /-- POWER_STATUS (R590): Host command that returns the level, region power states, supply flags and hold-up figures. -/
  | powerStatus (q : Req)
  /-- KEY_INSTALL (R591): Host command that installs or removes a key of a given kind and index and commits it in the vault store. -/
  | keyInstall (q : Req)
  /-- KEY_STATUS (R594): Host command that returns which keys are present. -/
  | keyStatus (q : Req)
  /-- DEVICE_KEY_GET (R595): Host command that returns the hash of the device identity public key, and the key itself. -/
  | deviceKeyGet (q : Req)
  /-- LIFECYCLE_SET (R596): Signed host command that programs a life-cycle transition into the fuses and applies its side effects. -/
  | lifecycleSet (q : Req)
  /-- RNG_READ (R598): Host command that returns DRBG output from one generate request. -/
  | rngRead (q : Req)
  /-- RUSHES_SET (R599): Host command that enters or leaves rushes mode, wrapping open sessions first with FORCE. -/
  | rushesSet (q : Req)
  /-- RUSHES_DURATION_END (R599): Rushes mode ends when its DURATION passes, with the exit reseed. -/
  | rushesDurationEnd
  /-- RUSHES_READ (R600): Host command that writes raw noise samples of one or all sources to host memory. -/
  | rushesRead (q : Req)
  /-- VERSION (R601): Host command that returns the interface, image and ROM versions. -/
  | version (q : Req)
  /-- IMAGE_STAGE (R602): Signed host command that checks an image and writes it into the unused slot of its kind. -/
  | imageStage (q : Req)
  /-- IMAGE_ACTIVATE (R603): Signed host command that names the slot to start from at the next reset and commits the boot record. -/
  | imageActivate (q : Req)
  /-- SPLICE (R604): Signed host command that splices a region image into each ACTIVE region in turn, or splices back on failure. -/
  | splice (q : Req)
  /-- REGION_CONTROL_QUARANTINE (R606): REGION_CONTROL QUARANTINE moves a region to QUARANTINED with reason HOST. -/
  | regionControlQuarantine (q : Req)
  /-- REGION_CONTROL_RESTORE (R606): REGION_CONTROL RESTORE restarts a QUARANTINED region's sequencer on the active region slot. -/
  | regionControlRestore (q : Req)
  /-- REGION_CONTROL_OFF (R606): REGION_CONTROL OFF takes a region's links down, its bays OFFLINE, PWRPERMIT low and REL_STBY high. -/
  | regionControlOff (q : Req)
  /-- REGION_CONTROL_ON (R606): REGION_CONTROL ON powers an OFF region up and starts it as a restart. -/
  | regionControlOn (q : Req)
  /-- REGION_CONTROL_SET_QUAR_RELEASE (R606): REGION_CONTROL SET_QUAR_RELEASE selects CUT or PROXY for the next quarantine. -/
  | regionControlSetQuarRelease (q : Req)
  /-- REGION_STATUS (R607): Host command that returns a region's state, power, queues, turns and engine health. -/
  | regionStatus (q : Req)
  /-- CALIB_EXPORT (R608): Host command that writes the calibration page with a signed export trailer and sets EXPORTED. -/
  | calibExport (q : Req)
  /-- CALIB_IMPORT (R609): Host command that checks a signed export and writes it as the calibration page. -/
  | calibImport (q : Req)
  /-- CALIB_BAY (R610): Host command that runs the calibration procedure at a bay and overwrites its entries. -/
  | calibBay (q : Req) (m : CalibRun)
  /-- CALIB_STATUS (R611): Host command that returns the calibration page state and bay maps. -/
  | calibStatus (q : Req)
  /-- MFG_STEP (R771): JTAG instruction that takes a BLANK hub to FACTORY, fusing K_ROOT and writing the base vault keys. -/
  | mfgStep (kImport : Nat)
  /-- MFG_CALIB (R780): JTAG instruction that writes factory calibration values in FACTORY. -/
  | mfgCalib (page : List Byte)
  /-- SMB_COMMAND_WRITE (R527): SMBus Block Write of code 0x10 that starts one command on the SMBus mailbox. -/
  | smbCommandWrite (l : List Byte)
  /-- SMB_RESPONSE_READ (R527): SMBus Block Read of code 0x11 that returns the response and clears RSP_READY. -/
  | smbResponseRead
  /-- SMB_STATUS_READ (R528): SMBus read of SMB_STATUS, which releases SMB_ALERT_N. -/
  | smbStatusRead
  /-- SMB_ALERT_RESPONSE (R528): The hub answers the Alert Response Address and releases SMB_ALERT_N. -/
  | smbAlertResponse
  /-- SMB_ADDRESS_MATCH_WAKE (R688): In S3 an SMBus address match stretches SMB_CLK and wakes the chip. -/
  | smbAddressMatchWake (addr : Nat)
  /-- HOST_ROLE_CLAIM (R495): A CLAIM write to HOST_ROLE makes the port active when no port is active, the active link is down or its heartbeat has
  lapsed. -/
  | hostRoleClaim (p : Port) (v : W32)
  /-- HOST_ROLE_HEARTBEAT (R495): A HEARTBEAT write to HOST_ROLE restarts the active port's 1 s lapse. -/
  | hostRoleHeartbeat (p : Port) (v : W32)
  /-- HOST_ROLE_RELEASE (R495): A RELEASE write to HOST_ROLE gives up the active role. -/
  | hostRoleRelease (p : Port) (v : W32)
  /-- HEARTBEAT_LAPSE (R495): The active port writes no HEARTBEAT for 1 s, so HB_LAPSED is set and the standby port may claim. -/
  | heartbeatLapse
  /-- CMD_TAIL_DOORBELL (R504): A CMD_TAIL write hands command entries to the hub, or stops the mailbox for a bad pointer. -/
  | cmdTailDoorbell (p : Port) (urgent : Bool) (v : W32)
  /-- RSP_HEAD_WRITE (R505): The host advances RSP_HEAD to free response slots, or sets BAD_POINTER. -/
  | rspHeadWrite (p : Port) (urgent : Bool) (v : W32)
  /-- MAILBOX_RESET (R502): A RESET write stops the mailbox, zeroes its pointers and clears its status flags. -/
  | mailboxReset (p : Port) (urgent : Bool) (v : W32)
  /-- MAILBOX_ENABLE (R507): An ENABLE write starts command fetching on the mailbox. -/
  | mailboxEnable (p : Port) (urgent : Bool) (v : W32)
  /-- NTC_HEAD_WRITE (R523): The host advances NTC_HEAD of the notice ring, or sets BAD_POINTER. -/
  | ntcHeadWrite (p : Port) (v : W32)
  /-- NOTICE_RING_RESET (R522): A RESET write disables the notice ring and zeroes its pointers. -/
  | noticeRingReset (p : Port) (v : W32)
  /-- NOTICE_RING_ENABLE (R522): An ENABLE write starts writing notices to the port's ring. -/
  | noticeRingEnable (p : Port) (v : W32)
  /-- RNG_OUT_READ (R731): An RS read of RNG_OUT returns the next word of the port's buffer, refilling it by one generate request. -/
  | rngOutRead (p : Port)
  /-- HOST_VOTE_WRITE (R677): A write to HOST_VOTE sets or withdraws this port's region and chip power votes. -/
  | hostVoteWrite (p : Port) (v : W32)
  /-- TAMPER_CFG_WRITE (R696): A write to TAMPER_CFG enables and sets the levels of tamper inputs in FACTORY or COMMISSIONING. -/
  | tamperCfgWrite (p : Port) (v : W32)
  /-- ALARM_WRITE (R696): A write to ALARM_n or ALARM_CTRL sets an RTC alarm's compare value or enables. -/
  | alarmWrite (p : Port) (off : Nat) (v : W32)
  /-- CLK_MEAS_SEL_WRITE (R666): A write to CLK_MEAS_SEL starts a 1 ms measurement of the selected clock. -/
  | clkMeasSelWrite (p : Port) (v : W32)
  /-- CLK_MEAS_DONE (R666): A clock measurement completes and CLK_MEAS is set VALID. -/
  | clkMeasDone
  /-- TMU_CTRL_WRITE (R701): A write to TMU_CTRL_n sets RUN, PRESCALE, capture and interrupt enables, clearing the prescaler where R701 says. -/
  | tmuCtrlWrite (p : Port) (n : Nat) (v : W32)
  /-- TMU_CNT_WRITE (R704): A write to TMU_CNT_n loads the count and clears the prescaler, without setting CMP_F. -/
  | tmuCntWrite (p : Port) (n : Nat) (v : W32)
  /-- TMU_CMP_WRITE (R704): A write to TMU_CMP_n sets the compare value, which applies from the next cycle. -/
  | tmuCmpWrite (p : Port) (n : Nat) (v : W32)
  /-- TMU_LINK_WRITE (R712): A write to TMU_LINK_n sets the master, event and mode, and closes a toggled gate. -/
  | tmuLinkWrite (p : Port) (n : Nat) (v : W32)
  /-- REGISTER_WRITE (R8): A write to any register without a row of its own, including W1C clears, partial writes and refused writes. -/
  | registerWrite (p : Port) (off : Nat) (bytes : Nat) (v : W32)
  /-- PCIE_PORT_RESET (R494): A link-down, hot reset, function level reset or clearing of Bus Master Enable disables that port's mailboxes and
  notice ring alone. -/
  | pciePortReset (p : Port) (linkDown : Bool)
  /-- TMU_COMPARE_MATCH (R703): A timer's count enters its compare value and sets CMP_F. -/
  | tmuCompareMatch (n : Nat)
  /-- TMU_OVERFLOW (R706): A timer's count passes from 0xFFFF_FFFF to 0 and sets OVF_F. -/
  | tmuOverflow (n : Nat)
  /-- TMU_CAPTURE_EDGE (R708): A filtered TCAP level change loads CAPRISE or CAPFALL and sets its flag. -/
  | tmuCaptureEdge (n : Nat) (level : Bool)
  /-- TMU_LINK_EVENT (R712): A master event resets, clocks or gates a linked slave timer one cycle later. -/
  | tmuLinkEvent (n : Nat)
  /-- SIGNAL_DETECTED (R113): Signal on an enabled DOWN port moves it to TRAINING. -/
  | signalDetected (b : Nat)
  /-- CODEWORD_LOCK (R81): A receiver declares codeword lock after 4 good codewords. -/
  | codewordLock (x : Rx) (cws : List Codeword)
  /-- CODEWORD_LOCK_LOST (R81): A receiver declares lock lost after 8 of 16 uncorrectable codewords. -/
  | codewordLockLost (x : Rx) (cws : List Codeword)
  /-- EQ_REQ (R115): A received EQ_REQ training message adjusts the transmitter and is answered with EQ_STATUS. -/
  | eqReq (x : Rx) (m : BitVec 248)
  /-- EQ_STATUS (R115): A received EQ_STATUS message advances the equaliser step toward DONE. -/
  | eqStatus (x : Rx) (m : BitVec 248)
  /-- IDENT (R116): The head's IDENT message is checked for compatibility and duplicate serial, answering HELLO. -/
  | ident (b : Nat) (m : BitVec 248)
  /-- LIMITS_ACK (R152): The head's LIMITS_ACK is checked against the CRC of the LIMITS sent. -/
  | limitsAck (b : Nat) (m : BitVec 248)
  /-- TRAINING_COMPLETE (R114): After GO and 16 accepted clapper echoes with timing settled, the port becomes UP and the serial is compared with the
  calibration page. -/
  | trainingComplete (b : Nat)
  /-- TRAINING_TIMEOUT (R113): A training step times out or 100 ms pass, so the port goes DOWN to retry, or to FAULT after 16 failures. -/
  | trainingTimeout (b : Nat)
  /-- UPSTREAM_SLATE_RECEIVED (R85): An upstream slate is received whole: CRC and SEQ checked, samples streamed, auxiliary field, credits and echoes
  taken in. -/
  | upstreamSlateReceived (b : Nat) (u : UpSlate)
  /-- UPSTREAM_SLATE_TIMEOUT (R113): No good upstream slate, or lost lock, for 100 µs moves an UP port to FAULT. -/
  | upstreamSlateTimeout (b : Nat)
  /-- CUE_ECHO_TIMEOUT (R96): A cue with no echo 16 slate periods after EXEC + WIN is unknown, and its step ends INTERNAL. -/
  | cueEchoTimeout (b : Nat)
  /-- CREDIT_TIMEOUT (R101): No downstream credit for 10 ms with cues outstanding moves the port to FAULT. -/
  | creditTimeout (b : Nat)
  /-- DOWNSTREAM_SLATE_LAUNCH (R104): At each grid instant the hub launches a downstream DATA slate carrying chips, drive, cues and credits. -/
  | downstreamSlateLaunch (b : Nat)
  /-- MARKER_LAUNCH (R105): Once per ms a MARKER slate carries MARK_TIME and MARK_NUM to the head. -/
  | markerLaunch (b : Nat)
  /-- DROWSE_REQUEST (R118): The hub sets DROWSE_REQ at a port with no cue outstanding. -/
  | drowseRequest (b : Nat)
  /-- DROWSE_BLOCK (R119): A head DROWSE block completes DROWSE entry, answers a QUERY or carries a delay measurement. -/
  | drowseBlock (b : Nat) (d : BitVec 248) (arrival : Nat)
  /-- DROWSE_MARKER_SEND (R119): In DROWSE the hub sends a DROWSE block with marker fields at least once per ms. -/
  | drowseMarkerSend (b : Nat)
  /-- WAKE (R113): The hub sends WAKE to a DROWSE port, which becomes UP on a good locked slate within 100 µs. -/
  | wake (b : Nat)
  /-- DROWSE_TIMEOUT (R113): No head DROWSE block for 3 ms, or no slate 100 µs after WAKE, moves the port to FAULT. -/
  | drowseTimeout (b : Nat)
  /-- LINKDOWN (R80): A received LINKDOWN block ends the far end's transmission. -/
  | linkdown (m : LinkdownBlock)
  /-- FAULT_RECOVERY_TIMEOUT (R113): 10 ms after FAULT, or after 10 ms without signal for INCOMPATIBLE or DUPLICATE, the port goes DOWN. -/
  | faultRecoveryTimeout (b : Nat)
  /-- HEAD_WAKE_LOW (R196): HEAD_WAKE_N[r] going low makes the hub QUERY every DROWSE port of the region. -/
  | headWakeLow (r : Nat)
  /-- WAKE_LINE_MASK (R197): After three unanswered queries the line is masked and WAKE_SPURIOUS counted. -/
  | wakeLineMask (r : Nat)
  /-- WAKE_LINE_UNMASK (R197): A masked line high for 1 ms is unmasked. -/
  | wakeLineUnmask (r : Nat)
  /-- SLOT_BOUNDARY (R46): A call sheet slot boundary, at which profile turns, coexistence settings, reserve changes and geometry apply. -/
  | slotBoundary
  /-- PLAN_FREEZE (R51): 25 µs before a slot, the call sheet plans the slot by the grant rule. -/
  | planFreeze (r : Nat)
  /-- SAFETY_DISPATCH (R48): A SAFETY item is dispatched within 2 slate periods of enqueue, pre-empting the radio's holder. -/
  | safetyDispatch (c : EmitterCut)
  /-- COEX_REQ_RAISE (R158): COEX_REQ[r] is driven high 20 µs before a covered item's t_air. -/
  | coexReqRaise (r : Nat) (q : Nat)
  /-- COEX_GRANT_SAMPLE (R160): COEX_GNT[r] is sampled at t_g, and the item runs or is deferred. -/
  | coexGrantSample (r : Nat) (q : Nat) (gnt : Bool)
  /-- COEX_REQ_FALL (R158): COEX_REQ[r] falls after the last covered interval ends. -/
  | coexReqFall (r : Nat)
  /-- BURST_LAUNCH_DEADLINE (R145): At the launch deadline a staged burst starts, or an unstaged one ends TX_LATE. -/
  | burstLaunchDeadline (b : Nat)
  /-- CALIBRATION_RUN (R134): The hub runs RF_CAL at a head when the first STANDBY, a temperature change, lock failures or 600 s call for it. -/
  | calibrationRun (b : Nat)
  /-- CELL_FAILURE (R40): A cell that fails parity or self-test is retired, and its group's take evidence is invalid. -/
  | cellFailure (r : Nat) (e : Nat) (c : Nat)
  /-- GROUP_SELF_TEST (R614): Each free group is tested at least once per second in unused fabric cycles. -/
  | groupSelfTest (r : Nat) (e : Nat) (g : Nat) (bad : List Nat)
  /-- ENGINE_LOST (R616): An engine whose ToA or AoA unit fails its self-test withdraws all groups. -/
  | engineLost (r : Nat) (e : Nat)
  /-- QUEUE_STORE_ECC (R45): An uncorrectable queue store error quarantines the region, and a corrected one is repaired. -/
  | queueStoreEcc (r : Nat) (uncorrectable : Bool)
  /-- LISTEN_REQUEST (R68): A received listen request plans or updates a listen, or is declined at once. -/
  | listenRequest (l : SightMsg)
  /-- SIGHTING (R69): A received sighting is held for the take's evaluation, or discarded as late. -/
  | sighting (l : SightMsg)
  /-- DECLINE (R68): A received decline closes one listen of a take. -/
  | decline (l : SightMsg)
  /-- CANCEL (R70): A received cancel ends a listen that has not started. -/
  | cancel (l : SightMsg)
  /-- COLLECTION_WINDOW_CLOSE (R69): A take's collection window closes, and the take is evaluated on the evidence held. -/
  | collectionWindowClose (b : Nat)
  /-- RESPONSE (R266): The token's RESPONSE is checked on STS and Ipatov, and FINAL is sent only if it passes. -/
  | response (b : Nat) (m : RespCir)
  /-- REPORT (R267): The token's REPORT is accepted, ToF and clock offset are computed, and the take record is delivered. -/
  | report (b : Nat) (m : ReportMeas)
  /-- REPORT_WINDOW_CLOSE (R288): The REPORT window passes without an acceptable REPORT, and the take ends NO_REPORT or REPORT_BAD. -/
  | reportWindowClose (b : Nat)
  /-- LISTEN_RECEPTION_END (R269): A listen ends its reception window and sends one sighting or one decline. -/
  | listenReceptionEnd (r : Nat) (i : Nat) (m : ListenCir)
  /-- RAPID_START (R305): At a start opportunity the rapid exchange starts, waits, or ends NOT_RUN, PERIOD_SHORT or EVIDENCE_INVALID. -/
  | rapidStart (b : Nat) (w : Bool)
  /-- RAPID_ROUND_VERDICT (R308): Each round's reply is judged in hardware, and the exchange goes on or ends. -/
  | rapidRoundVerdict (b : Nat) (m : RoundCorr)
  /-- CONTINUITY_TAKE_DUE (R333): A continuity take falls due on the 2 s grid of a BOUND dialogue. -/
  | continuityTakeDue (b : Nat)
  /-- LOST_TIMEOUT (R336): A verdict LOST for 10 s starts the wrap, or ends a dialogue without a session. -/
  | lostTimeout (b : Nat) (k : TokenClass)
  /-- CONTESTED_TIMEOUT (R335): A CONTESTED verdict in an open session for 10 s becomes LOST. -/
  | contestedTimeout (b : Nat) (k : TokenClass)
  /-- ENGAGE_LIMIT_EXPIRY (R337): ENGAGE_LIMIT passing ends a dialogue that is without a first BOUND or without authorisation. -/
  | engageLimitExpiry (b : Nat) (k : TokenClass)
  /-- BLINK (R340): A class V blink heard in a window engages its token at the earliest-hearing bay. -/
  | blink (m : BlinkMsg)
  /-- WATCH_HOLD_EXPIRY (R203): Under CAPACITIVE, WATCH_HOLD without detection returns the bay to IDLE with its link in DROWSE. -/
  | watchHoldExpiry (b : Nat)
  /-- DARK_ENTRY (R199): DARK_WEEKS without detection move a WATCH bay to DARK. -/
  | darkEntry (b : Nat)
  /-- EXTERNAL_FIELD_LOST (R210): HF_CUR below EXT_FIELD_ON for 100 µs means the field is lost, and the tag returns to OPEN. -/
  | externalFieldLost (b : Nat)
  /-- TAG_LISTEN_GAP (R224): Under CONTINUOUS_FIELD with TAG_ENABLE, the carrier is turned off for 40 ms in each 400 ms to let the tag listen. -/
  | tagListenGap (b : Nat)
  /-- TAG_REQA (R227): The tag answers REQA or WUPA with ATQA at the frame delay time. -/
  | tagReqa (b : Nat) (wupa : Bool)
  /-- TAG_ANTICOLLISION_SELECT (R238): An anticollision SELECT gives the field side ownership and sets the tag OPEN. -/
  | tagAnticollisionSelect (b : Nat) (uid : List Byte)
  /-- TAG_SELECT_BY_NAME (R232): The APDU SELECT by name selects the NDEF tag application. -/
  | tagSelectByName (b : Nat) (apdu : List Byte)
  /-- TAG_SELECT_BY_FILE (R232): The APDU SELECT by file selects E103, E104 or E105. -/
  | tagSelectByFile (b : Nat) (apdu : List Byte)
  /-- READ_BINARY (R232): The APDU READ BINARY returns bytes of the selected file. -/
  | readBinary (b : Nat) (apdu : List Byte)
  /-- UPDATE_BINARY (R240): The APDU UPDATE BINARY writes E105 in SECURED and commits the whole image. -/
  | updateBinary (b : Nat) (apdu : List Byte)
  /-- VERIFY (R235): The APDU VERIFY counts a TAG_FAIL increment, then compares the password. -/
  | verify (b : Nat) (apdu : List Byte)
  /-- GET_CHALLENGE (R232): The APDU GET CHALLENGE returns RB from the DRBG. -/
  | getChallenge (b : Nat) (apdu : List Byte)
  /-- EXTERNAL_AUTHENTICATE (R233): The APDU EXTERNAL AUTHENTICATE checks the AES-CMAC and moves the tag to SECURED. -/
  | externalAuthenticate (b : Nat) (apdu : List Byte)
  /-- TAG_DESELECT (R234): S(DESELECT) or HLTA returns the tag to OPEN and ends field ownership. -/
  | tagDeselect (b : Nat) (hlta : Bool)
  /-- TAG_OWNERSHIP_END (R238): 5 ms after field loss ownership ends, and queued wire writes are committed in order. -/
  | tagOwnershipEnd (b : Nat)
  /-- TAG_WIRE_WRITE_TIMEOUT (R239): A queued wire write still waiting 250 ms after receipt completes with BUSY. -/
  | tagWireWriteTimeout (b : Nat)
  /-- AUTH2 (R394): AUTH2 is checked against the slot, MAC, suspension and validity, then SK is derived and AUTH3 planned. -/
  | auth2 (b : Nat) (k : TokenClass) (f : AuthFrame)
  /-- AUTH_ACK (R394): AUTH_ACK is checked against MAC_A, and authentication ends AUTH_OK. -/
  | authAck (b : Nat) (k : TokenClass) (f : AuthFrame)
  /-- AUTH_REPLY_WINDOW_CLOSE (R394): A reply window closes without its reply, so the pass is resent or authentication ends TIMEOUT. -/
  | authReplyWindowClose (b : Nat) (k : TokenClass)
  /-- FOB_FRAME (R399): A class F fob frame is checked, given to a bay and judged against its rolling counter. -/
  | fobFrame (f : FobHeard)
  /-- RETIRING_COMMIT_RETRY (R380): A refused block commit of a RETIRING slot is retried every 100 ms. -/
  | retiringCommitRetry (slot : Nat)
  /-- RELEASE_BOUNDARY (R421): At each interval boundary the owner hands the bay's RELEASE frame to the bus controller. -/
  | releaseBoundary (b : Nat)
  /-- RELEASE_FRAME_LATE (R423): A RELEASE frame not complete 5 ms after its boundary is counted late, and one not sent by the next boundary is
  discarded. -/
  | releaseFrameLate (b : Nat)
  /-- SAFETY_CUT_SEND (R426): A safety cut sends one RELEASE_SAFETY frame with STATE CUT ahead of other traffic. -/
  | safetyCutSend (b : Nat)
  /-- BPC_STATUS (R433): An accepted BPC_STATUS frame updates the bay and may trigger unplug, fault or SYNC. -/
  | bpcStatus (r : Nat) (ident : Nat) (f : List Byte)
  /-- BPC_URGENT (R433): An accepted BPC_URGENT frame reports an unplug or a BPC fault at once. -/
  | bpcUrgent (r : Nat) (ident : Nat) (f : List Byte)
  /-- BPC_SILENT (R433): No accepted status for 3 s while CHARGING is a fault trigger. -/
  | bpcSilent (b : Nat)
  /-- METER_A (R438): A METER_A frame carries the first part of a meter reading. -/
  | meterA (r : Nat) (ident : Nat) (f : List Byte)
  /-- METER_B (R440): A METER_B frame completes a reading, which is verified and accepted or discarded. -/
  | meterB (r : Nat) (ident : Nat) (f : List Byte)
  /-- METER_B_TIMEOUT (R438): A METER_B that does not follow within 10 ms discards its METER_A. -/
  | meterBTimeout (b : Nat)
  /-- METER_REQ_TIMEOUT (R439): A meter request attempt with no reading in 200 ms fails, and the next attempt is made. -/
  | meterReqTimeout (b : Nat)
  /-- METER_TIMEOUT (R442): No accepted reading for 30 s while CHARGING is a fault trigger. -/
  | meterTimeout (b : Nat)
  /-- BUS_OFF (R428): The release bus controller enters bus-off and counts it. -/
  | busOff (r : Nat)
  /-- BUS_OFF_PERSIST (R428): Bus-off longer than the shortest interval of the CHARGING bays wraps every CHARGING bay of the region. -/
  | busOffPersist (r : Nat)
  /-- FOREIGN_FRAME (R411): A frame of a wrong kind or identifier on the release bus is discarded and counted in REL_FOREIGN. -/
  | foreignFrame (r : Nat) (ident : Nat) (f : List Byte)
  /-- HOLD_TIME_EXPIRY (R425): HOLD_TIME passes in a wrap, so the next boundary sends CUT. -/
  | holdTimeExpiry (b : Nat)
  /-- SEAL_RETRY (R462): A refused seal is retried every 100 ms while main power is present. -/
  | sealRetry (b : Nat)
  /-- REL_RANGE_RETRY (R418): A refused REL_RANGE advance is retried every 100 ms. -/
  | relRangeRetry (b : Nat)
  /-- COMMIT_BURST (R483): A commit burst is admitted under the hold-up rule and runs to its last verified page. -/
  | commitBurst
  /-- VHOLD_SAMPLE (R483): Every 100 µs VHOLD is sampled and E_avail recomputed. -/
  | vholdSample (code : Nat)
  /-- MAIN_LOST (R487): VMAIN_SENSE below threshold for 50 µs declares MAIN_LOST, safety-cuts sessions and closes them in bay order. -/
  | mainLost
  /-- MAIN_LOST_CLEAR (R489): VMAIN_SENSE above threshold for 1 s clears MAIN_LOST and seals the sessions left with END_MISSING. -/
  | mainLostClear
  /-- DAILIES (R465): At the dailies instant a signed DAILIES entry is written and posted, and detection times and fob blocks are saved. -/
  | dailies
  /-- JOURNAL_COPY_FORWARD (R480): Live journal entries are copied forward before the oldest sector is reused. -/
  | journalCopyForward
  /-- REGION_WATCHDOG_EXPIRY (R622): An unserviced region watchdog for 10 ms quarantines the region with reason WATCHDOG. -/
  | regionWatchdogExpiry (r : Nat)
  /-- AUTO_RESTART (R628): 10 ms after a WATCHDOG or QUEUE_ECC quarantine, the region restarts within its restart budget. -/
  | autoRestart (r : Nat)
  /-- PROXY_LIMIT (R627): 10 s of proxying in a quarantined region safety-cuts each proxied CHARGING bay. -/
  | proxyLimit (r : Nat)
  /-- DRAIN_TIMEOUT (R637): A drain not complete 50 ms after entry pre-empts the items that remain. -/
  | drainTimeout (r : Nat)
  /-- DRAIN_COMPLETE (R637): The last non-SAFETY item of a DRAINING region ends, and the takeover begins. -/
  | drainComplete (r : Nat)
  /-- SEQUENCER_READY (R639): A restarted sequencer takes up the kept state and reports READY. -/
  | sequencerReady (r : Nat)
  /-- RESTART_LIMIT_EXPIRY (R641): READY not reached within 3 × REL_INTERVAL_MAX fails the splice or restart. -/
  | restartLimitExpiry (r : Nat)
  /-- CHIP_FAULT (R632): A chip fault drops every PWRPERMIT in hardware, records CHIP_FAULT and resets the chip. -/
  | chipFault (cause : Nat)
  /-- SUP_WATCHDOG (R631): The supervisor watchdog unserviced for 50 ms is a chip fault. -/
  | supWatchdog
  /-- TEMP_SENSOR_SAMPLE (R828): Every 10 µs the junction sensors are sampled. -/
  | tempSensorSample (t : List Int)
  /-- VAULT_ALARM (R742): A vault check, known-answer, glitch or mesh failure erases volatile keys and is a chip fault. -/
  | vaultAlarm
  /-- TAMPER_ACTIVE (R695): An enabled tamper input held active for 4 periods is a chip fault in S0 to S3 and an event in S4. -/
  | tamperActive (n : Nat)
  /-- RTC_ALARM (R697): An RTC alarm fires, setting FIRED, writing an event or buffer entry, and waking the chip in S3. -/
  | rtcAlarm (n : Nat)
  /-- WAKE_OUT_END (R693): WAKE_OUT falls once VDD_KEEP has been present 10 ms, or after 60 s. -/
  | wakeOutEnd
  /-- SOURCE_LOST (R651): A REFCLK, TXO_IN or crystal monitor declares its source lost, and the PLLs fed by it coast. -/
  | sourceLost (x : Src)
  /-- PLL_PHASE_ERROR (R652): A lock detector error for 1 µs is treated as a source loss. -/
  | pllPhaseError (x : Pll)
  /-- SOURCE_RETURNED (R651): A source passes its windows for 1 ms, so the PLLs it feeds relock. -/
  | sourceReturned (x : Src)
  /-- COAST_EXIT (R654): A relocked PLL restores its operating divider and clears COAST. -/
  | coastExit (x : Pll)
  /-- TPLL_COAST_BOUNDARY (R656): While the TPLL coasts, release boundaries follow REL_INTERVAL in CBCLK cycles. -/
  | tpllCoastBoundary (b : Nat)
  /-- CLOCK_MUX_SWITCH (R660): A multiplexer switch request changes input by the handshake. -/
  | clockMuxSwitch (x : Mux) (main : Bool)
  /-- CLKSW_FORCED (R661): With no old-input edge for 256 cycles, the multiplexer switches anyway. -/
  | clkswForced (x : Mux)
  /-- CLKSW_FAIL (R662): A new input that gives no 64 edges in 1,024 cycles makes the multiplexer fall back. -/
  | clkswFail (x : Mux)
  /-- CHELLO (R350): A received CHELLO brings a cascade side UP, or to FAULT MISMATCH. -/
  | chello (side : CSide) (lane : Nat) (m : BitVec 248)
  /-- CASCADE_MISMATCH_RETRY (R350): A side in FAULT MISMATCH retries after 10 ms. -/
  | cascadeMismatchRetry (side : CSide)
  /-- CMARK_SEND (R353): Once per ms a hub sends CMARK on each UP side away from the master. -/
  | cmarkSend (side : CSide)
  /-- CMARK (R356): A received CMARK is answered with CECHO and drives LOCKING, LOCKED or a clapper step. -/
  | cmark (side : CSide) (m : BitVec 248) (arrival : Nat)
  /-- CECHO (R354): A received CECHO gives a side delay measurement. -/
  | cecho (side : CSide) (m : BitVec 248) (arrival : Nat)
  /-- CASCADE_SIDE_DOWN (R357): A side leaving UP discards sightings from beyond it, moves boundary bays to CONTESTED and may start HOLDOVER. -/
  | cascadeSideDown (side : CSide) (reason : Nat)
  /-- CMARK_TIMEOUT (R657): No CMARK for 3 ms toward the master puts the hub in HOLDOVER. -/
  | cmarkTimeout
  /-- CASCADE_LANE_SWITCH (R348): When the active lane leaves UP the side switches to its standby lane. -/
  | cascadeLaneSwitch (side : CSide)
  /-- DVFS_STEP (R672): The DVFS sequencer moves voltage, bias, assist and FPLL divider to a new level in order. -/
  | dvfsStep
  /-- VOLTAGE_SETTLED (R673): The AVSBus regulator reports a voltage write settled. -/
  | voltageSettled (mv : Nat)
  /-- DVFS_FAIL (R674): A voltage not settled in 500 µs, or failed AVSBus transactions, fails the step. -/
  | dvfsFail
  /-- S1_ENTRY (R681): A region with no votes and floor S1 takes its ports to DROWSE and gates FCLK. -/
  | s1Entry (r : Nat)
  /-- S1_EXIT (R681): A vote returns an S1 region to S0 and its ports to UP. -/
  | s1Exit (r : Nat)
  /-- S2_ENTRY (R682): A region with no votes and floor S2 takes its ports down and opens its power switch, with abort points. -/
  | s2Entry (r : Nat)
  /-- S2_ABORT (R683): A vote during S2 entry undoes the steps at the next abort point. -/
  | s2Abort (r : Nat)
  /-- S2_EXIT (R685): A vote closes the region switch and the region serves items within 400 µs. -/
  | s2Exit (r : Nat)
  /-- S3_ENTRY (R686): With the last chip vote withdrawn, the chip enters S3 in steps with abort points. -/
  | s3Entry
  /-- S3_ABORT (R686): A wake event during S3 entry aborts it at the next abort point. -/
  | s3Abort
  /-- S3_EXIT (R689): A wake event brings the chip out of S3, relocks the PLLs and reloads the store and regions. -/
  | s3Exit
  /-- WAKE_SOURCE_SERVED (R680): The firmware clears a WAKE_SRC bit once its wake is served, 100 ms after the last SMBus transaction. -/
  | wakeSourceServed (n : Nat)
  /-- S4_ENTRY (R690): VDD_KEEP falls, so the always-on domain moves to VBAT and OUTAGES rises. -/
  | s4Entry
  /-- RNG_SOURCE_SET_OUT (R720): A noise source fails a health test and is set out, discarding the pool. -/
  | rngSourceSetOut (n : Nat) (test : Nat)
  /-- RNG_SOURCE_RETURN (R721): A set-out source that passes every test for 10 s returns. -/
  | rngSourceReturn (n : Nat)
  /-- RNG_STARTUP_DONE (R722): A source passes its startup tests and is admitted. -/
  | rngStartupDone (n : Nat)
  /-- CONDITIONED_BLOCK (R724): After 1,024 raw bits the conditioner delivers a block to the pool. -/
  | conditionedBlock (raw : List Bool)
  /-- DRBG_RESEED (R728): The 4,097th generate request reseeds the DRBG from two pool blocks. -/
  | drbgReseed
  /-- DRBG_INSTANTIATE (R727): The DRBG is instantiated from fresh pool blocks, and the RNG becomes available. -/
  | drbgInstantiate
  /-- NONCE_RESERVE_REFILL (R735): A reserve at 376 values or fewer is refilled by one generate request of 8. -/
  | nonceReserveRefill
  /-- POR_N_ASSERT (R746): POR_N low resets every domain but the always-on one and drops PWRPERMIT. -/
  | porNAssert
  /-- SYS_RST_N_ASSERT (R746): SYS_RST_N low resets as POR_N, keeping the fault record and reset cause. -/
  | sysRstNAssert
  /-- BROWN_OUT (R807): A rail below its brown-out threshold holds the hub in reset. -/
  | brownOut (rail : Rail) (mv : Nat) (torn : Nat)
  /-- BOOT (R749): On reset release the ROM reads the fuses, chooses and checks a supervisor image, and brings up the hub. -/
  | boot (m : BootInput)
  /-- TRIAL_CONFIRM (R765): FW_READY held for 60 s with no chip fault clears TRIAL in the boot record. -/
  | trialConfirm
  /-- CRED_STORE_LOADED (R368): The credential store finishes loading and CRED_LOADING clears. -/
  | credStoreLoaded
  /-- TRAINING_RETRY (R113): 100 ms after a failed training attempt sends the port DOWN, the hub starts training again. -/
  | trainingRetry (b : Nat)
  /-- FRAME_WAITING_TIME_EXPIRY (R214): The card's FWT, with its extensions, passes with no valid response, so the reader retransmits or ends the
  transaction CARD_TIMEOUT, WRITE_UNKNOWN or NO_CARD. -/
  | frameWaitingTimeExpiry (b : Nat)
  /-- BUS_FRAME_COMPLETE (R553): A safety-cut frame completes on the release bus, after which PWRPERMIT[r] is lowered for PERMIT_DROP or a CUT
  quarantine. -/
  | busFrameComplete (b : Nat)
  /-- BUS_OFF_RECOVERY (R428): The release bus controller completes ISO 11898-1 bus-off recovery and returns to sending. -/
  | busOffRecovery (r : Nat)
  /-- SECTOR_ERASE_COMPLETE (R470): A background flash sector erase of the reel, a tag image slot or a store sector ends, adding erased space. -/
  | sectorEraseComplete
  /-- RECOVERY_BURST_RETRY (R490): Every 100 ms while main power is present, a recovery burst that was refused admission is tried again. -/
  | recoveryBurstRetry
  /-- CRED_STORE_ECC (R362): An ECC error in the credential store SRAM is repaired and counted in CRED_ECC, or, if uncorrectable, makes the slot's
  block reload from flash. -/
  | credStoreEcc (slot : Nat) (uncorrectable : Bool)
  /-- CRYPTO_LANE_FAILURE (R622): A failed AES lane is taken out of the crypto cluster, and a hash lane failure or the loss of the last AES lane
  halts the region sequencer. -/
  | cryptoLaneFailure (r : Nat) (hash : Bool)
  /-- SEQUENCER_MEMORY_ERROR (R622): An uncorrectable error in sequencer memory halts the region sequencer, so that it hands no further frames until
  its watchdog expires. -/
  | sequencerMemoryError (r : Nat)
  /-- PCIE_LINK_UP (R494): A PCI Express port's link returns, so the active port's link is no longer down for claims while its mailboxes stay
  disabled. -/
  | pcieLinkUp (p : Port)
  /-- JTAG_INSTRUCTION (R773): A JTAG instruction acts by the life-cycle state, including debug holds of the supervisor or a region that set the
  debug votes. -/
  | jtagInstruction (i : Jtag)
  deriving DecidableEq, Repr

end Sys2Proof
end

