-- ==== Sys2Proof/Config.lean ====
section
/-! DEFINITION. What the manual leaves open or gives only by naming a standard. Every constant here is OPAQUE: it has no
body, nothing can evaluate it, and a statement that holds holds for every value of it. -/

namespace Sys2Proof.Config

/-! ## Standard primitives the manual names and does not spell out (assumption log) -/

/-- SHA-256 of a message. -/
opaque sha256 : List Byte → BitVec 256

/-- AES-128 CMAC under a key. -/
opaque aesCmac : BitVec 128 → List Byte → BitVec 128

/-- AES-128 encryption of one block under a key. -/
opaque aesBlock : BitVec 128 → BitVec 128 → BitVec 128

/-- AES-256 encryption of one block under a key. -/
opaque aes256 : BitVec 256 → BitVec 128 → BitVec 128

/-- AES-256 key wrap (RFC 3394) of key material under a key, and its inverse with the integrity check. -/
opaque kwWrap : BitVec 256 → List Byte → List Byte
opaque kwUnwrap : BitVec 256 → List Byte → Option (List Byte)

/-- ECDSA P-256: does the signature (r, s) verify over the hash under the public key (x, y)? -/
opaque ecdsaVerify : BitVec 512 → BitVec 256 → BitVec 512 → Bool

/-- ECDSA P-256 signature with the RFC 6979 nonce, by the private key of the vault record named. -/
opaque ecdsaSign : Nat → BitVec 256 → BitVec 512

/-- The public key of the device identity pair. -/
opaque devicePublic : BitVec 512

/-- The device serial in the fuses (R501): a constant of the part. -/
opaque serial : BitVec 64

/-- The version of the boot ROM (R601): a constant of the part. -/
opaque romVersion : BitVec 32

/-- SHA-256 hashes of the two image-signing public keys in OTP (R759): constants of the part. -/
opaque imageKeyHash : Nat → BitVec 256

/-- AES-CCM* with a 64-bit MIC (IEEE 802.15.4): opening of a payload under a key and a 13-byte nonce. -/
opaque ccmOpen : BitVec 128 → List Byte → List Byte → Option (List Byte)

/-- AES-CCM* with a 64-bit MIC: the payload sealed, its MIC after it. -/
opaque ccmSeal : BitVec 128 → List Byte → List Byte → List Byte

/-- The pulse, if any, at a chip of the preamble, SFD, PHR and payload of an IEEE 802.15.4 HRP frame, counted without its STS, for a preamble
code and a payload: true positive, false negative. -/
opaque hrpPulse : (pcode : Nat) → (payload : List Byte) → (chip : Nat) → Option Bool

/-- Whether the HF field lies at its modulated level at a tick after the start of a frame that the reader sends (ISO/IEC 14443-2). -/
opaque hfModulated : (frame : List Byte) → (rate : Nat) → (typeB : Bool) → (tick : Nat) → Bool

/-- Whether the emulated tag modulates at a tick after the start of a frame it sends (ISO/IEC 14443-2). -/
opaque tagModulated : (frame : List Byte) → (tick : Nat) → Bool

/-- The pulse at a chip of the slates of a modulated UWB test (R167), which the manual does not state: bay and clapper tick. -/
opaque testPulse : (b tick : Nat) → Option Bool

/-! ## Real arithmetic the manual states by its formula -/

/-- How a quotient that is not exact is rounded where the manual does not say: up or down. -/
opaque roundUp : Int → Nat → Bool

/-- atan2(y, x) in units of 2π/65,536. -/
opaque atan2Units : Int → Int → BitVec 16

/-- The elevation atan2(√(1 − n/d), √(n/d)) in units of 2π/65,536, values above 1 taken as 1 (R286, R287). -/
opaque elevationUnits : Nat → Nat → BitVec 16

/-- arcsin(n/d) in units of 2π/65,536, values beyond ±1 taken as ±1. -/
opaque arcsinUnits : Int → Nat → BitVec 16

/-! ## The linear algebra of the position fix (R327, R329, R330)

The manual computes the fix in real numbers. What a step of it yields is opaque here; the loop, the rejection of listeners and every
decision taken on the results are the model's meaning. Coordinates and deviations are in µm, masses in 10^-9. -/

/-- A point of the park frame. -/
structure Point where
  x : Int := 0
  y : Int := 0
  z : Int := 0
  deriving DecidableEq, Repr, Inhabited

/-- Where a head stands (R321): POS in mm, ORIENT in 2π/65,536. -/
structure HeadPose where
  pos : List Int
  orient : List Int
  deriving DecidableEq, Repr, Inhabited

/-- A measurement of R327 with what its deviation depends on: FPQ, and the factor of FP_SUSPECT or FP_EDGE, the hubs or the boresight. -/
inductive FixMeas where
  /-- Range in mm to the antenna of a head given by its place in the head frame; deviation 25 mm × s(FPQ) × factor. -/
  | range (h : HeadPose) (ant : List Int) (mm fpq factor : Nat)
  /-- Difference of arrival, listener less own head, in 1/256 tick; deviation mm × s(FPQ). -/
  | tdoa (h own : HeadPose) (diff : Int) (mm fpq : Nat)
  /-- Azimuth and elevation, or azimuth only; deviation in degrees. -/
  | aoa (h : HeadPose) (az el : Nat) (axis1 : Bool) (deg : Nat)
  | height (z sigma : Nat)
  deriving DecidableEq, Repr, Inhabited

/-- The x-y part of the covariance: principal deviations in µm and the direction of the major axis in 2π/65,536. -/
structure Spread where
  major : Nat := 0
  minor : Nat := 0
  axis : Nat := 0
  deriving DecidableEq, Repr, Inhabited

/-- The weighted step from a point; none where the normal matrix has a condition number above 10^8. -/
opaque fixStep : List FixMeas → Point → Option Point

/-- The magnitude of a measurement's residual at a point exceeds 4 times its deviation. -/
opaque fixOutlier : FixMeas → Point → Bool

/-- The inverse of the normal matrix at a point, in x and y. -/
opaque fixSpread : List FixMeas → Point → Spread

/-- The point at a range from a head in the direction of its own angles of arrival. -/
opaque fixStart : HeadPose → (mm az el : Nat) → (axis1 : Bool) → Point

/-- The mass of the normal distribution inside a polygon. -/
opaque polygonMass : Point → Spread → List (Int × Int) → Nat

/-! ## The geometry of a calibration (R787, R788)

Distances are in µm, phases in 2π/65,536, losses in 0.001 dB; the manual computes them in real numbers. -/

/-- Distance from a point of the head frame, carried into the park by the head's pose, to a surveyed point, mm. -/
opaque calDistance : HeadPose → List Int → (x y z : Int) → Nat

/-- A surveyed point lies more than 45° from the head's boresight. -/
opaque offBoresight : HeadPose → (x y z : Int) → Bool

/-- Phase difference of the x pair or of the y pair, by its spacing in mm and the channel, for a signal from a surveyed point. -/
opaque calPhaseX : HeadPose → (d ch : Nat) → (x y z : Int) → Int
opaque calPhaseY : HeadPose → (d ch : Nat) → (x y z : Int) → Int

/-- Free-space loss over a distance on UHF band 0 (433 MHz) or 1 (868 MHz). -/
opaque freeSpaceLoss : (band um : Nat) → Int

/-! ## Free values: what results, but the manual does not say which -/

/-- What fails as the credential store is read from flash (R367), for each draw number: sectors, each a block and whether it is the second, and
slots. -/
opaque storeFails : Nat → List (Nat × Bool) × List Nat

/-- A fresh free value of `w` bits for each draw number. -/
opaque free : Nat → (w : Nat) → BitVec w

/-- Output of the noise sources and of the DRBG: draw number, bits. -/
opaque random : Nat → (w : Nat) → BitVec w

end Sys2Proof.Config
end

