-- ==== Sys2Proof/Machine/Util.lean ====
section
/-! DEFINITION. Helpers with no hardware state: bit fields, byte order, field lists of the manual's layouts, the CRCs
the manual states in full, saturating counters, serial-number order, and sparse tables in one canonical form. -/

namespace Sys2Proof.Machine

/-! ## Byte order and layouts -/

/-- The number a list of bytes spells, least significant byte first (R7). -/
def leNat : List Byte → Nat
  | [] => 0
  | b :: r => b.toNat + 256 * leNat r

/-- The number a list of bytes spells, most significant byte first. -/
def beNat (l : List Byte) : Nat := leNat l.reverse

/-- `n` bytes of a number, least significant first (R7). -/
def toLe : Nat → Nat → List Byte
  | 0, _ => []
  | n + 1, v => BitVec.ofNat 8 v :: toLe n (v / 256)

/-- Field of `n` bytes at byte `o` of a little-endian structure; bytes past the end read 0. -/
def fld (l : List Byte) (o n : Nat) : Nat := leNat ((l.drop o).take n)

/-- A signature of 64 bytes, r then s, each a little-endian field (R7, R412, R449, R757), as the word r ‖ s. -/
def sigOf (l : List Byte) : BitVec 512 := BitVec.ofNat 512 (leNat (l.take 32) * 2 ^ 256 + leNat ((l.drop 32).take 32))

/-- The 64 bytes of a signature. -/
def sigBytes (x : BitVec 512) : List Byte := toLe 32 (x.toNat / 2 ^ 256) ++ toLe 32 x.toNat

/-- Byte `o` of a structure, 0 past its end. -/
def byteAt (l : List Byte) (o : Nat) : Byte := (l[o]?).getD 0

/-- Bits [msb:lsb] of a number (R6). -/
def bits (v msb lsb : Nat) : Nat := (v / 2 ^ lsb) % 2 ^ (msb + 1 - lsb)

/-- Bit `n` of a number. -/
def bit (v n : Nat) : Bool := v.testBit n

/-- A flag as a number. -/
def b2n (b : Bool) : Nat := if b then 1 else 0

/-- A number built from flags, bit 0 first. -/
def flags : List Bool → Nat
  | [] => 0
  | b :: r => b2n b + 2 * flags r

/-- Two's complement reading of a field of `w` bits. -/
def signed (w v : Nat) : Int := if v < 2 ^ (w - 1) then (v : Int) else (v : Int) - (2 ^ w : Nat)

/-- Two's complement coding of a signed value in `w` bits. -/
def unsigned (w : Nat) (i : Int) : Nat := (i % ((2 ^ w : Nat) : Int)).toNat

/-- One row of a layout of the manual: byte offset, width in bytes, value. -/
structure Fld where
  off : Nat
  len : Nat
  val : Nat
  deriving DecidableEq, Repr

/-- The byte a list of layout rows puts at offset `i`; 0 where no row covers it. -/
def layByte : List Fld → Nat → Byte
  | [], _ => 0
  | f :: r, i => if f.off ≤ i ∧ i < f.off + f.len then BitVec.ofNat 8 (f.val / 256 ^ (i - f.off)) else layByte r i

/-- `n` bytes of a structure given by its layout rows, from offset 0. -/
def render (n : Nat) (l : List Fld) : List Byte := (List.range n).map (layByte l)

/-- The bytes `[o, o+n)` of a structure given by its layout rows. -/
def renderFrom (o n : Nat) (l : List Fld) : List Byte := (List.range n).map (fun i => layByte l (o + i))

/-- A list of bytes as one layout row at offset `o`. -/
def bytesFld (o : Nat) (l : List Byte) : Fld := { off := o, len := l.length, val := leNat l }

/-! ## Counters and serial numbers -/

/-- 2^32 - 1, where the manual's 32-bit counters saturate. -/
def sat32 : Nat := 0xFFFFFFFF

/-- A counter of the hub counts `k` more and saturates at 0xFFFF_FFFF. -/
def satAdd (c k : Nat) : Nat := if c + k ≤ sat32 then c + k else sat32

/-- A counter that saturates at `m`. -/
def satAddAt (m c k : Nat) : Nat := if c + k ≤ m then c + k else m

/-- Serial-number order modulo 2^`w`: `x` lies ahead of `y` (R47 with w = 32). -/
def serialAhead (w x y : Nat) : Bool :=
  let d := (x + 2 ^ w - y % 2 ^ w) % 2 ^ w
  0 < d && d < 2 ^ (w - 1)

/-- `a - b` modulo `m`, for pointers that count modulo `m` (R503). -/
def subMod (m a b : Nat) : Nat := (a + m - b % m) % m

/-! ## CRCs the manual states -/

/-- One bit of a reflected CRC of polynomial `poly`. -/
def crcBitR (poly c : Nat) : Nat := if c % 2 = 1 then (c / 2) ^^^ poly else c / 2

/-- One byte of a reflected CRC. -/
def crcByteR (poly c : Nat) (b : Byte) : Nat :=
  let c := c ^^^ b.toNat
  crcBitR poly (crcBitR poly (crcBitR poly (crcBitR poly (crcBitR poly (crcBitR poly (crcBitR poly (crcBitR poly c)))))))

/-- CRC-32 as R84 computes it: reflected polynomial 0xEDB8_8320, initial and final complement. -/
def crc32 (l : List Byte) : Nat := (l.foldl (crcByteR 0xEDB88320) 0xFFFFFFFF) ^^^ 0xFFFFFFFF

/-! ## Sparse tables -/

/-- A sparse table in ONE canonical form: keys strictly rising, no entry equal to what an unlisted key reads as. -/
abbrev Tab (α : Type) := List (Nat × α)

/-- What key `k` reads as; `d` where it is not listed. -/
def Tab.get {α : Type} (d : α) : Tab α → Nat → α
  | [], _ => d
  | (j, v) :: r, k => if j = k then v else Tab.get d r k

/-- The table with key `k` removed. -/
def Tab.erase {α : Type} : Tab α → Nat → Tab α
  | [], _ => []
  | (j, v) :: r, k => if j = k then r else (j, v) :: Tab.erase r k

/-- The table with `v` listed at key `k`, keys kept rising. -/
def Tab.ins {α : Type} (k : Nat) (v : α) : Tab α → Tab α
  | [] => [(k, v)]
  | (j, u) :: r => if k < j then (k, v) :: (j, u) :: r else if j = k then (k, v) :: r else (j, u) :: Tab.ins k v r

/-- Write: key `k` reads `v` afterwards; writing what an unlisted key reads as removes the entry. -/
def Tab.put {α : Type} [DecidableEq α] (d : α) (k : Nat) (v : α) (t : Tab α) : Tab α :=
  if v = d then Tab.erase t k else Tab.ins k v t

/-- The keys of a table, in order, are strictly rising and above `lo`. -/
def Tab.sortedAbove {α : Type} : Nat → Tab α → Bool
  | _, [] => true
  | lo, (j, _) :: r => decide (lo ≤ j) && Tab.sortedAbove (j + 1) r

/-- The canonical form of a sparse table. -/
def Tab.wf {α : Type} [DecidableEq α] (d : α) (t : Tab α) : Bool :=
  Tab.sortedAbove 0 t && t.all (fun p => decide (p.2 ≠ d))

/-! ## Lists of like things -/

/-- Element `i` of a fixed file of like things. -/
def nth {α : Type} (d : α) (l : List α) (i : Nat) : α := (l[i]?).getD d

/-- The list with element `i` changed by `f`; no element `i`: unchanged. -/
def modNth {α : Type} (l : List α) (i : Nat) (f : α → α) : List α := l.modify i f

/-- `f` applied for each element of a list of indices, in order. -/
def forAll {σ : Type} (l : List Nat) (f : Nat → σ → σ) (s : σ) : σ := l.foldl (fun s i => f i s) s

end Sys2Proof.Machine
end

