-- ==== Sys2Proof/Machine/StHost.lean ====
section
/-! DEFINITION. State of the host side: the two PCI Express ports with their mailboxes and notice rings (R493 to R525),
the SMBus management port (R526 to R528), and what the hub sends out. Field defaults are the reset values. -/

namespace Sys2Proof.Machine

/-- Status codes of responses and COMMAND_DONE. -/
inductive Status where
  | ok | accepted | badOpcode | badLength | badParam | wrongState | notPresent | busy | noResource
  | authFail | notAuthorised | quota | limitReached | logFull | holdupLow
  | radioBusy | txLate | coexDenied | regLimit | rngUnavailable
  | imageIncompatible | imageBadSig | regionQuarantined | internal
  deriving DecidableEq, Repr

/-- The code a status has in entries, notices and descriptors. -/
def Status.code : Status → Nat
  | .ok => 0x00 | .accepted => 0x01 | .badOpcode => 0x10 | .badLength => 0x11 | .badParam => 0x12
  | .wrongState => 0x13 | .notPresent => 0x14 | .busy => 0x15 | .noResource => 0x16
  | .authFail => 0x20 | .notAuthorised => 0x21 | .quota => 0x22 | .limitReached => 0x23
  | .logFull => 0x30 | .holdupLow => 0x31 | .radioBusy => 0x40 | .txLate => 0x41 | .coexDenied => 0x42
  | .regLimit => 0x43 | .rngUnavailable => 0x50 | .imageIncompatible => 0x60 | .imageBadSig => 0x61
  | .regionQuarantined => 0x70 | .internal => 0x7F

/-- One mailbox: its registers (R502) and the SEQ it expects next (R508). -/
structure Mailbox where
  cmdBase : Nat := 0
  rspBase : Nat := 0
  cmdTail : Nat := 0
  cmdHead : Nat := 0
  rspTail : Nat := 0
  rspHead : Nat := 0
  enable : Bool := false
  /-- R506, R507: stopped by a bad pointer or a failed fetch, until RESET. -/
  stopped : Bool := false
  dmaErr : Bool := false
  seqErr : Bool := false
  ringErr : Bool := false
  /-- R508: the SEQ the next entry must carry; none before the first entry after ENABLE. -/
  seqNext : Option Nat := none
  deriving DecidableEq, Repr

/-- The notice ring registers of one port (R522). -/
structure NoticeRing where
  base : Nat := 0
  head : Nat := 0
  tail : Nat := 0
  enable : Bool := false
  lost : Nat := 0
  /-- NTC_SEQ: sequence of the last notice produced for this port (R521). -/
  seq : Nat := 0
  deriving DecidableEq, Repr

/-- One PCI Express port. -/
structure HostPort where
  /-- The PCI Express link is up; reset takes it down. -/
  linkUp : Bool := false
  /-- HOST_ERR [3:0]: BAD_POINTER, ROLE_REFUSED, WRITE_REFUSED, PARTIAL_WRITE. -/
  badPointer : Bool := false
  roleRefused : Bool := false
  writeRefused : Bool := false
  partialWrite : Bool := false
  normal : Mailbox := {}
  urgent : Mailbox := {}
  ntc : NoticeRing := {}
  /-- INT_CAUSE bits 4 to 0 (R525); bit 5 TIMER is computed from the timers. -/
  cause : Nat := 0
  /-- INT_CAUSE bit 5 as last seen, so that vector 5 sends its message on a rise (R525). -/
  timerSeen : Bool := false
  /-- MSI-X table, 24 words at 0x0004_0000 (vector v: address low, high, data, control), R524. -/
  msix : List Nat := [0, 0, 0, 1, 0, 0, 0, 1, 0, 0, 0, 1, 0, 0, 0, 1, 0, 0, 0, 1, 0, 0, 0, 1]
  /-- Pending bits of the PBA at 0x0004_0800. -/
  pba : Nat := 0
  deriving DecidableEq, Repr

/-- The SMBus management port (R526 to R528). -/
structure Smb where
  busy : Bool := false
  rspReady : Bool := false
  /-- The command held while BUSY. -/
  held : Option Req := none
  /-- The response held while RSP_READY. -/
  rsp : List Byte := []
  /-- SMB_ALERT_N driven low. -/
  alertLow : Bool := false
  /-- The time of the last SMBus transaction, for WAKE_SRC (R680). -/
  lastUse : Nat := 0
  deriving DecidableEq, Repr

/-- What a command of the host is answered to, kept while it runs (R511, R512). -/
structure CmdRef where
  mbx : Mbx
  op : Nat
  tag : Nat
  seq : Nat
  src : Nat
  deriving DecidableEq, Repr

/-- A command answered ACCEPTED that has not yet been reported complete (R510, R511), with its final status, result rows and result data once it has
them. -/
structure Running where
  ref : CmdRef
  fin : Option (Status × List Fld × List Byte) := none
  deriving DecidableEq, Repr

/-- The host side. -/
structure HostSide where
  portA : HostPort := {}
  portB : HostPort := {}
  /-- The active port (R495). -/
  active : Option Port := none
  /-- Time of the active port's last HEARTBEAT. -/
  heartbeat : Nat := 0
  hbLapsed : Bool := false
  /-- Commands answered ACCEPTED, in the order in which they were fetched (R510). -/
  running : List Running := []
  smb : Smb := {}
  deriving DecidableEq, Repr

/-- What the hub sends out of itself. The list of these in State is the model's own record of its outputs
(assumption log): nothing in the hub reads it. -/
inductive Out where
  /-- A response entry written to a response ring slot (R505): status, FLAGS, result rows. -/
  | rsp (dest : Mbx) (slot : Nat) (op tag seq : Nat) (st : Status) (flags : Nat) (res : List Fld)
  /-- Result data written by DMA (R513). -/
  | dma (dest : Mbx) (data : List Byte)
  /-- A notice written to a port's ring (R519): slot, type, source, sequence, time, body rows. -/
  | notice (p : Port) (slot typ src nseq time : Nat) (body : List Fld)
  /-- An MSI-X message of a vector (R525). -/
  | msix (p : Port) (vec : Nat)
  /-- The value a register read or an SMBus read returned. -/
  | read (v : Nat)
  | readBytes (l : List Byte)
  /-- The port did not answer (NACK), R527. -/
  | nack
  /-- Blocks sent to the head of a bay in a row (R80): a control block, or START and the data blocks of a slate. -/
  | lane (b : Nat) (blocks : List (BitVec 257))
  /-- A frame on the release bus of a region (R411): identifier and bytes. -/
  | frame (r ident : Nat) (l : List Byte)
  /-- A frame the tag or the reader sends over HF at a bay. -/
  | hf (b : Nat) (l : List Byte)
  /-- A packet on the sighting exchange network of this hub (R67): its type and its 256 bits. -/
  | sight (kind : Nat) (bits_ : BitVec 256)
  /-- A block on a lane of a cascade side (R349). -/
  | casc (side lane : Nat) (block : BitVec 257)
  /-- An AVSBus write of a voltage code (R673). -/
  | avs (code : Nat)
  /-- Pages programmed in flash, from an address of the flash map (R755) on. -/
  | program (addr : Nat) (l : List Byte)
  deriving DecidableEq, Repr

end Sys2Proof.Machine
end

