-- ==== Sys2Proof/Machine/StLink.lean ====
section
/-! DEFINITION. State of one head port: the Enroven Head Link (R77 to R125) and the radio behind it (R126 to R171).
Field defaults are the values after reset: the port is disabled and held DOWN (R539). -/

namespace Sys2Proof.Machine

/-- Link states of a port (R113), coded as NEW in R123. -/
inductive LinkState where
  | down | training | up | drowse | fault
  deriving DecidableEq, Repr

/-- REASON of LINK_STATE (R123). -/
inductive LinkReason where
  | none_ | lockLost | crcBurst | headReported | delayRange | incompatible | duplicate | creditTimeout
  | trainTimeout | hostDisable | delayChanged
  deriving DecidableEq, Repr

/-- Radio states of the UWB chain (R85, R130). -/
inductive RadioState where
  | off | sleep | standby | settle | cal | rx | tx
  deriving DecidableEq, Repr

/-- Steps of training (R114). -/
inductive TrainStep where
  | adapt | equalise | hello | limits | go | echoes
  deriving DecidableEq, Repr

/-- What a cue was sent for, so that its echo ends the right step. -/
inductive CuePurpose where
  | radio | calibrate | measure | test | testEnd | field | burst
  deriving DecidableEq, Repr

/-- A cue that is outstanding at a head (R92), with the time by which its echo is due (R96). -/
structure Cue where
  opc : Nat
  cseq : Nat
  exec : Nat
  win : Nat
  imm : Bool
  arg : Nat
  why : CuePurpose
  /-- Queue of the item whose step the cue is. -/
  q : Option Nat := none
  /-- Clapper tick by which the echo is due (R96); none while the cue has no end of its own. -/
  due : Option Nat := none
  /-- Its effect has been taken into the bay block's copy of the radio's state. -/
  applied : Bool := false
  deriving DecidableEq, Repr

/-- What IDENT told of a head (R116). -/
structure Ident where
  vendor : Nat := 0
  model : Nat := 0
  major : Nat := 0
  minor : Nat := 0
  serial : Nat := 0
  antennas : Nat := 0
  hasLf : Bool := false
  hasHf : Bool := false
  uhf433 : Bool := false
  uhf868 : Bool := false
  hasCap : Bool := false
  fwVer : Nat := 0
  deriving DecidableEq, Repr

/-- One side's transmit equaliser (R115): coefficients in units of 1/32. -/
structure Eq where
  preset : Nat := 0
  cm1 : Int := 0
  c0 : Int := 32
  cp1 : Int := 0
  ampl : Nat := 2
  atLimit : Bool := false
  /-- A DONE has been received from the far side. -/
  doneSeen : Bool := false
  /-- DONE sent, and an EQ_STATUS with DONE_SEEN received in answer. -/
  doneSent : Bool := false
  doneAcked : Bool := false
  deriving DecidableEq, Repr

/-- Codeword lock of a receiver (R81): outcomes of the last codewords, newest first. -/
structure CwLock where
  locked : Bool := false
  goodRun : Nat := 0
  /-- For the last 16 codewords, whether each was uncorrectable. -/
  last16 : List Bool := []
  /-- The descrambler: the last 58 bits received (R79). -/
  scr : Nat := 0
  deriving DecidableEq, Repr

/-- Control credits of both directions (R97). -/
structure Credits where
  /-- Downstream credits the hub holds. -/
  held : Nat := 16
  /-- The head's cumulative CRET last taken in. -/
  cretSeen : Nat := 0
  /-- The head's cumulative ECNT last taken in. -/
  ecntSeen : Nat := 0
  /-- Credited echoes that arrived. -/
  echoes : Nat := 0
  /-- Upstream credits returned to the head, cumulative (CRET of the downstream header). -/
  cretOut : Nat := 0
  /-- Since when no downstream credit has been held while cues are outstanding (R101). -/
  emptySince : Option Nat := none
  deriving DecidableEq, Repr

/-- Time transfer (R104 to R110). -/
structure Timing where
  /-- The last 16 accepted delay measurements, ticks, newest first. -/
  meas : List Nat := []
  /-- Consecutive outliers, newest first (R108). -/
  outliers : List Nat := []
  /-- Consecutive accepted measurements that agree within 2 ticks (R110). -/
  agree : Nat := 0
  settled : Bool := false
  /-- Accepted echoes since GO (R114). -/
  accepted : Nat := 0
  /-- MARK_NUM and START launch time of the last marker sent. -/
  markNum : Nat := 0
  markLaunch : Nat := 0
  deriving DecidableEq, Repr

/-- The port counters, in the order of R122. -/
structure PortCnt where
  fecCorr : Nat := 0
  fecUncorr : Nat := 0
  usCrc : Nat := 0
  usLost : Nat := 0
  dsLossRpt : Nat := 0
  cueMissing : Nat := 0
  cueUnknown : Nat := 0
  timeSlip : Nat := 0
  delayOutlier : Nat := 0
  trainFail : Nat := 0
  protoErr : Nat := 0
  deriving DecidableEq, Repr

/-- The last good upstream header and auxiliary field (R85, R87). -/
structure HeadReport where
  seq : Nat := 0
  time : Nat := 0
  /-- A good slate has been received since UP or GO. -/
  valid : Bool := false
  radio : RadioState := .off
  emUwb : Bool := false
  emLf : Bool := false
  emHf : Bool := false
  lock : Bool := false
  hfault : Bool := false
  tempHigh : Bool := false
  supplyLow : Bool := false
  touch : Bool := false
  temp : Int := 0
  lfCur : Int := 0
  hfCur : Int := 0
  cap : Nat := 0
  hfGain : Nat := 0
  uhfGain : Nat := 0
  /-- The two HF and the two UHF baseband samples of the slate, I and Q. -/
  hfIq : List (Int × Int) := []
  uhfIq : List (Int × Int) := []
  deriving DecidableEq, Repr

/-- Parts of a head port that start anew at each training. -/
structure Link where
  enabled : Bool := false
  /-- A FORCE disable waits for SESSION_SEALED (R539), with its command. -/
  disableRef : Option CmdRef := none
  disableDue : Bool := false
  state : LinkState := .down
  reason : LinkReason := .none_
  /-- Signal on HEAD_RX of the port. -/
  signal : Bool := false
  /-- Time at which the present state was entered. -/
  since : Nat := 0
  /-- Time of the last good upstream slate or head DROWSE block. -/
  lastGood : Nat := 0
  /-- In DROWSE: time at which WAKE was sent. -/
  wakeAt : Option Nat := none
  /-- Time at which the signal was last seen to fall. -/
  signalLost : Option Nat := none
  trainFails : Nat := 0
  step : TrainStep := .adapt
  /-- The hub's receiver is adapted and its clock recovered. -/
  cw : CwLock := {}
  eq : Eq := {}
  ident : Ident := {}
  headChanged : Bool := false
  /-- Reason of the head's last LINKDOWN block (R80). -/
  farReason : Nat := 0
  limitsCrc : Nat := 0
  deriving DecidableEq, Repr

/-- Slates, cues and time of a port that is UP or DROWSE. -/
structure Slates where
  dnSeq : Nat := 0
  /-- TIME of the last slate launched. -/
  dnTime : Nat := 0
  upFmt : Nat := 0
  /-- Time up to which either format is accepted after a change of UPFMT (R88). -/
  fmtGrace : Nat := 0
  fmtOld : Nat := 0
  cseqNext : Nat := 0
  /-- Cues waiting for a credit, oldest first. -/
  toSend : List Cue := []
  /-- Cues sent whose echo has not arrived, oldest first. -/
  outstanding : List Cue := []
  credits : Credits := {}
  timing : Timing := {}
  rep : HeadReport := {}
  /-- EMIT_STOP holds (R102), and slates left of the 16 it must last. -/
  emitStop : Bool := false
  emitLeft : Nat := 0
  /-- The stop holds beyond them. -/
  emitHold : Bool := false
  drowseReq : Bool := false
  /-- A slate with DROWSE_REQ has been launched: no cue goes out until the head's block. -/
  drowseTold : Bool := false
  /-- Suspect spans of the last ms, from and to in clapper ticks, newest first (R112). -/
  suspect : List (Nat × Nat) := []
  /-- Consecutive good slates with HFAULT (R113). -/
  hfaultRun : Nat := 0
  /-- A QUERY has been sent in DROWSE and not answered. -/
  queryAt : Option Nat := none
  cnt : PortCnt := {}
  deriving DecidableEq, Repr

/-- The radio counters, in the order of R171. -/
structure RadioCnt where
  lockFail : Nat := 0
  calFail : Nat := 0
  radioBusy : Nat := 0
  txLateStart : Nat := 0
  txUnstaged : Nat := 0
  regRefused : Nat := 0
  coexDefer : Nat := 0
  coexDenied : Nat := 0
  mismatch : Nat := 0
  deriving DecidableEq, Repr

/-- What a UWB burst carries. -/
inductive BurstKind where
  | auth | setup | poll | final | challenge (i : Nat)
  deriving DecidableEq, Repr

/-- A UWB burst in the staging buffer (R143 to R146). -/
structure Burst where
  kind : BurstKind
  /-- Queue of the item whose burst it is, and the payload as it goes on the air. -/
  q : Nat
  payload : List Byte := []
  /-- It has a PHR and a payload, and the payload's length. -/
  phr : Bool := false
  bytes : Nat := 0
  /-- Key and first counter block of its STS (R262). -/
  stsKey : BitVec 128 := 0
  stsCtr : BitVec 128 := 0
  /-- Chip codes of a challenge (R301). -/
  chips : List Nat := []
  /-- Preamble code (R254, R390). -/
  pcode : Nat := 9
  /-- Clapper tick of the first chip. -/
  first : Nat
  slates : Nat
  pulses : Nat
  stsChips : Nat
  /-- STS chips written so far; the burst is staged when this reaches `stsChips` and the description is present. -/
  stsReady : Nat
  desc : Bool
  antenna : Nat
  backToRx : Bool
  win : Nat
  deriving DecidableEq, Repr

/-- A compliance test emission at a bay (R167 to R170). -/
structure TestRun where
  opc : Nat
  /-- The channel and power cue argument for a UWB test. -/
  power : Nat := 0
  arg : Nat
  ref : CmdRef
  /-- Time at which the test cue was sent; none while the port is still being woken or the bay moved to IDLE. -/
  started : Option Nat
  /-- The instant planned for its first emission where coexistence is enabled (R157). -/
  air : Option Nat := none
  /-- TEST_END sent for it. -/
  endRef : Option CmdRef := none
  deriving DecidableEq, Repr

/-- The radio of a bay: the bay block's copy of the state machine and what is planned against it (R130 to R146). -/
structure Radio where
  copy : RadioState := .off
  /-- The cue that took the chain into SETTLE was a UWB_TX. -/
  settleForTx : Bool := false
  /-- Consecutive good slates whose RADIO disagrees with the copy (R133). -/
  mismatchRun : Nat := 0
  /-- A change the copy has taken may still be in progress at the head until this time (R130). -/
  graceTo : Nat := 0
  /-- TIME of the slate whose RADIO first showed the present RX. -/
  rxAt : Nat := 0
  channel : Nat := 9
  power : Nat := 0
  gainAuto : Bool := true
  gainStep : Nat := 0
  uhfOn : Bool := false
  uhfGainAuto : Bool := true
  uhfGainStep : Nat := 0
  /-- REG_BAR in force (R127). -/
  bar : Nat := 0
  staged : Option Burst := none
  /-- The burst whose UWB_TX is out, and the burst whose chips go into the slates (R146). -/
  running : Option Burst := none
  playing : Option Burst := none
  /-- TEMP at the last calibration run and its time; none before the first; and whether a run has succeeded since the port came UP (R134). -/
  calTemp : Option Int := none
  calAt : Nat := 0
  calOk : Bool := false
  lockFailRun : Nat := 0
  /-- Runs of the present occasion that have failed: 0 or 1 (R136). -/
  calTry : Nat := 0
  /-- A calibration item waits at the call sheet. -/
  calDue : Bool := false
  /-- Pulses radiated, by the start of each symbol with its count, and frame times, newest first (R153, R154). -/
  pulseLog : List (Nat × Nat) := []
  frameLog : List Nat := []
  /-- LF drive: start and length in ticks of each time the coil was driven. -/
  lfLog : List (Nat × Nat) := []
  test : Option TestRun := none
  cnt : RadioCnt := {}
  deriving DecidableEq, Repr

end Sys2Proof.Machine
end

