-- ==== Sys2Proof/Machine/StField.lean ====
section
/-! DEFINITION. State of a bay's LF, HF and UHF side: polling and wake (R172 to R206), the HF reader (R207 to R222) and
the emulated bay tag (R223 to R243, R251). -/

namespace Sys2Proof.Machine

/-- Bay states (R203), coded as in R534. -/
inductive BayState where
  | offline | idle | dark | watch | engaged | charging | wrapping | fault
  deriving DecidableEq, Repr

/-- IDLE_POLICY (R176). -/
inductive IdlePolicy where
  | continuous | capacitive
  deriving DecidableEq, Repr

/-- HF_MODE (R176). -/
inductive HfMode where
  | continuousField | ping
  deriving DecidableEq, Repr

/-- The polling parameters of a bay (R176), with the defaults of the EN9144-F8. -/
structure PollCfg where
  policy : IdlePolicy := .continuous
  watchHold : Nat := 30
  darkWeeks : Nat := 6
  lfPeriod : Nat := 250
  lfCmd : Nat := 3
  wakeSite : Nat := 0
  lfDrive : Nat := 96
  /-- 0 433.92 MHz, 1 868.3 MHz. -/
  uhfBand : Nat := 0
  hfMode : HfMode := .ping
  hfPingPeriod : Nat := 200
  hfPollPeriod : Nat := 50
  hfDetuneAmp : Nat := 328
  hfDetunePhase : Nat := 182
  hfField : Nat := 128
  listenPeriod : Nat := 1000
  capThresh : Nat := 400
  deriving DecidableEq, Repr

/-- The polling and wake counters of a bay, in the order of R206 (WAKE_SPURIOUS is the region's). -/
structure PollCnt where
  lfTelegrams : Nat := 0
  hfPings : Nat := 0
  hfWake : Nat := 0
  hfFalseWake : Nat := 0
  capWake : Nat := 0
  coilOpenLf : Nat := 0
  coilOpenHf : Nat := 0
  darkEntry : Nat := 0
  deriving DecidableEq, Repr

/-- A BAY_MEASURE in progress (R190, R542). -/
structure Measure where
  hf : Bool
  code : Nat
  ref : Option CmdRef
  deriving DecidableEq, Repr

/-- Polling of a bay. -/
structure Poll where
  cfg : PollCfg := {}
  lfOpen : Bool := false
  hfOpen : Bool := false
  degraded : Bool := false
  /-- HF baseline amplitude and phase; none before the first valid ping after WATCH entry (R186). -/
  baseline : Option (Nat × Int) := none
  /-- Consecutive low carrier cycles of each coil (R191). -/
  lfLow : Nat := 0
  hfLow : Nat := 0
  /-- RTC seconds of the last detection (R199). -/
  lastDetect : Nat := 0
  /-- RTC seconds from which the dark clock of R199 runs: a detection, or a change of IDLE_POLICY (R204). -/
  darkFrom : Int := 0
  /-- Time from which WATCH_HOLD runs. -/
  holdFrom : Nat := 0
  /-- A TOUCH recorded while the region was not ACTIVE (R205). -/
  touchPending : Bool := false
  /-- A wake command of the host that waits for the region. -/
  wakePending : Bool := false
  /-- The first item of each kind after WATCH entry has still to fall due (R180): LF, HF, listen. -/
  firstLf : Bool := false
  firstHf : Bool := false
  firstListen : Bool := false
  /-- Time up to which reader polling after a detuning runs (R187), with the ping's values. -/
  detuneTo : Option (Nat × Nat × Int) := none
  measure : Option Measure := none
  /-- AMP and PHASE of each coil at the last calibration run (R190). -/
  calLf : Option (Nat × Nat) := none
  calHf : Option (Nat × Nat) := none
  /-- QUERYs answered with no TOUCH are counted by the region. -/
  cnt : PollCnt := {}
  deriving DecidableEq, Repr

/-- Outcomes of a reader transaction (R218). -/
inductive ReaderOutcome where
  | cardOk | noCard | cardTimeout | cardProtocol | marginLow | coilOpen | notIsodep | writeUnknown | fieldBusy
  deriving DecidableEq, Repr

/-- The command of ISO/IEC 14443-3 or of the start of ISO-DEP that an activation has sent last (R212, R215): WUPA, ANTICOLLISION, SELECT, HLTA to one
of several cards, REQA for the next of them, WUPA for the card to be served, RATS, PPS, WUPB, ATTRIB, HLTB. -/
inductive ActStep where
  | wupa | anti | select | hlta | reqa | rewup | rats | pps | wupb | attrib | hltb
  deriving DecidableEq, Repr

/-- A reader transaction that waits for the card (R214 to R222). -/
structure ReaderTxn where
  /-- 0 activation, 1 SELECT by AID of a tap, 2 an authentication pass, 3 a host CARD_EXCHANGE, 4 the presence check before a write. -/
  kind : Nat
  /-- Queue of the item that holds the coil for it. -/
  q : Nat := 0
  write : Bool := false
  deselect : Bool := false
  apdu : List Byte := []
  retries : Nat := 0
  /-- Time at which the card's FWT with its extensions passes. -/
  deadline : Nat
  /-- Time at which the 1 s of one I-block exchange ends. -/
  limit : Nat
  ref : Option CmdRef := none
  room : Nat := 0
  step : ActStep := .wupa
  /-- Bits of the present cascade level that anticollision has settled, in the order sent. -/
  known : List Bool := []
  /-- UID CLn and BCC of the levels of the card that is being selected. -/
  levels : List (List Byte) := []
  /-- More than one Type A card has answered; the cards found so far, each by its levels; the one to be served (R215). -/
  clash : Bool := false
  found : List (List (List Byte)) := []
  target : Option (List (List Byte)) := none
  /-- Answer to WUPB: PUPI, application data and protocol information. -/
  atqb : List Byte := []
  /-- Time of the first response of the transaction. -/
  first : Option Nat := none
  /-- The frame sent last that the card must answer, without its check bytes. -/
  out : List Byte := []
  /-- Bytes of the APDU that have still to be sent, bytes of the response received so far, and whether the card is chaining. -/
  rest : List Byte := []
  got : List Byte := []
  chain : Bool := false
  deriving DecidableEq, Repr

/-- The card selected at a bay. -/
structure CardSel where
  typeB : Bool
  uid : List Byte
  fwt : Nat
  rstr : Nat
  /-- Bit rate in use (R213): 0 106 to 3 848 kbit/s. -/
  rate : Nat := 0
  /-- Time of the card's first response, and of its last. -/
  first : Nat
  lastResp : Nat
  /-- Activated for a host CARD_EXCHANGE: the coil keeps its carrier for it. -/
  host : Bool := false
  /-- Block number of the reader (ISO/IEC 14443-4), and the longest frame the card takes. -/
  bn : Nat := 0
  fsc : Nat := 256
  deriving DecidableEq, Repr

/-- A frame sent on the HF coil: its first instant, its bytes, its bit rate and type. -/
structure HfSent where
  start : Nat
  bytes : List Byte
  rate : Nat := 0
  typeB : Bool := false
  deriving DecidableEq, Repr

/-- The block layer of the bay tag (R226): that RATS has made it active, the largest frame of the reader, its block number, the block sent last, and
the bytes of a chained command received and of a chained answer still to be sent. -/
structure TagBlocks where
  dep : Bool := false
  fsd : Nat := 16
  bn : Nat := 1
  out : List Byte := []
  got : List Byte := []
  rest : List Byte := []
  deriving DecidableEq, Repr

/-- A wire write that waits for the field side to end (R239). -/
structure WireWrite where
  received : Nat
  /-- 2 WRITE, 3 REARM, 4 ENABLE. -/
  op : Nat
  first : Nat
  data : List Byte
  arg : Nat
  password : Nat
  ref : CmdRef
  deriving DecidableEq, Repr

/-- The HF reader and tag counters, in the order of R251. -/
structure TagCnt where
  hfTxn : Nat := 0
  cardTimeout : Nat := 0
  cardProto : Nat := 0
  nonIsodep : Nat := 0
  marginRefused : Nat := 0
  writeUnknown : Nat := 0
  tagSelects : Nat := 0
  tagPwFail : Nat := 0
  tagPwLock : Nat := 0
  tagAesFail : Nat := 0
  tagWireBusy : Nat := 0
  tagCommitFail : Nat := 0
  deriving DecidableEq, Repr

/-- The tag image (R228): the bytes of blocks 1 to 13 at their offsets, and the control block of R230. -/
structure TagImage where
  data : Tab Byte := []
  enable : Bool := false
  pwSet : Bool := false
  aesSet : Bool := false
  pwDisabled : Bool := false
  failBase : Nat := 0
  seq : Nat := 0
  lastWrite : Nat := 0
  lastSide : Nat := 0
  deriving DecidableEq, Repr

/-- Files of the tag application (R232). -/
inductive TagFile where
  | e103 | e104 | e105
  deriving DecidableEq, Repr

/-- The HF coil of a bay: its role, the reader and the tag's field side. -/
structure Hf where
  /-- Role of the coil: CARD_LISTEN, otherwise READER (R207). -/
  listen : Bool := false
  /-- Time from which HF_CUR has been below EXT_FIELD_ON; none while the field is absent or at level. -/
  extField : Bool := false
  belowSince : Option Nat := none
  rateMax : Nat := 3
  fieldMargin : Nat := 12
  card : Option CardSel := none
  txn : Option ReaderTxn := none
  /-- Host exchanges that wait for the coil (R544); one of kind 0 activates a card first. -/
  waiting : List ReaderTxn := []
  /-- The image last committed, as both sides see it (R240). -/
  img : TagImage := {}
  imgLost : Bool := false
  /-- Tag in SECURED, otherwise OPEN (R234). -/
  secured : Bool := false
  active : Bool := false
  /-- Halted: answers WUPA only (ISO/IEC 14443-3). -/
  halted : Bool := false
  appSel : Bool := false
  file : Option TagFile := none
  /-- The three bytes drawn at field entry (R226). -/
  uid : Option Nat := none
  /-- RB of the GET CHALLENGE just before, valid for one EXTERNAL AUTHENTICATE (R233). -/
  challenge : Option Nat := none
  /-- The field side owns the tag (R238). -/
  owned : Bool := false
  /-- Time at which ownership ends after field loss. -/
  ownEnd : Option Nat := none
  wire : List WireWrite := []
  /-- In a CONTINUOUS_FIELD listen gap until this time (R224), and when the last gap began. -/
  gapTo : Option Nat := none
  gapLast : Nat := 0
  /-- Block layer of the tag. -/
  blk : TagBlocks := {}
  /-- The frame last sent on the coil (R89). -/
  sent : Option HfSent := none
  cnt : TagCnt := {}
  deriving DecidableEq, Repr

end Sys2Proof.Machine
end

