-- ==== Sys2Proof/Machine/StRange.lean ====
section
/-! DEFINITION. State of ranging and binding: takes (R252 to R294), rapid exchanges (R295 to R320), the park geometry
(R321 to R326), verdicts (R331 to R347) and the cascade (R348 to R361). -/

namespace Sys2Proof.Machine

/-- RAPID_MODE (R297). -/
inductive RapidMode where
  | off | ifCapable | required
  deriving DecidableEq, Repr

/-- Ranging and rapid-exchange parameters of a bay (R254, R297). -/
structure RangeCfg where
  uwbCh : Nat := 9
  pcode : Nat := 9
  txAnt : Nat := 0
  stsUnits : Nat := 64
  txPower : Nat := 48
  rapidMode : RapidMode := .ifCapable
  boundMm : Nat := 6000
  rapidRecheck : Nat := 15
  deriving DecidableEq, Repr

/-- Take outcomes (R288). -/
inductive TakeOutcome where
  | notRun | stopped | evidenceInvalid | noResponse | stsLow | stsMismatch | noReport | reportBad
  | clockOdd | negRange | takeOk
  deriving DecidableEq, Repr

/-- Rapid-exchange outcomes (R316). -/
inductive RapidOutcome where
  | notRun | stopped | evidenceInvalid | periodShort | suspect | early | wrongBit | noReply | rapidOk
  deriving DecidableEq, Repr

/-- One bay record of the geometry (R321). -/
structure GeoBay where
  hub : Nat
  bay : Nat
  flags : Nat
  zToken : Nat
  zSigma : Nat
  verts : List (Int × Int)
  cand : List (Nat × Nat)
  deriving DecidableEq, Repr

/-- One head record of the geometry. -/
structure GeoHead where
  hub : Nat
  bay : Nat
  pos : List Int
  orient : List Int
  ant : List Int
  deriving DecidableEq, Repr

/-- A park geometry in supervisor memory (R323). -/
structure Geometry where
  version : Nat
  hubCount : Nat
  thisHub : Nat
  masterHub : Nat
  bays : List GeoBay
  heads : List GeoHead
  digest : BitVec 256
  deriving DecidableEq, Repr

/-- How far a take has run (R264, R265). -/
inductive TakeStage where
  /-- Waiting; granted with SETUP to send; SETUP sent; POLL sent; RESPONSE passed; FINAL sent; ended. -/
  | planned | granted | announced | polled | responded | finished | done
  deriving DecidableEq, Repr

/-- A listener of a take as its owner sees it. -/
structure Listener where
  hub : Nat
  bay : Nat
  /-- 0 open, 1 sighting held, 2 declined. -/
  state : Nat := 0
  toa : Nat := 0
  toaFrac : Nat := 0
  az : Nat := 0
  el : Nat := 0
  fpq : Nat := 0
  suspect : Bool := false
  axis1 : Bool := false
  deriving DecidableEq, Repr

/-- The measured and computed part of a take record (R282 to R287, R291). -/
structure TakeMeas where
  /-- T_raw − GD_RX of the RESPONSE on TX_ANT, in 1/256 tick (R278, R282). -/
  tResp : Int := 0
  tof256 : Int := 0
  rangeMm : Nat := 0
  clkOfs : Int := 0
  fpq : Nat := 0
  toa : Nat := 0
  toaFrac : Nat := 0
  az : Nat := 0x8000
  el : Nat := 0x8000
  aoaValid : Bool := false
  axis1 : Bool := false
  suspect : Bool := false
  edge : Bool := false
  deriving DecidableEq, Repr

/-- A take at a bay, planned, running or waiting for its evaluation. -/
structure Take where
  /-- TAKE_NO, once dispatched; until then the number its dispatch will give it (R263). -/
  takeNo : Nat
  dispatched : Bool := false
  stage : TakeStage := .planned
  /-- Slot in which it fell due, its EARLIEST. -/
  due : Nat
  latest : Nat
  q : Nat
  continuity : Bool := false
  rapid : Bool := false
  noListen : Bool := false
  /-- POLL slot P and T_P in clapper ticks, once granted (R264). -/
  pollSlot : Nat := 0
  tPoll : Nat := 0
  width : Nat := 0
  outcome : Option TakeOutcome := none
  /-- The status of a NOT_RUN or STOPPED take (R288). -/
  status : Status := .internal
  meas : TakeMeas := {}
  listeners : List Listener := []
  /-- Slot at whose end the collection window closes (R69, R352). -/
  closeSlot : Nat := 0
  closed : Bool := false
  /-- Dispatched a second time (R41). -/
  again : Bool := false
  /-- A frame has failed in the REPORT interval (R288). -/
  reportSeen : Bool := false
  /-- The geometry and the bay's calibration entry as they stood at the grant (R325, R785). -/
  geom : Option Geometry := none
  cal : Option (List Byte) := none
  ref : Option CmdRef := none
  room : Nat := 0
  deriving DecidableEq, Repr

/-- A rapid exchange and its record (R299 to R317). -/
structure Rapid where
  takeNo : Nat
  k : Nat := 0
  /-- The conditions of R305 have passed and challenge 0 is staged; challenge 0 has gone out. -/
  ready : Bool := false
  started : Bool := false
  /-- T_S in clapper ticks, once started. -/
  tStart : Nat := 0
  round : Nat := 0
  chal : Nat := 0
  resp : Nat := 0
  failRound : Option Nat := none
  maxD : Nat := 0
  minD : Option Nat := none
  minPq : Option Nat := none
  engine : Nat := 0
  reserved : Bool := false
  repeated : Bool := false
  deferrals : Nat := 0
  /-- Its queue; 131,072, which is none, before it has one. -/
  q : Nat := 131072
  outcome : Option RapidOutcome := none
  status : Status := .internal
  deriving DecidableEq, Repr

/-- Verdicts (R335). -/
inductive Verdict where
  | unseen | candidate | bound | contested | lost
  deriving DecidableEq, Repr

/-- REASON of BIND_VERDICT (R347). -/
inductive BindReason where
  | none_ | takesAgree | lowMass | competitor | authenticity | overBound | misses | tokenElsewhere
  | chainBroken | uncalibrated | rapidRequired | listenersDisagree | tap | fob | dialogueEnd | noGeometry
  deriving DecidableEq, Repr

/-- Evaluation of a take (R331). -/
inductive TakeEval where
  | qualifying | holding | weak | miss | conflict
  deriving DecidableEq, Repr

/-- A position fix with the masses of R330 as the notices carry them. -/
structure Fix where
  ok : Bool := false
  disagree : Bool := false
  /-- Rejected listeners and listeners used. -/
  nrej : Nat := 0
  nsight : Nat := 0
  /-- P_OWN and P_COMP as floor(P × 65,536), saturated. -/
  pOwn : Nat := 0
  pComp : Nat := 0
  compBay : Nat := 0xFFFF
  /-- A bay of this hub other than the take's own with P ≥ 0.99, if any (R341). -/
  other99 : Option Nat := none
  x : Int := 0
  y : Int := 0
  z : Int := 0
  sigMaj : Nat := 0
  sigMin : Nat := 0
  axis : Nat := 0
  deriving DecidableEq, Repr

/-- Phases of an authentication (R394). -/
inductive AuthPhase where
  | auth1 | auth3 | done
  deriving DecidableEq, Repr

/-- A three-pass authentication in progress (R387 to R394). -/
structure Auth where
  phase : AuthPhase
  attempt : Nat := 1
  passes : Nat := 1
  rh : Nat := 0
  rt : Nat := 0
  /-- Clapper ticks at which the reply window closes; 0 while no pass is out. -/
  window : Nat := 0
  /-- D_TOK as received, and whether a pass was resent (R406). -/
  dTokRaw : Nat := 0xFF
  resent : Bool := false
  /-- K as AUTH2 read it from the slot (R381). -/
  key : BitVec 128 := 0
  deriving DecidableEq, Repr

/-- What the BIND_VERDICT that made a verdict BOUND said (R454). -/
structure BindEvidence where
  reason : BindReason := .none_
  flags : Nat := 0
  evidence : Nat := 0
  boundMm : Option Nat := none
  fix : Fix := {}
  deriving DecidableEq, Repr

/-- Binding policy of a bay (BAY_CONFIG section 2). -/
structure BindCfg where
  requireV : Bool := false
  allowUncal : Bool := false
  cRstrMin : Nat := 12
  fLfMin : Nat := 160
  fUhfMin : Int := -70
  engageLimit : Nat := 60
  deriving DecidableEq, Repr

/-- One dialogue: one token at one bay (R396), with its verdict and the state that outlives a restart (R625). -/
structure Dialogue where
  token : Nat
  slot : Nat
  fleet : Nat := 0
  /-- Configuration 3 support, from the slot (R257). -/
  spc3 : Bool := false
  hostRef : Nat := 0
  auth : Auth
  /-- SK while it is held. -/
  sk : Option (BitVec 128) := none
  /-- D_TOK where the token declared rapid support (R295), and RX_PERIOD as sent (R296). -/
  dTok : Option Nat := none
  rxPeriod : Nat := 0
  /-- The ranging and binding parameters in force when the token was engaged (R538). -/
  cfg : RangeCfg := {}
  bcfg : BindCfg := {}
  verdict : Verdict := .unseen
  /-- Time of the last verdict change, for the 10 s timers. -/
  since : Nat := 0
  takeNo : Nat := 0
  /-- T_POLL of the first QUALIFYING take of a pair in progress, with a run unbroken since (R334). -/
  pairFrom : Option Nat := none
  missRun : Nat := 0
  badRun : Nat := 0
  everBound : Bool := false
  /-- Continuity grid: slot of its anchor and number of takes that have fallen due (R333). -/
  gridAnchor : Nat := 0
  gridCount : Nat := 0
  /-- Slot in which the next take falls due. -/
  nextDue : Option Nat := none
  /-- A continuity take fell due while the bay's takes are held back (R626); the next one is to select the exchange R734 left out. -/
  contHeld : Bool := false
  rapidOwed : Bool := false
  /-- Start of the ENGAGE_LIMIT timer; none while it is stopped (R337, R547). -/
  limitFrom : Option Nat := none
  /-- REQUIRE_V holds the verdict back (R346). -/
  requireV : Bool := false
  gateTold : Option BindReason := none
  /-- RSTR of the tap (class C), and TE of the first of two accepted frames (class F). -/
  rstr : Nat := 0
  tapAt : Nat := 0
  fobTe : Option Nat := none
  bindEv : BindEvidence := {}
  deriving DecidableEq, Repr

/-- Ranging counters, in the order of R294. -/
structure RangeCnt where
  takes : Nat := 0
  takeOk : Nat := 0
  noResponse : Nat := 0
  stsLow : Nat := 0
  stsMismatch : Nat := 0
  reportBad : Nat := 0
  clockOdd : Nat := 0
  fpSuspect : Nat := 0
  listens : Nat := 0
  listenDeclined : Nat := 0
  uwbModeErr : Nat := 0
  deriving DecidableEq, Repr

/-- Rapid-exchange counters, in the order of R320. -/
structure RapidCnt where
  run : Nat := 0
  ok : Nat := 0
  noReply : Nat := 0
  wrongBit : Nat := 0
  early : Nat := 0
  suspect : Nat := 0
  periodShort : Nat := 0
  notRun : Nat := 0
  overBound : Nat := 0
  deriving DecidableEq, Repr

/-- Binding counters of a bay, in the order of R361. -/
structure BindCnt where
  fixOk : Nat := 0
  fixFail : Nat := 0
  listenReject : Nat := 0
  qualifying : Nat := 0
  conflict : Nat := 0
  boundEntry : Nat := 0
  contestedEntry : Nat := 0
  lostEntry : Nat := 0
  handedOver : Nat := 0
  engagedElsewhere : Nat := 0
  fobAmbig : Nat := 0
  deriving DecidableEq, Repr

/-- Authentication counters of a bay, in the order of R407. -/
structure AuthCnt where
  started : Nat := 0
  ok : Nat := 0
  fail : Nat := 0
  timeout : Nat := 0
  backoff : Nat := 0
  engageBusy : Nat := 0
  fobCrcErr : Nat := 0
  fobResync : Nat := 0
  deriving DecidableEq, Repr

/-- States of a cascade side (R350). -/
inductive SideState where
  | down | up | fault
  deriving DecidableEq, Repr

/-- One cascade side: its lanes and time transfer (R348 to R354). -/
structure Side where
  state : SideState := .down
  /-- Codeword lock of the first and the standby lane. -/
  lane0 : CwLock := {}
  lane1 : CwLock := {}
  /-- Transmit equalisers of the two lanes (R115, R349). -/
  eq0 : Eq := {}
  eq1 : Eq := {}
  standby : Bool := false
  reason : Nat := 0
  since : Nat := 0
  helloAt : Option Nat := none
  /-- What the neighbour's CHELLO said of its geometry. -/
  geomVersion : Nat := 0
  geomTag : Nat := 0
  meas : List Nat := []
  outliers : List Nat := []
  markNum : Nat := 0
  markLaunch : Nat := 0
  deriving DecidableEq, Repr

/-- States of the clapper (R355). -/
inductive ClapState where
  | free | locking | locked | holdover
  deriving DecidableEq, Repr

/-- The cascade controller. -/
structure Cascade where
  lower : Side := {}
  upper : Side := {}
  clap : ClapState := .free
  agree : Nat := 0
  lastMark : Nat := 0
  /-- A clapper step waits for the next slot boundary (R356), signed ticks. -/
  step : Option Int := none
  trimPpb : Int := 0
  discard : Nat := 0
  deriving DecidableEq, Repr

end Sys2Proof.Machine
end

