-- ==== Sys2Proof/Machine/StRelease.lean ====
section
/-! DEFINITION. State of a bay's release, meter and session (R408 to R448, R19 to R26). -/

namespace Sys2Proof.Machine

/-- STATE of a release message (R414). -/
inductive RelState where
  | cut | hold | release
  deriving DecidableEq, Repr

/-- FAULT_RELEASE (R420). -/
inductive FaultRelease where
  | holdFirst | cutAtOnce
  deriving DecidableEq, Repr

/-- CAUSE of RELEASE_STATE (R447). -/
inductive RelCause where
  | authorisation | hostHold | hostResume | wrap | safetyCut | ownerChange | quarCut | seqUnavailable
  deriving DecidableEq, Repr

/-- The release parameters of a bay (R420). -/
structure RelCfg where
  enable : Bool := false
  interval : Nat := 100
  /-- HOLD_TIME in units of 0.1 s. -/
  holdTime : Nat := 20
  faultRelease : FaultRelease := .holdFirst
  meterId : Nat := 0
  deriving DecidableEq, Repr

/-- KIND of a meter reading (R437). -/
inductive MeterKind where
  | start | end_ | spot | periodic
  deriving DecidableEq, Repr

/-- A meter reading as received: the 44-byte record and the 64-byte signature (R437). -/
structure Reading where
  record : List Byte
  sig : List Byte
  /-- RTC seconds and clapper ticks at acceptance (R455). -/
  rtc : Nat := 0
  clap : Nat := 0
  deriving DecidableEq, Repr

/-- A meter request in progress (R439). -/
structure MeterReq where
  kind : MeterKind
  nonce : Nat
  attempt : Nat := 1
  /-- Time at which the 200 ms of this attempt end. -/
  deadline : Nat
  /-- The last reading received in the request failed its signature (R441, R554). -/
  badSig : Bool := false
  ref : Option CmdRef := none
  room : Nat := 0
  deriving DecidableEq, Repr

/-- The last accepted BPC status (R432). -/
structure BpcStatus where
  /-- BSEQ last accepted; none since the hub's own power-up (R433). -/
  bseq : Option Nat := none
  flags : Nat := 0
  applied : Nat := 0
  current : Nat := 0
  lastSeq : Nat := 0
  faultCode : Nat := 0
  deriving DecidableEq, Repr

/-- Release counters of a bay, in the order of R448. -/
structure RelCnt where
  sent : Nat := 0
  safety : Nat := 0
  txLate : Nat := 0
  sync : Nat := 0
  statusBad : Nat := 0
  silent : Nat := 0
  meterOk : Nat := 0
  meterBad : Nat := 0
  meterTimeout : Nat := 0
  deriving DecidableEq, Repr

/-- Release of a bay. SEQ_RAW lives outside the region (R417). -/
structure Rel where
  cfg : RelCfg := {}
  seqRaw : Nat := 0
  /-- The advance of REL_RANGE asked for is not yet committed (R418). -/
  advPending : Bool := false
  seqLow : Bool := false
  exhausted : Bool := false
  /-- A message has been sent at the bay since reset; its SEQ is `SEQ_RAW - KEY_BASE` (R534). -/
  anySent : Bool := false
  state : RelState := .cut
  /-- State and cause the next boundary takes up (R424). -/
  want : RelState := .cut
  cause : RelCause := .authorisation
  /-- CURRENT_CLASS granted by the host. -/
  cls : Nat := 0
  /-- The supervisor owns the release (R76). -/
  supervisor : Bool := false
  /-- One more than the slot of the last boundary taken (0: none yet), and the period it was taken under, for R421 and R422. -/
  lastBoundary : Nat := 0
  period : Nat := 1000
  /-- Time of the last boundary taken (R656). -/
  lastBoundaryAt : Nat := 0
  /-- A RELEASE frame that the controller holds and has not sent, with the time it was handed over (R423). -/
  txSince : Option Nat := none
  txFrame : List Byte := []
  txLate : Bool := false
  /-- A SYNC frame is owed for this NONCE_B (R435). -/
  syncFor : Option Nat := none
  /-- R834 has been posted for the present stall. -/
  stallTold : Bool := false
  bpc : BpcStatus := {}
  lastStatus : Nat := 0
  /-- METER_A received and its time (R438). -/
  meterA : Option (List Byte × Nat) := none
  req : Option MeterReq := none
  lastReadNo : Option Nat := none
  lastEnergy : Option Nat := none
  lastMeter : Nat := 0
  cnt : RelCnt := {}
  deriving DecidableEq, Repr

/-- How far a session has come. -/
inductive SessPhase where
  /-- SESSION_OPEN and BIND asked for; start reading asked for; METER_START asked for; waiting for the first RELEASE. -/
  | opening | reading | starting | permitted
  | charging
  /-- Wrap: HOLD to be sent or sent, CUT sent, end reading asked for, seal asked for. -/
  | holding | cutting | ending | sealing
  /-- Authorisation failed after SESSION_OPEN: INTERRUPTED asked for (R463). -/
  | aborting
  deriving DecidableEq, Repr

/-- A session of a bay (R20 to R26, R453 to R456). -/
structure Session where
  id : Nat
  phase : SessPhase
  cls : TokenClass
  /-- SESSION_AUTHORIZE that runs, if any. -/
  ref : Option CmdRef := none
  contract : Nat := 0
  rtcOpen : Nat := 0
  tOpen : Nat := 0
  /-- SESSION_OPEN committed (open for R487 and R488). -/
  opened : Bool := false
  /-- METER_START committed, with its energy. -/
  eStart : Option Nat := none
  permitWas : Bool := false
  seqOpen : Nat := 0
  /-- Last reading of the session on the reel: its SEQ and energy (R443). -/
  seqReading : Nat := 0
  eLast : Nat := 0
  /-- Last accepted reading of the session, for its marker (R478), and that of its METER_END. -/
  lastReading : Option Reading := none
  endReading : Option Reading := none
  causes : Nat := 0
  firstCause : Nat := 0
  /-- Seal flags: SAFETY_CUT, PROXY_USED, LOG_THINNED. -/
  safetyCut : Bool := false
  proxyUsed : Bool := false
  thinned : Bool := false
  /-- Time at which the HOLD message was sent; boundaries sent since the CUT. -/
  holdAt : Option Nat := none
  cutIntervals : Nat := 0
  /-- The next boundary sends CUT: zero current under HOLD, or HOLD_TIME has passed (R425). -/
  cutDue : Bool := false
  /-- BPC_FAULT has been taken as a trigger in this session (R433). -/
  bpcFaultTaken : Bool := false
  /-- A torn-session marker has been committed (R485). -/
  marker : Bool := false
  /-- RTC second of the last thinned METER_REPORT written (R476). -/
  thinAt : Option Nat := none
  /-- Slots of the credential store this session rests on (R380). -/
  slots : List Nat := []
  /-- HOLD_TIME as it stood when the wrap began (R538), units of 0.1 s. -/
  holdTime : Nat := 20
  deriving DecidableEq, Repr

/-- A host command, or a wrap trigger, held during the authorisation or while the supervisor owns the release (R444, R548). -/
structure HeldCmd where
  /-- 0 wrap, 1 hold, 2 resume, 3 class, 4 a trigger with its cause in `cls`. -/
  kind : Nat
  cls : Nat := 0
  ref : Option CmdRef
  deriving DecidableEq, Repr

/-- One bay block, with what the supervisor keeps for the bay. -/
structure Bay where
  st : BayState := .offline
  link : Link := {}
  sl : Slates := {}
  radio : Radio := {}
  poll : Poll := {}
  hf : Hf := {}
  range : RangeCfg := {}
  bindCfg : BindCfg := {}
  take : Option Take := none
  rapid : Option Rapid := none
  /-- The take record and exchange record last delivered, for the evaluation (R332). -/
  dlgV : Option Dialogue := none
  dlgC : Option Dialogue := none
  dlgF : Option Dialogue := none
  rel : Rel := {}
  sess : Option Session := none
  /-- Held commands and triggers in the order in which they arrived (R640). -/
  held : List HeldCmd := []
  rangeCnt : RangeCnt := {}
  rapidCnt : RapidCnt := {}
  bindCnt : BindCnt := {}
  authCnt : AuthCnt := {}
  queueRefused : Nat := 0
  pollSkipped : Nat := 0
  deriving DecidableEq, Repr

end Sys2Proof.Machine
end

