-- ==== Sys2Proof/Machine/StRegion.lean ====
section
/-! DEFINITION. State of a region (R35 to R76, R622 to R643): engines and cells, conversation queues and the call sheet,
coexistence, quarantine, restart and splice, the release bus. -/

namespace Sys2Proof.Machine

/-- Region states, coded as in R534. -/
inductive RegionSt where
  | active | draining | splicing | quarantined | off
  deriving DecidableEq, Repr

/-- REASON of REGION_STATE (R630). -/
inductive RegionReason where
  | none_ | host | watchdog | queueEcc | imageIncompatible | spliceFailed | splice | autoRestart | restore
  | power | engineLost | proxyLimit
  deriving DecidableEq, Repr

/-- QUAR_RELEASE (R445). -/
inductive QuarRelease where
  | cut | proxy
  deriving DecidableEq, Repr

/-- Power states of a region (R675). -/
inductive RegionPower where
  | s0 | s1 | s2 | off
  deriving DecidableEq, Repr

/-- A ranging engine (R36 to R40, R614 to R616). -/
structure Engine where
  /-- Cell mapped to each logical position that is not the cell of its own number. -/
  map : Tab Nat := []
  /-- Cells retired, in order of retirement, and logical positions no spare replaces. -/
  retired : List Nat := []
  unreplaced : List Nat := []
  /-- Logical positions whose remap waits until their group is next allocated (R40). -/
  remap : List Nat := []
  held : List Nat := []
  /-- Groups held with invalid evidence (R40). -/
  invalid : List Nat := []
  /-- Group allocated last (R39). DESIGN CHOICE, log entry 164: the manual does not say which group counts as allocated last after reset; with
  15, the rotation starts at group 0. -/
  last : Nat := 15
  /-- The ToA detector or AoA estimator failed its self-test (R616). -/
  out : Bool := false
  deriving DecidableEq, Repr

/-- KIND of a conversation queue (R42). -/
inductive QKind where
  | poll | discovery | auth | take | rapid | continuity | tag | releaseIo
  deriving DecidableEq, Repr

/-- Priority classes (R42). -/
inductive QClass where
  | safety | ranging | auth | housekeeping
  deriving DecidableEq, Repr

/-- What a call sheet item does once it runs. -/
inductive ItemWhat where
  | lfTelegram | hfPing | hfPoll | listenFree | listenLinked (te : Nat) | calibrate | measure (hf : Bool)
  | authPass | take | listen (ownHub ownHandle : Nat) | rapid | meterReq | tagTxn
  deriving DecidableEq, Repr

/-- A conversation queue with its call sheet item (R42, R49 to R56). -/
structure Item where
  q : Nat
  kind : QKind
  cls : QClass
  /-- Global bay that owns the queue. -/
  bay : Nat
  what : ItemWhat
  parked : Bool := false
  link : Nat := 0xFFFFF
  earliest : Nat
  latest : Nat
  /-- Credential slot, or 0x3_FFFF. -/
  cred : Nat := 0x3FFFF
  tclass : Nat := 3
  engine : Option Nat := none
  groups : List Nat := []
  /-- Protocol step (R42): 0 waits, 1 begun, 2 a telegram past TE. -/
  step : Nat := 0
  /-- Dispatches of the current step (R42): one more at each start, and where an item that has not started is pre-empted (R55). -/
  retries : Nat := 0
  /-- Status code of the step before this one (R42), 0 while the item runs. -/
  outcome : Nat := 0
  capoff : Nat := 0
  session : Nat := 0
  hostTag : Nat := 0
  /-- Slot number at enqueue, whose low 25 bits are ORDER (R56). -/
  order : Nat
  /-- Granted: planned for slot `start` or running. -/
  granted : Bool := false
  /-- Slot for which it was granted, and the first slot after a run of fixed length; 0 where its protocol ends it. -/
  start : Nat := 0
  runEnd : Nat := 0
  /-- Width of the groups it holds (R272). -/
  width : Nat := 0
  turn : Bool := false
  deferrals : Nat := 0
  /-- A calibration run whose LF drive the limits forbid. -/
  noLf : Bool := false
  /-- The grant was sampled low and the item may not be planned in the frozen slot (R162). -/
  notBefore : Nat := 0
  ref : Option CmdRef := none
  deriving DecidableEq, Repr

/-- A listen this region serves for a take (R68, R268, R269). -/
structure ListenReq where
  ownHub : Nat
  ownHandle : Nat
  sweep : Nat
  bay : Nat
  /-- The calibration entry of the bay at the grant (R785). -/
  cal : Option (List Byte) := none
  deriving DecidableEq, Repr

/-- Coexistence wires of a region (R157 to R166). -/
structure Coex where
  enabled : Bool := false
  /-- A setting that takes effect at the next slot boundary (R555). -/
  pending : Option Bool := none
  req : Bool := false
  pri : Bool := false
  gnt : Bool := false
  /-- Queues whose covered interval, or the 20 µs before it, is running. -/
  covered : List Nat := []
  /-- Those of them whose grant was sampled high (R161). -/
  clear : List Nat := []
  deriving DecidableEq, Repr

/-- The release bus controller of a region (R409 to R412, R428). -/
structure RelBus where
  stbyHigh : Bool := true
  busOff : Option Nat := none
  busOffTold : Bool := false
  /-- Safety-cut frames that wait while the controller is stopped. -/
  cutFrames : List (Nat × List Byte) := []
  /-- Safety-cut frames not yet complete: bays (R553). -/
  cutsOpen : List Nat := []
  /-- PWRPERMIT is to be lowered when they are complete, with the command that asked. -/
  dropAfter : Bool := false
  dropRef : Option CmdRef := none
  busOffCnt : Nat := 0
  foreign : Nat := 0
  deriving DecidableEq, Repr

/-- Phases of a splice or restart of a region (R637 to R641). -/
inductive RestartPhase where
  | draining | takeover | restarting | handback
  deriving DecidableEq, Repr

/-- A restart or splice in progress. -/
structure Restart where
  phase : RestartPhase
  splice : Bool
  /-- Region image slot being started, and whether this is the second try, on the old image. -/
  slot : Nat
  back : Bool := false
  since : Nat
  cause : RegionReason
  /-- The REGION_CONTROL that asked. -/
  ref : Option CmdRef := none
  deriving DecidableEq, Repr

/-- One region. -/
structure Region where
  st : RegionSt := .off
  /-- Reason of the last quarantine (R607). -/
  reason : RegionReason := .none_
  engines : List Engine := List.replicate 8 {}
  items : List Item := []
  /-- Queues that are not on the free list beyond those of `items` do not exist: free = 131,072 − items (R72). -/
  corrected : Nat := 0
  sightLate : Nat := 0
  /-- Streaming turns granted are those of running items; the number the region may grant (R57, R59). -/
  turns : Nat := 0
  /-- Slot whose plan is frozen, one more than the slot (0: none yet). -/
  frozen : Nat := 0
  listens : List ListenReq := []
  coex : Coex := {}
  bus : RelBus := {}
  permit : Bool := false
  quarRelease : QuarRelease := .cut
  /-- QUAR_RELEASE as it stood at the entry to QUARANTINED. -/
  quarMode : QuarRelease := .cut
  enteredAt : Nat := 0
  /-- Entry from which the limit of proxying counts (R627). -/
  proxyFrom : Nat := 0
  proxyTold : Bool := false
  /-- The sequencer runs; a fault has halted it, so that its watchdog will expire (R622). -/
  seqRuns : Bool := false
  halted : Bool := false
  aesLanes : Nat := 4
  hashLane : Bool := true
  restart : Option Restart := none
  /-- RTC seconds of the automatic restarts in the last 3,600 s (R628), and RESTARTS. -/
  autoTimes : List Nat := []
  restarts : Nat := 0
  restartLimit : Bool := false
  masked : Bool := false
  imageVersion : Nat := 0
  imageSlot : Nat := 0
  ownFrom : Option Nat := none
  spanMs : Nat := 0
  /-- HEAD_WAKE_N low, its mask, the queries made and the time of the last (R196, R197). -/
  wakeLow : Bool := false
  wakeMasked : Bool := false
  wakeQueries : Nat := 0
  wakeQueryAt : Nat := 0
  wakeSpurious : Nat := 0
  /-- Capture ring (R275, R561): for each block of 4,096 bytes, one more than the draw whose free value it holds; 0 while the block is clear.
  The block at which the next item's samples begin. -/
  capture : Tab Nat := []
  capNext : Nat := 0
  power : RegionPower := .off
  /-- An entry in progress: 1 to S1; to S2 by its next abort point, 2 AP1, 3 AP2, 4 AP3 (R682). 0 none. -/
  powerStep : Nat := 0
  /-- The region is to be started once its PLLs have locked and the level is in force (R668, R671). -/
  due : Bool := false
  /-- Its SRAM was lost in S3, so that it comes up as in a restart (R689). -/
  lost : Bool := false
  deriving DecidableEq, Repr

/-- Version of the image a region runs; 0 while its sequencer runs none (R601, R607, R630). -/
def Region.running (x : Region) : Nat := if x.seqRuns then x.imageVersion else 0

end Sys2Proof.Machine
end

