-- ==== Sys2Proof/Machine/StNv.lean ====
section
/-! DEFINITION. State of the non-volatile side: the reel, the journal, counter cells, the commit engine (R449 to R492,
R244 to R249), the credential store and fleets (R362 to R386), the vault, tag images. -/

namespace Sys2Proof.Machine

/-- A flash sector of a two-sector area as it is programmed (R365, R556, R764): what it holds, LOAD_ID where its trailer has one, and the number that
decides between the two; `sound` while its CRC and its integrity check pass. -/
structure Sector (α : Type) where
  data : α
  loadId : Nat := 0
  seq : Nat
  sound : Bool := true
  deriving DecidableEq, Repr

/-- The two sectors; an erased one is none. -/
structure Twin (α : Type) where
  s0 : Option (Sector α) := none
  s1 : Option (Sector α) := none
  deriving DecidableEq, Repr

/-- A record of the reel (R449): SEQ, TYPE, part index, parts, BAY, FLAGS, BODY and LINK. A VOID slot has SEQ 0. -/
structure Rec where
  seq : Nat
  typ : Nat
  part : Nat
  parts : Nat
  bay : Nat
  flags : Nat
  body : List Byte
  link : Nat
  /-- Slot of the area, counted without wrapping from the first of the device's life. -/
  slot : Nat
  deriving DecidableEq, Repr

/-- A journal entry by kind (R478). -/
inductive JEntry where
  | head (seq : Nat) (h : BitVec 256)
  | open_ (sess cred bay : Nat) (cls : TokenClass) (seqOpen : Nat) (eStart : Option Nat)
  | close (sess seq : Nat)
  | fobCounter (slot ctr : Nat)
  /-- LOAD_ID, and ENROL_COUNT after the load. -/
  | bulkCommit (loadId count : Nat)
  | torn (sess bay causes rtc lastRel : Nat) (reading : Option Reading)
  deriving DecidableEq, Repr

/-- A journal entry in its slot: JSEQ and slots counted without wrapping; a TORN takes four (R478). -/
structure JRec where
  slot : Nat
  seq : Nat
  e : JEntry
  deriving DecidableEq, Repr

/-- One copy of an up-only counter cell (R245): the 32-byte entries its sector holds, oldest first. -/
structure CellCopy where
  entries : List (List Byte) := []
  deriving DecidableEq, Repr

/-- An up-only counter cell (R244). -/
structure Cell2 where
  a : CellCopy := {}
  b : CellCopy := {}
  deriving DecidableEq, Repr

/-- A request at the NV commit engine (R64, R481). -/
inductive NvWhat where
  | sessOpen (b : Nat)
  | meterStart (b : Nat) (r : Reading)
  | meterReport (b : Nat) (r : Reading) (kind : Nat)
  | seal (b : Nat)
  | interrupted (b kind : Nat)
  | marker (b : Nat)
  | event (kind src count rtc : Nat) (detail : List Fld) (backup : Bool)
  | dailies
  | fobCounter (slot ctr : Nat)
  /-- R490: closes session `sess` that the journal holds open; then the end of recovery. -/
  | recover (sess : Nat)
  | recoverDone
  | credBlock (k : Nat)
  | relRange (b : Nat)
  | detectTimes
  /-- R480: the live entries of the oldest journal sector. -/
  | journalCopy
  deriving DecidableEq, Repr

/-- The reel. -/
structure Reel where
  recs : List Rec := []
  nextSeq : Nat := 1
  nextSlot : Nat := 0
  h : BitVec 256 := 0
  /-- REEL_SIZE in MiB (R468) and DAILIES_OFFSET (R465). -/
  sizeMiB : Nat := 256
  dailiesOfs : Nat := 0
  /-- The area has been initialised (R756), and the first slot that is not erased, counted as slots are. -/
  made : Bool := false
  erasedTo : Nat := 0
  /-- Sector erases that run or wait (R470). -/
  erasing : Nat := 0
  lastDailiesSeq : Nat := 0
  lastDailiesRtc : Option Nat := none
  lastDailiesH : BitVec 256 := 0
  sealedSince : Nat := 0
  interruptedSince : Nat := 0
  voidedSince : Nat := 0
  /-- Fill level last reported (R477). -/
  level : Nat := 0
  /-- Slots after the last good record that a torn program left (R471). -/
  tornSlots : Nat := 0
  deriving DecidableEq, Repr

/-- The journal (R478 to R480). -/
structure Journal where
  entries : List JRec := []
  nextSeq : Nat := 1
  /-- Entry slots used since the area was laid out, and those that sector erases have freed. -/
  used : Nat := 0
  freed : Nat := 0
  deriving DecidableEq, Repr

/-- Reel and commit counters, in the order of R492. -/
structure NvCnt where
  records : Nat := 0
  voided : Nat := 0
  stall : Nat := 0
  thinned : Nat := 0
  bursts : Nat := 0
  refused : Nat := 0
  torn : Nat := 0
  interrupted : Nat := 0
  copies : Nat := 0
  deriving DecidableEq, Repr

/-- The volatile part of the commit engine. -/
structure Engine2 where
  queue : List NvWhat := []
  /-- Requests refused admission that wait for their 100 ms retry, with the time of the refusal. -/
  retry : List (NvWhat × Nat) := []
  /-- Last 8 VHOLD samples, ADC codes, newest first (R483). -/
  codes : List Nat := []
  /-- N and E_avail of a refusal in force (R486), in units of 5 × 10^-16 J. -/
  refusedN : Option (Nat × Nat) := none
  mainPresent : Bool := false
  mainLost : Bool := false
  /-- MAIN_LOST as NVC_STATUS shows it, W1C. -/
  mainLostFlag : Bool := false
  holdupRefused : Bool := false
  recovering : Bool := false
  /-- RTC of the next dailies instant (R465). -/
  dailiesAt : Nat := 0
  /-- Bays of open sessions R487 has still to close, and whether it has stopped. -/
  closing : List Nat := []
  /-- Tag image slots that wait for their background erase (R241): bay and slot, oldest first. -/
  tagErase : List (Nat × Nat) := []
  /-- Requests that wait because their entry does not fit (R475), each counted once in REEL_STALL. -/
  stalled : List NvWhat := []
  stopped : Bool := false
  cnt : NvCnt := {}
  deriving DecidableEq, Repr

/-- A credential slot (R362). -/
structure Cred where
  tokenId : Nat := 0
  fleet : Nat := 0
  cls : TokenClass := .v
  spc3 : Bool := false
  suspended : Bool := false
  valid : Bool := false
  retiring : Bool := false
  inSession : Bool := false
  fobCounter : Nat := 0
  key : BitVec 128 := 0
  validFrom : Nat := 0
  validUntil : Nat := 0
  hostRef : Nat := 0
  enrolNo : Nat := 0
  lastAuth : Nat := 0
  failRun : Nat := 0
  deriving DecidableEq, Repr

/-- A fleet entry (R369). -/
structure Fleet where
  quota : Nat := 0
  fobW : Nat := 16
  deriving DecidableEq, Repr

/-- An open bulk load (R382 to R385). -/
structure Bulk where
  fleets : List Nat
  loadId : Nat
  records : List (List Byte) := []
  lastAt : Nat := 0
  deriving DecidableEq, Repr

/-- Blocks of a committed bulk load still to be switched into SRAM (R386). -/
structure BulkSwitch where
  blocks : List Nat
  newSlots : Tab Cred
  ref : CmdRef
  /-- Result of the command. -/
  res : List Fld
  deriving DecidableEq, Repr

/-- Authentication back-off of one class and token (R405). -/
structure Backoff where
  cls : TokenClass
  token : Nat
  /-- Times of the counted results of the last 60 s, newest first. -/
  times : List Nat
  until_ : Option Nat := none
  deriving DecidableEq, Repr

/-- The credential store in SRAM and supervisor memory. -/
structure CredStore where
  slots : Tab Cred := []
  loading : Bool := false
  /-- Slots whose FOB_COUNTER moved since their block was last committed (R403). -/
  fobDirty : List Nat := []
  bulk : Option Bulk := none
  switch : Option BulkSwitch := none
  backoff : List Backoff := []
  /-- Pending resync values: slot, p, time (R401), oldest first. -/
  resync : List (Nat × Nat × Nat) := []
  /-- Recent class C taps: token, bay, time (R342). -/
  taps : List (Nat × Nat × Nat) := []
  ecc : Nat := 0
  slotLost : Nat := 0
  blockLost : Nat := 0
  deriving DecidableEq, Repr

/-- A key of the vault as the manual names it (R739, R740): its presence, value and KEY_BASE. -/
structure VKey where
  val : Nat := 0
  version : Nat := 0
  keyBase : Nat := 0
  present : Bool := false
  deriving DecidableEq, Repr

/-- The two slots of a bay's tag image in flash (R241), each its 1,056 bytes, or erased. -/
structure TagSlots where
  s0 : List Byte := []
  s1 : List Byte := []
  deriving DecidableEq, Repr

/-- What flash holds. -/
structure Nv where
  reel : Reel := {}
  journal : Journal := {}
  cells : Tab Cell2 := []
  /-- The store at rest, by block of 32 slots (R365). -/
  store : Tab (Twin (List Cred)) := []
  /-- The fleet table as the hub holds it, and its 16 parts of 256 fleets in flash (R369). -/
  fleets : Tab Fleet := []
  fleetStore : Tab (Twin (Tab Fleet)) := []
  /-- The vault's records as the vault holds them, and its 17 blocks in flash (R740). -/
  vault : Tab VKey := []
  vaultStore : Tab (Twin (Tab VKey)) := []
  tags : Tab TagSlots := []
  detect : Tab Nat := []
  deriving DecidableEq, Repr

end Sys2Proof.Machine
end

