-- ==== Sys2Proof/Machine/StChip.lean ====
section
/-! DEFINITION. State of the chip as a whole: clocks (R645 to R668), performance levels and power states (R669 to R699), the
always-on domain (R690 to R697), the timer unit (R700 to R718), random numbers (R719 to R737), fuses, images, boot and life
cycle (R746 to R774), the calibration and compliance pages (R147, R775), chip faults (R631 to R635) and sensors (R828).
Field defaults are the values after POR_N. -/

namespace Sys2Proof.Machine

/-! ## Clocks -/

/-- One monitored source. -/
structure SrcSt where
  present : Bool := false
  /-- Time at which it was last declared lost. -/
  lostAt : Nat := 0
  deriving DecidableEq, Repr

/-- One PLL. -/
structure PllSt where
  lock : Bool := false
  coast : Bool := false
  /-- Time of the coast entry. -/
  since : Nat := 0
  deriving DecidableEq, Repr

/-- One multiplexer. -/
structure MuxSt where
  /-- The input other than the fallback is selected: SPLL, CPLL, SPLL ÷ 50; for the RTC the crystal. -/
  main : Bool := false
  /-- Requested input of a switch in progress, and one that waits for it (R662). -/
  busy : Option Bool := none
  queued : Option Bool := none
  deriving DecidableEq, Repr

/-- The clock block (R666). -/
structure Clk where
  refclk : SrcSt := {}
  txo : SrcSt := {}
  fpll : PllSt := {}
  spll : PllSt := {}
  tpll : PllSt := {}
  cpll : PllSt := {}
  serdes : PllSt := {}
  sclk : MuxSt := {}
  cbclk : MuxSt := {}
  xspi : MuxSt := {}
  fclkDiv : Nat := 3
  /-- CLK_EVENT [12:0]. -/
  event : Nat := 0
  fpllCnt : Nat := 0
  spllCnt : Nat := 0
  tpllCnt : Nat := 0
  cpllCnt : Nat := 0
  measSel : Nat := 0
  measValid : Bool := false
  measUnitHz : Bool := false
  measCoast : Bool := false
  measValue : Nat := 0
  /-- A measurement runs, since this time. -/
  measSince : Option Nat := none
  /-- Time at which the TPLL relocked (R656), until every bay is back on its slot grid. -/
  tpllBack : Option Nat := none
  deriving DecidableEq, Repr

/-! ## Power -/

/-- Steps of a level change (R672), in the order of their direction. -/
inductive DvfsStep where
  | waitRapid | voltage | settle | assist | bias | divider
  deriving DecidableEq, Repr

/-- A level change that runs. -/
structure Dvfs where
  old : Nat
  new : Nat
  step : DvfsStep
  /-- The PL_SET that asked (R587). -/
  ref : Option CmdRef := none
  deriving DecidableEq, Repr

/-- Steps of a profile change (R32, R59): up, the level and then the streaming; down, the streaming and then the level. -/
inductive ProfileStep where
  | raising | widening | narrowing | draining | lowering
  deriving DecidableEq, Repr

/-- A PROFILE_SET that runs. -/
structure ProfileRun where
  new : Nat
  old : Nat
  step : ProfileStep
  ref : CmdRef
  deriving DecidableEq, Repr

/-- Power state of the chip: S0 to S2 are the regions' (R676). -/
inductive ChipPower where
  | s0 | entering (step : Nat) | s3
  deriving DecidableEq, Repr

/-- The power block (R698). -/
structure Pwr where
  pl : Nat := 3
  plTarget : Nat := 3
  dvfs : Option Dvfs := none
  fbb : Bool := false
  readAssist : Bool := true
  setMv : Nat := 620
  s3Resumed : Bool := false
  /-- HOST_VOTE of each port, [8:0]. -/
  voteA : Nat := 0
  voteB : Nat := 0
  /-- WAKE_SRC [15:0]. -/
  wakeSrc : Nat := 0
  abortCount : Nat := 0
  dvfsFail : Bool := false
  entryAborted : Bool := false
  chip : ChipPower := .s0
  /-- A wake event that arrived during an S3 entry. -/
  wakeDuring : Bool := false
  /-- REGION_FLOOR (0 S0, 1 S1, 2 S2) and S3_ALLOW (R586). -/
  floors : List Nat := [0, 0, 0, 0, 0, 0, 0, 0]
  s3Allow : Bool := false
  /-- The profile the streaming follows; a change that runs keeps the old one in force (`run`). -/
  profile : Nat := 0
  run : Option ProfileRun := none
  plPin : Option Nat := none
  /-- SMB_CLK held low for an SMBus wake (R688). -/
  smbStretch : Bool := false
  deriving DecidableEq, Repr

/-- An entry of the backup event buffer (R691). -/
structure BackupEvent where
  src : Nat
  level : Nat
  rtc : Nat
  deriving DecidableEq, Repr

/-- The always-on domain. Defaults are those of a hub whose VBAT was absent (R694; assumption log). -/
structure Aon where
  rtc : Nat := 0
  /-- Part of the running second, in units of 1/125 clapper tick. -/
  rtcFrac : Nat := 0
  rtcSet : Bool := false
  xtal : SrcSt := { present := true }
  rtcMux : MuxSt := { main := true }
  tamperEn : Nat := 0
  tamperLevel : Nat := 0
  tamperAct : Nat := 0
  alarm0 : Nat := 0
  alarm1 : Nat := 0
  alarmFired : Nat := 0
  alarmWakeOut : Nat := 0
  alarmEn : Nat := 0
  /-- The RTC has entered the compare value and the alarm's effect is due. -/
  alarmDue : Nat := 0
  buffer : List BackupEvent := []
  dropped : Nat := 0
  outages : Nat := 0
  vbatLost : Bool := true
  wasBackup : Bool := false
  wakeOut : Bool := false
  wakeOutAt : Nat := 0
  inS4 : Bool := false
  deriving DecidableEq, Repr

/-! ## The timer unit -/

/-- One timer (R701): its registers, prescaler, gate and the events of the cycle before (R712). -/
structure Timer where
  ctrl : W32 := 0
  /-- TMU_STATUS [5:0]. -/
  flags : Nat := 0
  cnt : W32 := 0
  cmp : W32 := 0xFFFFFFFF
  capRise : W32 := 0
  capFall : W32 := 0
  link : W32 := 0
  /-- Cycles the prescaler has counted since it was cleared. -/
  pre : Nat := 0
  gateOpen : Bool := false
  /-- Filtered level of the selected TCAP input. -/
  level : Bool := false
  /-- Master events of the cycle before, bits as EVT numbers them. -/
  ev : Nat := 0
  deriving DecidableEq, Repr

/-- The timer unit. -/
structure Tmu where
  timers : List Timer := List.replicate 16 {}
  /-- TMU_TIME. -/
  time : W64 := 0
  /-- Levels of TCAP[7:0]. -/
  tcap : Nat := 0
  deriving DecidableEq, Repr

/-! ## Random numbers -/

/-- A noise source (R719 to R722). -/
structure NoiseSrc where
  admitted : Bool := false
  lockedOut : Bool := false
  setOut : Nat := 0
  lastTest : Nat := 0
  /-- Time from which it has passed every test without a break. -/
  okFrom : Nat := 0
  /-- Its startup tests are done since reset or S3 exit. -/
  started : Bool := false
  deriving DecidableEq, Repr

/-- A generate request that waits for two pool blocks (R728). -/
structure RngWait where
  ref : CmdRef
  len : Nat
  deriving DecidableEq, Repr

/-- A generate request of a bay that waits (R728, R729): the challenge bits of an exchange from a slot on, repeated or not; the RH of an
authentication; a bay tag's challenge, otherwise its UID; a NONCE_H. -/
inductive RngDraw where
  | challenge (b from_ : Nat) (again : Bool)
  | auth (b : Nat) (k : TokenClass)
  | tag (b : Nat) (challenge : Bool)
  | nonce (b : Nat)
  deriving DecidableEq, Repr

/-- The random number unit. -/
structure Rng where
  srcs : List NoiseSrc := List.replicate 4 {}
  /-- The conditioner's shift register (R724). -/
  cond : BitVec 256 := 0
  /-- Pool blocks, oldest first (R725). -/
  pool : List (BitVec 256) := []
  /-- Working state of the DRBG, key and V, once instantiated (R726). -/
  drbg : Option (BitVec 256 × BitVec 128) := none
  reqLeft : Nat := 0
  reseeds : Nat := 0
  healthEv : Bool := false
  available : Bool := false
  rawActive : Bool := false
  /-- End of rushes mode by DURATION. -/
  rawEnd : Nat := 0
  /-- RUSHES_SET that waits for its exit reseed or for the seals of a FORCE. -/
  rawRef : Option CmdRef := none
  rawPend : Option (CmdRef × Nat) := none
  bufA : List W32 := []
  bufB : List W32 := []
  validA : Bool := false
  validB : Bool := false
  /-- NONCE_H values of the reserve (R735). -/
  reserve : List Nat := []
  waiting : List RngWait := []
  /-- Generate requests of the bays that wait for a reseed (R728), in request order. -/
  drawQueue : List RngDraw := []
  deriving DecidableEq, Repr

/-! ## Fuses, images, pages -/

/-- Ordering codes (R1). -/
inductive OrderCode where
  | f8 | f4 | s2
  deriving DecidableEq, Repr

/-- OTP (R670, R738, R759, R768). -/
structure Fuse where
  order : OrderCode := .f8
  /-- Copies A, B and C of FACTORY, COMMISSIONING, FIELDED and DECOMMISSIONED, in that order. -/
  lc : List Nat := List.replicate 12 0
  kRoot : Option (BitVec 256) := none
  /-- The check value beside K_ROOT (R738). -/
  rootCheck : BitVec 32 := 0
  revoked0 : Bool := false
  revoked1 : Bool := false
  marginMv : Nat := 0
  deriving DecidableEq, Repr

/-- A firmware image as it lies in a slot (R757). -/
structure Image where
  hdr : List Byte
  payload : List Byte
  deriving DecidableEq, Repr

/-- The boot record (R764). -/
structure BootRec where
  supActive : Nat := 0
  regActive : Nat := 0
  trial : Bool := false
  fellBack : Bool := false
  tryBase : Nat := 0
  deriving DecidableEq, Repr

/-- The calibration page (R775). -/
structure CalPage where
  serial : Nat := 0
  factoryRtc : Nat := 0
  changeRtc : Nat := 0
  changes : Nat := 0
  /-- Board section: C_HOLD, P_LOAD, V_MIN, V_DIV, T_PAGE, VHOLD_LSB. -/
  cHold : Nat := 0
  pLoad : Nat := 40000
  vMin : Nat := 9000
  vDiv : Nat := 12
  tPage : Nat := 30
  vholdLsb : Nat := 800
  /-- Bay entries of 128 bytes that are not all zero. -/
  entries : Tab (List Byte) := []
  deriving DecidableEq, Repr

/-- The site record (R755): reel size and DAILIES_OFFSET, the bays' last detection times, the cascade identity. -/
structure Site where
  sizeMiB : Nat := 256
  dailiesOfs : Nat := 0
  detect : Tab Nat := []
  casc : Nat × Nat × Nat := (1, 0, 0)
  deriving DecidableEq, Repr

/-- The part of flash outside the reel, the journal, the cells and the stores. -/
structure Flash where
  /-- Density in MiB (R754). -/
  densityMiB : Nat := 512
  /-- The boot record's two sectors, numbered by BR_SEQ (R764). -/
  boot : Twin BootRec := {}
  supA : Option Image := none
  supB : Option Image := none
  regA : Option Image := none
  regB : Option Image := none
  /-- The calibration page where MAGIC, FORMAT and CRC match. -/
  cal : Option CalPage := none
  exported : Bool := false
  /-- The compliance page's two sectors, numbered by PAGE_VERSION (R556). -/
  comp : Twin (List Byte) := {}
  /-- The site record's two sectors (R755). -/
  site : Twin Site := {}
  /-- The cascade identity in force, as the site record keeps it: HUB_COUNT, THIS_HUB, MASTER_HUB (R324). -/
  cascId : Nat × Nat × Nat := (1, 0, 0)
  deriving DecidableEq, Repr

/-! ## Boot, chip faults, sensors -/

/-- How far the hub has started (R749 to R753). -/
inductive BootPhase where
  | held | rom | running
  deriving DecidableEq, Repr

/-- Boot state (R774). -/
structure Boot where
  phase : BootPhase := .held
  /-- Time at which FW_READY was set. -/
  readyAt : Nat := 0
  recovery : Nat := 0
  fellBack : Bool := false
  trial : Bool := false
  regFellBack : Bool := false
  supSlot : Nat := 0
  regSlot : Nat := 0
  tries : Nat := 0
  /-- The vault passed its checks of R742 and runs. -/
  vaultUp : Bool := false
  /-- The compliance page in force lies in the second sector, and is valid. -/
  compHi : Bool := false
  compValid : Bool := false
  calValid : Bool := false
  /-- The page in supervisor memory (R777), with its defaults while invalid. -/
  cal : CalPage := {}
  smbStrap : Nat := 0
  /-- The wafer-test scan mode of R810 is selected: it has no function. -/
  scan : Bool := false
  /-- Time at which the last reset was released (R748). -/
  releasedAt : Nat := 0
  /-- JTAG holds: the supervisor since a time, and regions as bits. -/
  supHeld : Option Nat := none
  regHeld : Nat := 0
  deriving DecidableEq, Repr

/-- Causes of the last reset (R774). -/
inductive ResetCause where
  | por | sys | fault
  deriving DecidableEq, Repr

/-- What SYS_RST_N and a chip fault's reset keep (R746). -/
structure Kept where
  cfValid : Bool := false
  cfCause : Nat := 0
  cfTamper : Nat := 0
  cfCount : Nat := 0
  cfRtc : Nat := 0
  /-- RTC seconds of the last chip faults, newest first, and whether four have come within 3,600 s (R635). -/
  history : List Nat := []
  faultLimit : Bool := false
  cause : ResetCause := .por
  deriving DecidableEq, Repr

/-- The junction sensors: regions 0 to 7, supervisor, vault, top edge, bottom edge (R828). -/
structure Sensors where
  temp : List Int := List.replicate 12 250
  /-- Consecutive samples at 118 °C or more. -/
  hot : List Nat := List.replicate 12 0
  deriving DecidableEq, Repr

/-- A SPLICE run or an image command that the supervisor carries through (R604, R605). -/
structure SpliceRun where
  ref : CmdRef
  /-- Region image slot being spliced in. -/
  slot : Nat
  old : Nat
  /-- Regions still to be spliced, and those done. -/
  todo : List Nat
  done : List Nat
  back : Bool := false
  status : Status := .ok
  failed : Option Nat := none
  /-- Longest span of supervisor ownership, ms. -/
  span : Nat := 0
  deriving DecidableEq, Repr

end Sys2Proof.Machine
end

