-- ==== Sys2Proof/Machine/State.lean ====
section
/-! DEFINITION. The state of the hub, the reasons a step can stop, and the state after reset.
Fields are grouped as the reset domains of R746 lie: flash and fuses, the always-on domain, what SYS_RST_N keeps, and the rest. -/

namespace Sys2Proof.Machine

/-- Why a step stops with a fault. -/
inductive Fault where
  /-- Raised by the meaning of a command whose operands name a bay, region, timer, source or input that no ordering code has
  (not well-formed): the hub has no such ball, register or lane. Safe: nothing is claimed of what cannot arrive. -/
  | noSuchUnit
  deriving DecidableEq, Repr

/-- Why a step refuses. -/
inductive Refusal where
  /-- Raised by `exec` for a command that has no meaning yet. Safe: the machine stops. -/
  | notModelled (mnemonic : String)
  deriving DecidableEq, Repr

/-- The hub itself: everything but the queue of commands. -/
structure Hub where
  /-- What the hub has sent, newest last (the model's record; nothing reads it). -/
  out : List Out := []
  /-- Number of free values and raw random values drawn so far (the model's own counter). -/
  draws : Nat := 0
  /-- Time since the model's start in units of 1/125 clapper tick: 10 ns is 19,968 (the model's own time base for limits). -/
  now : Nat := 0
  /-- Clapper time in units of 10^-9/125 tick, so that the trim of R650 is exact. -/
  clap : Nat := 0
  fuse : Fuse := {}
  flash : Flash := {}
  nv : Nv := {}
  aon : Aon := {}
  kept : Kept := {}
  boot : Boot := {}
  sens : Sensors := {}
  clk : Clk := {}
  pwr : Pwr := {}
  tmu : Tmu := {}
  rng : Rng := {}
  host : HostSide := {}
  eng : Engine2 := {}
  creds : CredStore := {}
  casc : Cascade := {}
  /-- The geometry in force, and those that wait for the next slot boundary with their commands, in order (R325). -/
  geom : Option Geometry := none
  geomNext : List (Geometry × CmdRef) := []
  /-- The rapid-exchange reserve (R312), and the changes that wait for the next slot boundary (R588). -/
  reserve : Bool := false
  reserveNext : List (Bool × CmdRef) := []
  splice : Option SpliceRun := none
  /-- One more than the number of the last slot whose boundary has been taken. -/
  slotDone : Nat := 0
  regions : List Region := List.replicate 8 {}
  bays : List Bay := []
  deriving DecidableEq, Repr

/-- A bay block after reset: the preamble code and the idle policy follow bay and ordering code (R176, R254, R1). -/
def bayReset (o : OrderCode) (b : Nat) : Bay :=
  let f8 := decide (o = .f8)
  { range := { pcode := 9 + b % 4 }
    poll := { cfg := { policy := if f8 then .continuous else .capacitive, darkWeeks := if f8 then 6 else 0 } } }

/-- The bays of a hub after reset. -/
def baysReset (o : OrderCode) : List Bay := (List.range 128).map (bayReset o)

/-- The hub right after POR_N, before its boot: nothing listed in flash, fuses blank. -/
def Hub.reset : Hub := { bays := baysReset .f8 }

/-- The machine's state: the hub, and the commands that wait, first in first out. -/
structure State where
  hub : Hub
  pending : List Instr := []
  deriving DecidableEq, Repr

/-- The state right after reset: the queue is empty. -/
def State.reset : State := { hub := Hub.reset }

end Sys2Proof.Machine
end

