-- ==== Sys2Proof/Machine/Ops.lean ====
section
/-! DEFINITION. Shared operations: access to bays and regions, time bases, presence and life cycle, free values, and what every
meaning is built with. -/

namespace Sys2Proof.Machine

/-- What a command does to the hub. -/
abbrev Res := Host.Outcome Hub Fault Refusal

/-- What a command does to the state. -/
abbrev Turn := Host.Outcome State Fault Refusal

/-- A meaning acts on the hub alone: the queue is as it was. -/
def onHub (f : Hub → Res) (s : State) : Turn :=
  match f s.hub with
  | .next h => .next { s with hub := h }
  | .fault r => .fault r
  | .refused r => .refused r

/-! ## Bays and regions -/

/-- Bay block `b`. -/
def Hub.bay (s : Hub) (b : Nat) : Bay := nth {} s.bays b

/-- Bay block `b` changed. -/
def Hub.setBay (s : Hub) (b : Nat) (f : Bay → Bay) : Hub := { s with bays := modNth s.bays b f }

/-- Region `r`. -/
def Hub.region (s : Hub) (r : Nat) : Region := nth {} s.regions r

/-- Region `r` changed. -/
def Hub.setRegion (s : Hub) (r : Nat) (f : Region → Region) : Hub := { s with regions := modNth s.regions r f }

/-- The region of a bay (R14). -/
def regionOf (b : Nat) : Nat := b / 16

/-- The bays of a region, in order. -/
def baysOf (r : Nat) : List Nat := (List.range 16).map (fun k => 16 * r + k)

/-- A change of every bay of a region, in index order. -/
def forBays (r : Nat) (f : Nat → Hub → Hub) (s : Hub) : Hub := forAll (baysOf r) f s

/-- A change of every region, in index order. -/
def forRegions (f : Nat → Hub → Hub) (s : Hub) : Hub := forAll (List.range 8) f s

/-- A change of every bay of the hub, in index order. -/
def forAllBays (f : Nat → Hub → Hub) (s : Hub) : Hub := forAll (List.range 128) f s

/-- A command whose operand names a bay: a bay number the manual does not have cannot arrive. -/
def atBay (b : Nat) (s : Hub) (f : Hub → Hub) : Res := if b < 128 then .next (f s) else .fault .noSuchUnit

/-- A command whose operand names a region. -/
def atRegion (r : Nat) (s : Hub) (f : Hub → Hub) : Res := if r < 8 then .next (f s) else .fault .noSuchUnit

/-- A command whose operand names one of `n` like units. -/
def atUnit (n i : Nat) (s : Hub) (f : Hub → Hub) : Res := if i < n then .next (f s) else .fault .noSuchUnit

/-- `f` where the condition holds, otherwise no effect. -/
def when_ (c : Bool) (f : Hub → Hub) (s : Hub) : Hub := if c then f s else s

/-! ## Time -/

/-- Units of `Hub.now` in a clapper tick, a CBCLK cycle at 100 MHz, a µs, a ms and a second. -/
def unitTick : Nat := 125
def unitCycle : Nat := 19968
def us (n : Nat) : Nat := n * 1996800
def ms (n : Nat) : Nat := n * 1996800000
def sec (n : Nat) : Nat := n * 1996800000000

/-- Whether `d` has passed since `t`. -/
def Hub.passed (s : Hub) (t d : Nat) : Bool := decide (t + d ≤ s.now)

/-- Clapper ticks: the 64-bit count (R649). -/
def Hub.ticks (s : Hub) : Nat := s.clap / 125000000000 % 2 ^ 64

/-- Clapper ticks of a slot of 100 µs and of a slate period (R46, R82). -/
def slotTicks : Nat := 1597440
def slateTicks : Nat := 1024

/-- The number of the running slot (R46). -/
def Hub.slot (s : Hub) : Nat := s.ticks / slotTicks

/-- Clapper ticks in n µs, rounded down. -/
def ticksUs (n : Nat) : Nat := n * 159744 / 10

/-! ## Ordering code, presence (R1, R3) -/

/-- Regions present by ordering code. -/
def regionCount : OrderCode → Nat
  | .f8 => 8 | .f4 => 4 | .s2 => 2

def Hub.regionPresent (s : Hub) (r : Nat) : Bool := decide (r < regionCount s.fuse.order)
def Hub.bayPresent (s : Hub) (b : Nat) : Bool := decide (b < 16 * regionCount s.fuse.order)

/-- ORDER_CODE of the identity block. -/
def orderCode : OrderCode → Nat
  | .f8 => 1 | .f4 => 2 | .s2 => 3

/-- Cascade ports by ordering code. -/
def cascadePorts : OrderCode → Nat
  | .f8 => 4 | .f4 => 4 | .s2 => 0

/-! ## Life cycle (R768, R769) -/

/-- Copies of one transition field. -/
def lcField (l : List Nat) (i : Nat) : List Nat := (l.drop (3 * i)).take 3

/-- A field with a copy started or complete. -/
def lcProgrammed (l : List Nat) (i : Nat) : Bool := (lcField l i).any (· ≠ 0)

/-- A field every copy of which is complete. -/
def lcComplete (l : List Nat) (i : Nat) : Bool := (lcField l i).all (· == 0xA5)

/-- LC_STATE: 0 BLANK, 1 FACTORY, 2 COMMISSIONING, 3 FIELDED, 4 DECOMMISSIONED. -/
def lcState (l : List Nat) : Nat :=
  if lcProgrammed l 3 then 4 else if lcProgrammed l 2 then 3 else if lcProgrammed l 1 then 2 else if lcProgrammed l 0 then 1 else 0

/-- LC_TORN. -/
def lcTorn (l : List Nat) : Bool :=
  (List.range (lcState l)).any (fun i => !lcComplete l i)

def Hub.lc (s : Hub) : Nat := lcState s.fuse.lc
def blank : Nat := 0
def factory : Nat := 1
def commissioning : Nat := 2
def fielded : Nat := 3
def decommissioned : Nat := 4

/-! ## Outputs and open values -/

/-- The hub sends something out. -/
def Hub.emit (s : Hub) (o : Out) : Hub := { s with out := s.out ++ [o] }

/-- A fresh free value of `w` bits, as a number: what the manual leaves open. -/
def freeVal (w : Nat) (s : Hub) : Nat × Hub := ((Config.free s.draws w).toNat, { s with draws := s.draws + 1 })

/-- FW_READY and ROM_RECOVERY. -/
def Hub.fwReady (s : Hub) : Bool := decide (s.boot.phase = .running)
def Hub.romRecovery (s : Hub) : Bool := decide (s.boot.phase = .rom)

/-! ## Ports -/

def Hub.port (s : Hub) : Port → HostPort
  | .a => s.host.portA
  | .b => s.host.portB

def Hub.setPort (s : Hub) (p : Port) (f : HostPort → HostPort) : Hub :=
  match p with
  | .a => { s with host := { s.host with portA := f s.host.portA } }
  | .b => { s with host := { s.host with portB := f s.host.portB } }

/-- The other port. -/
def Port.other : Port → Port
  | .a => .b
  | .b => .a

/-- A change of both ports, port A first (R499). -/
def forPorts (f : Port → Hub → Hub) (s : Hub) : Hub := f .b (f .a s)

/-- Is `p` the active port? -/
def Hub.isActive (s : Hub) (p : Port) : Bool := decide (s.host.active = some p)

end Sys2Proof.Machine
end

