-- ==== Sys2Proof/Machine/Flash.lean ====
section
/-! DEFINITION. Flash (R755): two-sector areas, the flash map, and what the hub programs there: trailers (R365), the boot record (R764), credential
slots (R362), fleet parts (R369) and vault records (R738, R740). Programs are outputs of the hub; erases are not reported. -/

namespace Sys2Proof.Machine

/-! ## Two-sector areas (R366, R556, R764) -/

/-- The sector in use, and whether it is the second: of the sound ones that `ok` takes, that with the higher number. -/
def Twin.inUse {α : Type} (ok : Sector α → Bool) (t : Twin α) : Option (Bool × Sector α) :=
  let f := fun (x : Option (Sector α)) => x.filter (fun y => y.sound && ok y)
  match f t.s0, f t.s1 with
  | none, none => none
  | some x, none => some (false, x)
  | none, some y => some (true, y)
  | some x, some y => if y.seq < x.seq then some (false, x) else some (true, y)

/-- Every sector counts. -/
def anySector {α : Type} (_ : Sector α) : Bool := true

/-- What an area holds. -/
def Twin.now {α : Type} (t : Twin α) : Option α := (t.inUse anySector).map (fun p => p.2.data)

/-- The sector a write programs: the one that is not in use, the second where true. -/
def Twin.spare {α : Type} (ok : Sector α → Bool) (t : Twin α) : Bool :=
  match t.inUse ok with
  | some (false, _) => true
  | _ => false

def Twin.set {α : Type} (hi : Bool) (x : Option (Sector α)) (t : Twin α) : Twin α := if hi then { t with s1 := x } else { t with s0 := x }

/-- A sector fails its checks from now on. -/
def Twin.fails {α : Type} (hi : Bool) (t : Twin α) : Twin α :=
  let f := fun (x : Option (Sector α)) => x.map (fun y => { y with sound := false })
  if hi then { t with s1 := f t.s1 } else { t with s0 := f t.s0 }

/-- The highest number of an area. -/
def Twin.top {α : Type} (t : Twin α) : Nat :=
  let f := fun (x : Option (Sector α)) => (x.map (fun y => if y.sound then y.seq else 0)).getD 0
  max (f t.s0) (f t.s1)

/-- The highest number of a table of areas. -/
def topSeq {α : Type} (l : Tab (Twin α)) : Nat := l.foldl (fun n p => max n p.2.top) 0

/-- An area is written. -/
def Twin.write {α : Type} (x : α) (t : Twin α) : Twin α := t.set (t.spare anySector) (some { data := x, seq := t.top + 1 })

/-- The two sectors of block `k`. -/
def twinAt {α : Type} (l : Tab (Twin α)) (k : Nat) : Twin α := Tab.get {} l k

/-- Block `k`'s spare sector is erased. -/
def eraseAt {α : Type} [DecidableEq α] (ok : Sector α → Bool) (k : Nat) (l : Tab (Twin α)) : Tab (Twin α) :=
  let t := twinAt l k
  Tab.put {} k (t.set (t.spare ok) none) l

/-- Block `k`'s spare sector is programmed, with a number one above the highest of the table (R366). -/
def programAt {α : Type} [DecidableEq α] (ok : Sector α → Bool) (k loadId : Nat) (x : α) (l : Tab (Twin α)) : Tab (Twin α) :=
  let t := twinAt l k
  Tab.put {} k (t.set (t.spare ok) (some { data := x, loadId := loadId, seq := topSeq l + 1 })) l

/-! ## The flash map (R755) -/

def flashBoot : Nat := 0x00000000
def flashCal : Nat := 0x00010000
def flashComp : Nat := 0x00020000
def flashJournal : Nat := 0x00040000
def flashVault : Nat := 0x00080000
def flashFleet : Nat := 0x000C0000
def flashTags : Nat := 0x00100000
def flashCellA : Nat := 0x00200000
def flashCellB : Nat := 0x00400000
def flashSup (slot : Nat) : Nat := if slot = 0 then 0x00800000 else 0x00C00000
def flashReg (slot : Nat) : Nat := if slot = 0 then 0x01000000 else 0x01100000
def flashStaging : Nat := 0x02000000
def flashStore : Nat := 0x04000000
def flashReel : Nat := 0x08000000

/-- Sector of block `k` of an area of 8 KiB blocks. -/
def sectorAt (area k : Nat) (hi : Bool) : Nat := area + 8192 * k + (if hi then 4096 else 0)

/-- Bytes are programmed. -/
def Hub.program (s : Hub) (addr : Nat) (l : List Byte) : Hub := s.emit (.program addr l)

/-- Bytes with the CRC-32 of all of them after them. -/
def withCrc32 (l : List Byte) : List Byte := l ++ toLe 4 (crc32 l)

/-- A block's sector: its data and the 32-byte trailer (R365). -/
def blockSector (no loadId seq : Nat) (l : List Byte) : List Byte :=
  withCrc32 (l ++ toLe 2 no ++ [0xFF, 0xFF] ++ toLe 4 loadId ++ toLe 8 seq ++ List.replicate 12 0xFF)

/-! ## The boot record (R764) -/

def bootRecBytes (seq : Nat) (r : BootRec) : List Byte :=
  withCrc32 (render 252
    [⟨0, 4, 0x424F4F54⟩, ⟨4, 8, seq⟩, ⟨12, 1, r.supActive⟩, ⟨13, 1, r.regActive⟩, ⟨14, 1, flags [r.trial, r.fellBack]⟩, ⟨16, 8, r.tryBase⟩])

/-- The boot record in force; with no valid entry, slot A for both kinds and TRIAL clear (R764). -/
def bootRec (s : Hub) : BootRec := s.flash.boot.now.getD {}

/-- The boot record is programmed in its other sector, BR_SEQ one higher. -/
def bootWritten (f : BootRec → BootRec) (s : Hub) : Hub :=
  let t := s.flash.boot
  let r := f (bootRec s)
  { s with flash := { s.flash with boot := t.write r } }.program (flashBoot + (if t.spare anySector then 4096 else 0)) (bootRecBytes (t.top + 1) r)

/-! ## The site record (R755) -/

/-- What the site record is to hold. -/
def siteNow (s : Hub) : Site :=
  { sizeMiB := s.nv.reel.sizeMiB, dailiesOfs := s.nv.reel.dailiesOfs, detect := s.nv.detect, casc := s.flash.cascId }

/-- The site record is programmed; its bytes are not laid down (log entry 187). -/
def siteWritten (s : Hub) : Hub := { s with flash := { s.flash with site := s.flash.site.write (siteNow s) } }

/-- Its contents come into force. -/
def siteRead (t : Site) (s : Hub) : Hub :=
  { s with nv := { s.nv with reel := { s.nv.reel with sizeMiB := t.sizeMiB, dailiesOfs := t.dailiesOfs }, detect := t.detect }
           flash := { s.flash with cascId := t.casc } }

/-! ## The compliance page (R556) -/

/-- The page in force, or the newest that lies in flash where none is valid. -/
def compPage (s : Hub) : Option (List Byte) := (if s.boot.compHi then s.flash.comp.s1 else s.flash.comp.s0).map (·.data)

/-! ## Credential slots (R362) -/

def classNo : TokenClass → Nat
  | .v => 0 | .c => 1 | .f => 2

/-- FLAGS of a slot. -/
def credFlags (c : Cred) : Nat := flags [c.spc3, c.suspended, c.valid, c.retiring, c.inSession]

/-- A slot but for KEY and CRC. -/
def slotRows (c : Cred) : List Fld :=
  [⟨0, 8, c.tokenId⟩, ⟨8, 2, c.fleet⟩, ⟨10, 1, classNo c.cls⟩, ⟨11, 1, credFlags c⟩, ⟨12, 4, c.fobCounter⟩, ⟨32, 8, c.validFrom⟩,
   ⟨40, 8, c.validUntil⟩, ⟨48, 8, c.hostRef⟩, ⟨56, 8, c.enrolNo⟩, ⟨64, 8, c.lastAuth⟩, ⟨72, 2, c.failRun⟩]

/-- The 96 bytes of a slot. -/
def slotWhole (c : Cred) : List Byte := withCrc32 (render 92 (bytesFld 16 (toLe 16 c.key.toNat).reverse :: slotRows c))

/-! ## The vault (R738 to R740) -/

/-- Vault record of a kind and index. -/
def vaultNo (kind idx : Nat) : Nat := 256 * kind + idx
def vaultKey (s : Hub) (kind idx : Nat) : VKey := Tab.get {} s.nv.vault (vaultNo kind idx)

/-- Doubling in the field of CMAC (NIST SP 800-38B). -/
def cmacDouble (x : BitVec 128) : BitVec 128 := (x <<< 1) ^^^ (if x.getLsbD 127 then 0x87 else 0)

/-- AES-CMAC under an AES-256 key of a message of 16 bytes, and of a shorter one, which is padded. -/
def cmac256Whole (k : BitVec 256) (m : BitVec 128) : BitVec 128 := Config.aes256 k (m ^^^ cmacDouble (Config.aes256 k 0))
def cmac256Short (k : BitVec 256) (l : List Byte) : BitVec 128 :=
  Config.aes256 k (BitVec.ofNat 128 (beNat (l ++ [0x80] ++ List.replicate (15 - l.length) 0)) ^^^ cmacDouble (cmacDouble (Config.aes256 k 0)))

/-- The check value of K_ROOT: the first 4 bytes of its AES-CMAC of 16 bytes of 0 (R738). -/
def rootCheckOf (k : BitVec 256) : BitVec 32 := BitVec.ofNat 32 ((cmac256Whole k 0).toNat / 2 ^ 96)

/-- K_VAULT (R738). -/
def kVault (root : BitVec 256) : BitVec 256 := cmac256Short root [0x01, 0x56, 0x4C, 0x54] ++ cmac256Short root [0x02, 0x56, 0x4C, 0x54]

/-- The check value of K_ROOT matches (R742); a hub with no K_ROOT has none to check. -/
def rootMatches (s : Hub) : Bool :=
  match s.fuse.kRoot with
  | some k => s.fuse.rootCheck == rootCheckOf k
  | none => true

/-- Block in which a record lies (R740). -/
def vaultBlock (n : Nat) : Nat := if 4 ≤ n / 256 ∧ n / 256 ≤ 7 then 1 + 4 * (n / 256 - 4) + n % 256 / 32 else 0

/-- The records of a block, in the order of kind and index; a block has room for 32. -/
def blockRecords (k : Nat) : List Nat :=
  if k = 0 then (List.range 4).map (vaultNo 1) ++ [vaultNo 2 0, vaultNo 3 0, vaultNo 0x10 0, vaultNo 0x11 0, vaultNo 0x12 0, vaultNo 0x13 0]
  else (List.range 32).map (fun i => vaultNo (4 + (k - 1) / 4) (32 * ((k - 1) % 4) + i))

/-- Bytes of key material by kind: points, AES-256 and P-256 scalars, AES-128, passwords. -/
def materialLen (kind : Nat) : Nat :=
  if kind = 1 ∨ kind = 2 ∨ kind = 5 ∨ kind = 0x13 then 64 else if kind = 4 ∨ kind = 6 then 16 else if kind = 7 then 4 else 32

/-- A record's key material, zero-padded to 64 bytes; a password is little-endian as the record is. -/
def material (kind : Nat) (v : VKey) : List Byte :=
  let l := toLe (materialLen kind) v.val
  (if kind = 7 then l else l.reverse) ++ List.replicate (64 - l.length) 0

/-- The 96 bytes of a record. -/
def vaultRecord (kv : BitVec 256) (n : Nat) (v : VKey) : List Byte :=
  let kind := n / 256
  withCrc32 (toLe 1 kind ++ toLe 1 n ++ toLe 1 (b2n v.present) ++ [0] ++ toLe 4 v.version ++
    (if v.present then Config.kwWrap kv (material kind v) else List.replicate 72 0) ++ toLe 8 (if kind = 4 then v.keyBase else 0) ++ List.replicate 4 0)

/-- The 3,072 bytes of a block. -/
def vaultBytes (kv : BitVec 256) (k : Nat) (t : Tab VKey) : List Byte :=
  let l := (blockRecords k).flatMap (fun n => vaultRecord kv n (Tab.get {} t n))
  l ++ List.replicate (3072 - l.length) 0

/-- The records of block `k` as the vault holds them. -/
def vaultPart (s : Hub) (k : Nat) : Tab VKey := s.nv.vault.filter (fun p => vaultBlock p.1 == k)

/-- A block's spare sector is erased (R366), and it is programmed with the records as the vault holds them. -/
def vaultErase (k : Nat) (s : Hub) : Hub := { s with nv := { s.nv with vaultStore := eraseAt anySector k s.nv.vaultStore } }
def vaultProgram (k : Nat) (s : Hub) : Hub :=
  let l := s.nv.vaultStore
  let s := { s with nv := { s.nv with vaultStore := programAt anySector k 0 (vaultPart s k) l } }
  s.program (sectorAt flashVault k ((twinAt l k).spare anySector))
    (blockSector k 0 (topSeq l + 1) (vaultBytes (kVault (s.fuse.kRoot.getD 0)) k (vaultPart s k)))

/-- Records of a vault that are read: those of the sectors in use, but for the ones that fail. -/
def vaultRead (failing : List Nat) (l : Tab (Twin (Tab VKey))) : Tab VKey :=
  l.foldl (fun t p => ((p.2.now.getD []).filter (fun x => !failing.contains x.1)).foldl (fun t x => Tab.put {} x.1 x.2 t) t) []

/-! ## The fleet table (R369) -/

/-- The fleets of part `k`. -/
def fleetPart (s : Hub) (k : Nat) : Tab Fleet := s.nv.fleets.filter (fun p => p.1 / 256 == k)

def fleetBytes (k : Nat) (t : Tab Fleet) : List Byte :=
  (List.range 256).flatMap (fun i => let f := Tab.get {} t (256 * k + i); toLe 2 f.quota ++ toLe 1 f.fobW ++ List.replicate 5 0)

def fleetErase (k : Nat) (s : Hub) : Hub := { s with nv := { s.nv with fleetStore := eraseAt anySector k s.nv.fleetStore } }
def fleetProgram (k : Nat) (s : Hub) : Hub :=
  let l := s.nv.fleetStore
  let s := { s with nv := { s.nv with fleetStore := programAt anySector k 0 (fleetPart s k) l } }
  s.program (sectorAt flashFleet k ((twinAt l k).spare anySector)) (blockSector k 0 (topSeq l + 1) (fleetBytes k (fleetPart s k)))

def fleetRead (l : Tab (Twin (Tab Fleet))) : Tab Fleet :=
  l.foldl (fun t p => (p.2.now.getD []).foldl (fun t x => Tab.put {} x.1 x.2 t) t) []

/-! ## Journal entries (R478) -/

/-- KIND of an entry. -/
def JEntry.kind : JEntry → Nat
  | .head .. => 1 | .open_ .. => 2 | .close .. => 3 | .fobCounter .. => 4 | .bulkCommit .. => 5 | .torn .. => 6

/-- The payload of an entry. -/
def JEntry.payload : JEntry → List Byte
  | .head seq h => toLe 8 seq ++ (toLe 32 h.toNat).reverse
  | .open_ sess cred bay cls so e =>
    toLe 8 sess ++ toLe 4 cred ++ toLe 1 bay ++ toLe 1 (classNo cls) ++ [0, 0] ++ toLe 8 so ++ toLe 8 (e.getD 0xFFFFFFFFFFFFFFFF)
  | .close sess seq => toLe 8 sess ++ toLe 8 seq
  | .fobCounter slot c => toLe 4 slot ++ toLe 4 c
  | .bulkCommit id n => toLe 4 id ++ toLe 8 n
  | .torn sess bay causes rtc rel r =>
    toLe 8 sess ++ toLe 1 bay ++ toLe 4 causes ++ [0, 0, 0] ++ toLe 8 rtc ++ toLe 4 rel ++ List.replicate 4 0 ++
      (match r with
       | some x => x.record ++ x.sig
       | none => [])

/-- One part of 64 bytes: JSEQ, KIND, PARTS, the CRC of the rest, 48 bytes of the payload. -/
def journalPart (seq kind parts : Nat) (l : List Byte) : List Byte :=
  let a := toLe 8 seq ++ toLe 1 kind ++ toLe 1 parts ++ [0, 0]
  let b := (List.range 48).map (byteAt l)
  a ++ toLe 4 (crc32 (a ++ b)) ++ b

/-- An entry as it is programmed: of a TORN, four parts with a JSEQ each. -/
def JRec.bytes (r : JRec) : List Byte :=
  let n := if r.e.kind = 6 then 4 else 1
  (List.range n).flatMap (fun i => journalPart (r.seq + i) r.e.kind n (r.e.payload.drop (48 * i)))

end Sys2Proof.Machine
end

