-- ==== Sys2Proof/Machine/Notice.lean ====
section
/-! DEFINITION. Interrupts (R524, R525), notices (R519 to R523), responses and COMMAND_DONE (R505, R511, R512), and the SMBus
response (R527). -/

namespace Sys2Proof.Machine

/-! ## Interrupts -/

/-- A port reaches the hub's registers only while its link is up. -/
def fromPort (p : Port) (f : Hub → Hub) (s : Hub) : Hub := if (s.port p).linkUp then f s else s

/-- The message of MSI-X vector `v`: sent, or pending where the vector is masked; none while the link is down (R494). -/
def sendVector (p : Port) (v : Nat) (s : Hub) : Hub :=
  let h := s.port p
  if !h.linkUp then s
  else if (nth 1 h.msix (4 * v + 3)) % 2 = 1 then s.setPort p (fun h => { h with pba := h.pba ||| 2 ^ v })
  else s.emit (.msix p v)

/-- INT_CAUSE bits are set at a port: vector 3 or 4 sends its message if none of its bits was set before (R525). -/
def raiseCause (p : Port) (c : Nat) (s : Hub) : Hub :=
  let old := (s.port p).cause
  let s := s.setPort p (fun h => { h with cause := h.cause ||| c })
  let s := if c % 16 ≠ 0 ∧ old % 16 = 0 then sendVector p 3 s else s
  if bit c 4 ∧ !bit old 4 then sendVector p 4 s else s

/-- A HOST_ERR flag is set, with its cause in INT_CAUSE bit 0. -/
def hostErr (p : Port) (f : HostPort → HostPort) (s : Hub) : Hub := raiseCause p 1 (s.setPort p f)

/-! ## Notices -/

/-- Entries a notice ring holds. -/
def ntcHeld (n : NoticeRing) : Nat := subMod 8192 n.tail n.head

/-- One notice at one port: the sequence rises whether or not the ring is enabled (R521); a full ring loses its oldest (R523). -/
def postPort (typ src : Nat) (body : List Fld) (p : Port) (s : Hub) : Hub :=
  let n := (s.port p).ntc
  let sq := (n.seq + 1) % 2 ^ 32
  let s := s.setPort p (fun h => { h with ntc := { h.ntc with seq := sq } })
  if !n.enable then s
  else
    let full := decide (4096 ≤ ntcHeld n)
    let n1 : NoticeRing := { n with seq := sq, head := if full then (n.head + 1) % 8192 else n.head
                                    lost := if full then satAdd n.lost 1 else n.lost
                                    tail := (n.tail + 1) % 8192 }
    let s := s.setPort p (fun h => { h with ntc := n1 })
    let s := s.emit (.notice p (n.tail % 4096) typ src sq s.ticks body)
    let s := if full then raiseCause p 4 s else s
    if ntcHeld n = 0 then sendVector p 2 s else s

/-- A notice of the hub, posted to both ports (R521). Notices belong to the running supervisor image. -/
def notice (typ src : Nat) (body : List Fld) (s : Hub) : Hub :=
  if s.fwReady then forPorts (postPort typ src body) s else s

/-- Source of a chip notice. -/
def chipSrc : Nat := 0xFFFF

/-- Source of a region notice. -/
def regionSrc (r : Nat) : Nat := 0x0100 + r

/-! ## Responses -/

def Hub.mailbox (s : Hub) : Mbx → Mailbox
  | .normal p => (s.port p).normal
  | .urgent p => (s.port p).urgent
  | .smbus => {}

def Hub.setMailbox (s : Hub) (m : Mbx) (f : Mailbox → Mailbox) : Hub :=
  match m with
  | .normal p => s.setPort p (fun h => { h with normal := f h.normal })
  | .urgent p => s.setPort p (fun h => { h with urgent := f h.urgent })
  | .smbus => s

/-- MAILBOX of COMMAND_DONE (R512). -/
def mbxCode : Mbx → Nat
  | .normal .a => 0 | .urgent .a => 1 | .normal .b => 2 | .urgent .b => 3 | .smbus => 4

/-- INT_CAUSE bit of a mailbox error. -/
def mbxErr (m : Mbx) (f : Mailbox → Mailbox) (s : Hub) : Hub :=
  match m with
  | .normal p => raiseCause p 1 (s.setMailbox m f)
  | .urgent p => raiseCause p 2 (s.setMailbox m f)
  | .smbus => s

/-- A response entry is written, RSP_TAIL advances, and the ring's vector sends its message if the ring was empty (R505, R525). -/
def ringResponse (m : Mbx) (op tag seq : Nat) (st : Status) (fl : Nat) (res : List Fld) (s : Hub) : Hub :=
  let b := s.mailbox m
  let s := s.emit (.rsp m (b.rspTail % 256) op tag seq st fl res)
  let s := s.setMailbox m (fun b => { b with rspTail := (b.rspTail + 1) % 512 })
  if b.rspTail = b.rspHead then
    match m with
    | .normal p => sendVector p 0 s
    | .urgent p => sendVector p 1 s
    | .smbus => s
  else s

/-- The SMBus response: OPCODE, TAG, STATUS, LENGTH and 26 bytes of the result (R526). -/
def smbResponse (op tag : Nat) (st : Status) (res : List Fld) (s : Hub) : Hub :=
  let l := toLe 2 op ++ toLe 2 tag ++ toLe 1 st.code ++ toLe 1 26 ++ renderFrom 0 26 res
  { s with host := { s.host with smb := { s.host.smb with busy := false, rspReady := true, rsp := l, alertLow := true, held := none } } }

/-- COMMAND_DONE (R512): bytes 24 to 63 carry bytes 8 to 47 of the result. -/
def commandDone (c : CmdRef) (st : Status) (res : List Fld) (s : Hub) : Hub :=
  notice 0x0001 c.src
    [⟨16, 2, c.op⟩, ⟨18, 2, c.tag⟩, ⟨20, 2, c.seq⟩, ⟨22, 1, mbxCode c.mbx⟩, ⟨23, 1, st.code⟩, bytesFld 24 (renderFrom 8 40 res)] s

/-- Does the hub reach the host's memory for this mailbox: its port's link is up and the mailbox enabled (R494)? -/
def dmaReaches (m : Mbx) (s : Hub) : Bool :=
  match m with
  | .normal p => (s.port p).linkUp && (s.port p).normal.enable
  | .urgent p => (s.port p).linkUp && (s.port p).urgent.enable
  | .smbus => false

/-- Result data goes out by DMA; what a port event has cut off is discarded (R494). -/
def sendData (m : Mbx) (l : List Byte) (s : Hub) : Hub := if l = [] ∨ dmaReaches m s = false then s else s.emit (.dma m l)

/-- A command's completion is reported: result data first (R514), then COMMAND_DONE. -/
def report (c : CmdRef) (st : Status) (res : List Fld) (data : List Byte) (s : Hub) : Hub := commandDone c st res (sendData c.mbx data s)

def setRunning (l : List Running) (s : Hub) : Hub := { s with host := { s.host with running := l } }

/-- Commands of one mailbox that name the same bay, or no bay, complete in ring order (R510). -/
def inOrder (a b : CmdRef) : Bool := a.mbx == b.mbx && a.src == b.src

/-- A command that runs stands before this one in its order. -/
def mustWait (c : CmdRef) (s : Hub) : Bool := s.host.running.any (fun r => inOrder r.ref c)

/-- A command joins those that run. -/
def startRunning (c : CmdRef) (s : Hub) : Hub := setRunning (s.host.running ++ [{ ref := c }]) s

/-- Completions whose turn has come are reported; `kept` are the commands before them that still run. -/
def reportDue (kept : List Running) : List Running → Hub → Hub
  | [], s => setRunning kept s
  | r :: l, s =>
    match r.fin with
    | some (st, res, data) =>
      if kept.any (fun x => inOrder x.ref r.ref) then reportDue (kept ++ [r]) l s else reportDue kept l (report r.ref st res data s)
    | none => reportDue (kept ++ [r]) l s

/-- The list with a command's end noted. -/
def noteEnd (c : CmdRef) (f : Status × List Fld × List Byte) (l : List Running) : List Running :=
  if l.any (fun r => r.ref == c) then l.map (fun r => if r.ref = c then { r with fin := some f } else r) else l ++ [{ ref := c, fin := some f }]

/-- A command that was answered ACCEPTED reaches its final status (R511), and is reported in its turn (R510); on the SMBus its response. -/
def finish (c : CmdRef) (st : Status) (res : List Fld) (data : List Byte) (s : Hub) : Hub :=
  match c.mbx with
  | .smbus => smbResponse c.op c.tag st res s
  | _ => reportDue [] (noteEnd c (st, res, data) s.host.running) s

/-- `finish` where a command is waiting. -/
def finishOpt (c : Option CmdRef) (st : Status) (res : List Fld) (s : Hub) : Hub :=
  match c with
  | some c => finish c st res [] s
  | none => s

end Sys2Proof.Machine
end

