-- ==== Sys2Proof/Machine/Tmu.lean ====
section
/-! DEFINITION. The timer unit (R700 to R718): registers, one CBCLK cycle of all sixteen timers, and its interrupt. -/

namespace Sys2Proof.Machine

/-! ## Fields of the registers -/

def Timer.run (t : Timer) : Bool := t.ctrl.getLsbD 0
def Timer.prescale (t : Timer) : Nat := bits t.ctrl.toNat 4 1
def Timer.capEn (t : Timer) : Bool := t.ctrl.getLsbD 13
def Timer.capPin (t : Timer) : Nat := bits t.ctrl.toNat 12 10
def Timer.filter (t : Timer) : Nat := bits t.ctrl.toNat 15 14
def Timer.mode (t : Timer) : Nat := bits t.link.toNat 5 4
def Timer.evt (t : Timer) : Nat := bits t.link.toNat 7 6
def Timer.master (t : Timer) : Nat := bits t.link.toNat 3 0

/-- The link mode in force at timer `n`: a link to itself acts as OFF (R714). -/
def Timer.modeAt (n : Nat) (t : Timer) : Nat := if t.master = n then 0 else t.mode

/-- A timer requests an interrupt while a flag is set together with its enable (R715): CMP, OVF, RISE, FALL. -/
def Timer.irq (t : Timer) : Bool :=
  (t.ctrl.getLsbD 6 && bit t.flags 0) || (t.ctrl.getLsbD 7 && bit t.flags 1) ||
  (t.ctrl.getLsbD 8 && bit t.flags 2) || (t.ctrl.getLsbD 9 && bit t.flags 3)

/-- TIMER of INT_CAUSE: the OR of all sixteen requests. -/
def Tmu.irq (u : Tmu) : Bool := u.timers.any Timer.irq

def Tmu.timer (u : Tmu) (n : Nat) : Timer := nth {} u.timers n

/-! ## One CBCLK cycle -/

/-- The master event that acts on timer `n` in this cycle: one that its master produced in the cycle before (R712). -/
def Tmu.eventAt (u : Tmu) (n : Nat) : Bool :=
  let t := u.timer n
  decide (t.modeAt n ≠ 0) && bit (u.timer t.master).ev t.evt

/-- The gate of timer `n` in this cycle (R712, R713). -/
def Tmu.gateAt (u : Tmu) (n : Nat) : Bool :=
  let t := u.timer n
  if t.evt = 2 then (u.timer t.master).level
  else if t.evt = 3 then !(u.timer t.master).level
  else t.gateOpen != u.eventAt n

/-- TMU_STATUS.COUNTING: RUN is 1 and, in GATE mode, the gate is open. -/
def Tmu.counting (u : Tmu) (n : Nat) : Bool :=
  let t := u.timer n
  t.run && (decide (t.modeAt n ≠ 3) || (if t.evt < 2 then t.gateOpen else u.gateAt n))

/-- Timer `n` over one cycle; `cap` is the new filtered level of its input where that changes in this cycle (R708). -/
def Tmu.cycleAt (u : Tmu) (n : Nat) (cap : Option Bool) : Timer :=
  let t := u.timer n
  let m := t.modeAt n
  let e := u.eventAt n
  let gate := if m = 3 then u.gateAt n else true
  let done := decide (t.pre + 1 ≥ 2 ^ t.prescale)
  let clear := m == 1 && e
  let tick := t.run && m != 2 && gate && done && !clear
  let clocked := t.run && m == 2 && e
  let up := tick || clocked
  let cnt : W32 := if clear then 0 else if up then t.cnt + 1 else t.cnt
  let moved := up || (clear && t.cnt != 0)
  let cmpF := moved && cnt == t.cmp
  let ovfF := up && t.cnt == 0xFFFFFFFF
  let rise := t.capEn && cap == some true && !t.level
  let fall := t.capEn && cap == some false && t.level
  let ev := flags [cmpF, ovfF, rise, fall]
  let ovr := flags [false, false, false, false, rise && bit t.flags 2, fall && bit t.flags 3]
  { t with cnt := cnt
           pre := if clear then 0 else if !t.run then t.pre else if done then 0 else t.pre + 1
           gateOpen := if m = 3 ∧ t.evt < 2 then gate else t.gateOpen
           capRise := if rise then t.cnt else t.capRise
           capFall := if fall then t.cnt else t.capFall
           level := cap.getD t.level
           flags := t.flags ||| ev ||| ovr
           ev := ev }

/-- The filtered level change of timer `n` when the inputs behind pin `pin` with filter `fl` change to `lv` (R710). -/
def Tmu.capAt (u : Tmu) (change : Option (Nat × Nat × Bool)) (n : Nat) : Option Bool :=
  match change with
  | none => none
  | some (pin, fl, lv) => if (u.timer n).capPin = pin ∧ (u.timer n).filter = fl then some lv else none

/-- One CBCLK cycle of the timer unit. -/
def Tmu.cycle (change : Option (Nat × Nat × Bool)) (u : Tmu) : Tmu :=
  { u with timers := (List.range 16).map (fun n => u.cycleAt n (u.capAt change n)), time := u.time + 1 }

/-! ## Register writes -/

def Tmu.set (u : Tmu) (n : Nat) (f : Timer → Timer) : Tmu := { u with timers := modNth u.timers n f }

/-- TMU_CTRL_n (R701, R711): reserved bits read 0; RUN going to 1 and a new PRESCALE clear the prescaler; a change of the
capture selection restarts the filter at the present level of the input. -/
def Tmu.writeCtrl (n : Nat) (v : W32) (u : Tmu) : Tmu :=
  let t := u.timer n
  let v := v &&& 0x0000FFDF
  let t' : Timer := { t with ctrl := v }
  let pre := if (t'.run && !t.run) || t'.prescale != t.prescale then 0 else t.pre
  let sel := t'.capPin != t.capPin || t'.filter != t.filter || (t'.capEn && !t.capEn)
  u.set n (fun _ => { t' with pre := pre, level := if sel then bit u.tcap t'.capPin else t.level })

/-- TMU_CNT_n: loads the count and clears the prescaler; no CMP_F (R701, R703). -/
def Tmu.writeCnt (n : Nat) (v : W32) (u : Tmu) : Tmu := u.set n (fun t => { t with cnt := v, pre := 0 })

/-- TMU_CMP_n (R704). -/
def Tmu.writeCmp (n : Nat) (v : W32) (u : Tmu) : Tmu := u.set n (fun t => { t with cmp := v })

/-- TMU_LINK_n: a toggled gate closes (R712). -/
def Tmu.writeLink (n : Nat) (v : W32) (u : Tmu) : Tmu := u.set n (fun t => { t with link := v &&& 0xFF, gateOpen := false })

/-- TMU_STATUS_n: W1C flags [5:0]. -/
def Tmu.writeStatus (n : Nat) (v : W32) (u : Tmu) : Tmu :=
  u.set n (fun t => { t with flags := t.flags &&& (0x3F ^^^ (v.toNat % 64)) })

/-- A register of timer `n` at offset `o` of its block. -/
def Tmu.read (u : Tmu) (n o : Nat) : Nat :=
  let t := u.timer n
  if o = 0x00 then t.ctrl.toNat
  else if o = 0x04 then t.flags + 256 * b2n (u.counting n)
  else if o = 0x08 then t.cnt.toNat
  else if o = 0x0C then t.cmp.toNat
  else if o = 0x10 then t.capRise.toNat
  else if o = 0x14 then t.capFall.toNat
  else if o = 0x18 then t.link.toNat
  else if o = 0x38 then u.time.toNat % 2 ^ 32
  else if o = 0x3C then u.time.toNat / 2 ^ 32
  else 0

/-! ## Interrupt -/

/-- Vector 5 of a port sends its message when TIMER rises (R525, R715). -/
def timerCause (p : Port) (s : Hub) : Hub :=
  let i := s.tmu.irq
  let seen := (s.port p).timerSeen
  let s := s.setPort p (fun h => { h with timerSeen := i })
  if i && !seen then sendVector p 5 s else s

/-- After any change of the timers: TIMER at both ports. -/
def timerCheck (s : Hub) : Hub := forPorts timerCause s

/-- A write to a timer register from a port: from the active port only (R498); others set WRITE_REFUSED. -/
def tmuWrite (p : Port) (f : Tmu → Tmu) (s : Hub) : Hub :=
  if s.isActive p then timerCheck { s with tmu := f s.tmu }
  else hostErr p (fun h => { h with writeRefused := true }) s

/-! ## The rows -/

/-- TMU_CTRL_WRITE (R701). -/
def execTmuCtrlWrite (p : Port) (n : Nat) (v : W32) : State → Turn := onHub fun s => atUnit 16 n s (fromPort p (tmuWrite p (Tmu.writeCtrl n v)))

/-- TMU_CNT_WRITE (R704). -/
def execTmuCntWrite (p : Port) (n : Nat) (v : W32) : State → Turn := onHub fun s => atUnit 16 n s (fromPort p (tmuWrite p (Tmu.writeCnt n v)))

/-- TMU_CMP_WRITE (R704). -/
def execTmuCmpWrite (p : Port) (n : Nat) (v : W32) : State → Turn := onHub fun s => atUnit 16 n s (fromPort p (tmuWrite p (Tmu.writeCmp n v)))

/-- TMU_LINK_WRITE (R712). -/
def execTmuLinkWrite (p : Port) (n : Nat) (v : W32) : State → Turn := onHub fun s => atUnit 16 n s (fromPort p (tmuWrite p (Tmu.writeLink n v)))

end Sys2Proof.Machine
end

