-- ==== Sys2Proof/Machine/Rng.lean ====
section
/-! DEFINITION. Noise sources, conditioner, DRBG, RNG_OUT, the nonce reserve and rushes mode (R719 to R737, R745). -/

namespace Sys2Proof.Machine

/-! ## The conditioner (R724) -/

/-- One clock of the 256-bit feedback shift register, polynomial x^256 + x^254 + x^251 + x^246 + 1, with one raw bit XORed into the
feedback. -/
def condClock (c : BitVec 256) (raw : Bool) : BitVec 256 :=
  let f := raw ^^ c.getLsbD 255 ^^ c.getLsbD 253 ^^ c.getLsbD 250 ^^ c.getLsbD 245
  (c <<< 1) ||| (if f then 1 else 0)

/-! ## CTR_DRBG with AES-256, no derivation function (R726) -/

/-- `n` output blocks from key and V: V counts up before each block. -/
def ctrBlocks (k : BitVec 256) : Nat → BitVec 128 → List (BitVec 128)
  | 0, _ => []
  | n + 1, v => Config.aes256 k (v + 1) :: ctrBlocks k n (v + 1)

/-- The update function of CTR_DRBG on 384 bits of provided data. -/
def drbgUpdate (d : BitVec 384) (kv : BitVec 256 × BitVec 128) : BitVec 256 × BitVec 128 :=
  let l := ctrBlocks kv.1 3 kv.2
  let t : BitVec 384 := (nth 0 l 0) ++ (nth 0 l 1) ++ (nth 0 l 2)
  let x := t ^^^ d
  (BitVec.ofNat 256 (x.toNat / 2 ^ 128), BitVec.ofNat 128 x.toNat)

/-- Seed material: the first 384 bits of two pool blocks taken together. -/
def seed384 (a b : BitVec 256) : BitVec 384 := BitVec.ofNat 384 ((a ++ b).toNat / 2 ^ 128)

/-- The personalisation string: the serial (8 bytes, little-endian), TMU_TIME (8 bytes, little-endian), 32 bytes of 0. -/
def personal (time : Nat) : BitVec 384 :=
  BitVec.ofNat 384 (beNat (toLe 8 Config.serial.toNat ++ toLe 8 time ++ List.replicate 32 0))

/-- The first `n` bytes of a list of blocks, each most significant byte first. -/
def blockBytes (n : Nat) (l : List (BitVec 128)) : List Byte := (l.flatMap (fun b => (toLe 16 b.toNat).reverse)).take n

/-- One generate request of `n` bytes on a DRBG that is not due for reseeding. -/
def drbgGenerate (n : Nat) (kv : BitVec 256 × BitVec 128) : List Byte × (BitVec 256 × BitVec 128) :=
  let m := (n + 15) / 16
  (blockBytes n (ctrBlocks kv.1 m kv.2), drbgUpdate 0 (kv.1, kv.2 + BitVec.ofNat 128 m))

/-! ## Health and availability -/

/-- The RNG is healthy while at least two sources are admitted (R723). -/
def Rng.healthy (g : Rng) : Bool := decide (2 ≤ (g.srcs.filter (·.admitted)).length)

/-- STARTUP: startup tests of R722 running. -/
def Rng.startup (g : Rng) : Bool := g.srcs.any (fun x => !x.started)

def Rng.admittedBits (g : Rng) : Nat := flags (g.srcs.map (·.admitted))
def Rng.lockedBits (g : Rng) : Nat := flags (g.srcs.map (·.lockedOut))

def Hub.setRng (s : Hub) (f : Rng → Rng) : Hub := { s with rng := f s.rng }

/-- RNG_HEALTH (R745). -/
def rngNotice (kind src test : Nat) (s : Hub) : Hub :=
  notice 0x0801 chipSrc
    [⟨16, 1, kind⟩, ⟨17, 1, src⟩, ⟨18, 1, test⟩, ⟨19, 1, s.rng.admittedBits + 16 * s.rng.lockedBits⟩, ⟨20, 4, s.rng.reseeds⟩,
     ⟨24, 8, s.aon.rtc⟩, ⟨32, 2, s.rng.reserve.length⟩] s

/-- DRBG state and pool are discarded and output stops (R732, R736). -/
def Rng.discard (g : Rng) : Rng := { g with drbg := none, pool := [], available := false, validA := false, validB := false, reqLeft := 0 }

/-- Requests that wait for a reseed end (R732). -/
def endWaits (s : Hub) : Hub :=
  s.rng.waiting.foldl (fun s w => finish w.ref .rngUnavailable [] [] s) (s.setRng (fun g => { g with waiting := [] }))

/-- The RNG stops being available; posted where it was available before. -/
def rngDown (s : Hub) : Hub :=
  let was := s.rng.available
  let s := endWaits (s.setRng Rng.discard)
  if was then rngNotice 0x01 0xFF 0 s else s

/-! ## Generate requests (R728, R729) -/

/-- A reseed from two pool blocks. -/
def Rng.reseed (g : Rng) : Rng :=
  match g.drbg, g.pool with
  | some kv, a :: b :: rest =>
    { g with drbg := some (drbgUpdate (seed384 a b) kv), pool := rest, reqLeft := 4096, reseeds := satAdd g.reseeds 1 }
  | _, _ => g

/-- One generate request of `n` bytes; none where the RNG is unavailable, or where the request has to wait for pool blocks or behind one that does. -/
def Rng.generate (n : Nat) (g : Rng) : Option (List Byte × Rng) :=
  let g := if g.reqLeft = 0 ∧ g.drawQueue = [] ∧ g.waiting = [] then g.reseed else g
  match g.drbg with
  | none => none
  | some kv =>
    if !g.available || g.rawActive || g.reqLeft = 0 then none
    else
      let o := drbgGenerate n kv
      some (o.1, { g with drbg := some o.2, reqLeft := g.reqLeft - 1 })

/-- One generate request of the hub: the bytes as a little-endian number. -/
def drawRandom (n : Nat) (s : Hub) : Option (Nat × Hub) :=
  match s.rng.generate n with
  | none => none
  | some (l, g) => some (leNat l, { s with rng := g })

/-- The RNG serves its consumers: a request that gets nothing now waits for the reseed that is due (R728). -/
def Rng.serves (g : Rng) : Bool := g.available && !g.rawActive

/-- A request of a bay waits, once. -/
def drawLater (d : RngDraw) (s : Hub) : Hub :=
  if s.rng.drawQueue.contains d then s else s.setRng (fun g => { g with drawQueue := g.drawQueue ++ [d] })

/-! ## Set-out, return, startup -/

/-- Source `n` changed. -/
def Rng.setSrc (g : Rng) (n : Nat) (f : NoiseSrc → NoiseSrc) : Rng := { g with srcs := modNth g.srcs n f }

/-- A source fails a continuous test (R720, R721, R725): set out at once, the pool discarded. A source that is out starts its 10 s
anew. -/
def setOut (n test : Nat) (s : Hub) : Hub :=
  let x := nth {} s.rng.srcs n
  if !x.started then s
  else if !x.admitted then s.setRng (fun g => g.setSrc n (fun x => { x with okFrom := s.now }))
  else
    let c := satAddAt 0xFF x.setOut 1
    let s := s.setRng (fun g =>
      { g.setSrc n (fun x => { x with admitted := false, setOut := c, lastTest := test, okFrom := s.now, lockedOut := decide (4 ≤ c) }) with
        pool := [], healthEv := true })
    let s := rngNotice 0x03 n test s
    if s.rng.healthy then s else rngDown s

/-- RNG_SOURCE_SET_OUT (R720): source 0 to 3, test 1 liveness, 2 lock, 3 repetition count, 4 adaptive proportion. -/
def execRngSourceSetOut (n test : Nat) : State → Turn := onHub fun s => atUnit 4 n s (setOut n test)

/-- RNG_SOURCE_RETURN (R721): a source that has passed every test for 10 s, unless locked out. -/
def execRngSourceReturn (n : Nat) : State → Turn := onHub fun s =>
  atUnit 4 n s (fun s =>
    let x := nth {} s.rng.srcs n
    if x.started && !x.admitted && !x.lockedOut && s.passed x.okFrom (sec 10) then
      rngNotice 0x04 n 0 (s.setRng (fun g => g.setSrc n (fun x => { x with admitted := true })))
    else s)

/-- RNG_STARTUP_DONE (R722): a source passes its startup tests and is admitted. -/
def execRngStartupDone (n : Nat) : State → Turn := onHub fun s =>
  atUnit 4 n s (fun s =>
    if (nth {} s.rng.srcs n).started then s
    else s.setRng (fun g => g.setSrc n (fun x => { x with started := true, admitted := true })))

/-- CONDITIONED_BLOCK (R724, R725): 1,024 raw bits pass the conditioner; while the RNG is healthy its content enters the pool, in
place of the oldest block where the pool is full. -/
def execConditionedBlock (raw : List Bool) : State → Turn := onHub fun s =>
  .next (
    if raw.length ≠ 1024 then s
    else s.setRng (fun g =>
      let c := raw.foldl condClock g.cond
      let pool := if g.healthy then (if 4 ≤ g.pool.length then g.pool.drop 1 else g.pool) ++ [c] else g.pool
      { g with cond := c, pool := pool }))

/-! ## Instantiate, reseed, reserve -/

/-- A generate request of the host that waited for its reseed completes. -/
def serveWait (w : RngWait) (s : Hub) : Hub :=
  match s.rng.generate w.len with
  | none => finish w.ref .rngUnavailable [] [] s
  | some (l, g) =>
    let s := { s with rng := g }
    if w.len ≤ 48 then finish w.ref .ok [bytesFld 0 l] [] s else finish w.ref .ok [] l s

/-- DRBG_INSTANTIATE (R727, R732, R737): from two fresh pool blocks once the RNG is healthy and the raw path closed; the RNG becomes
available. -/
def drbgInstantiate (s : Hub) : Hub :=
  match s.rng.drbg, s.rng.pool with
  | none, a :: b :: rest =>
    if s.rng.healthy && !s.rng.rawActive && (s.fwReady || s.romRecovery) then
      let kv := drbgUpdate (seed384 a b ^^^ personal s.tmu.time.toNat) (0, 0)
      let s := s.setRng (fun g => { g with drbg := some kv, pool := rest, reqLeft := 4096, reseeds := satAdd g.reseeds 1, available := true })
      let s := rngNotice 0x02 0xFF 0 s
      match s.rng.rawRef with
      | some c => finish c .ok [] [] (rngNotice 0x06 0xFF 0 (s.setRng (fun g => { g with rawRef := none })))
      | none => s
    else s
  | _, _ => s

def execDrbgInstantiate : State → Turn := onHub fun s => .next (drbgInstantiate s)

/-- The 8 values of a 64-byte draw. -/
def nonces (l : List Byte) : List Nat := (List.range 8).map (fun i => fld l (8 * i) 8)

/-- NONCE_RESERVE_REFILL (R735): a reserve of 376 values or fewer takes one generate request of 8. -/
def execNonceReserveRefill : State → Turn := onHub fun s =>
  .next (
    if s.rng.reserve.length ≤ 376 then
      match s.rng.generate 64 with
      | none => s
      | some (l, g) => { s with rng := { g with reserve := g.reserve ++ nonces l } }
    else s)

/-! ## RNG_OUT (R731) -/

/-- The four-byte words of a draw. -/
def words (l : List Byte) : List W32 := (List.range 16).map (fun i => BitVec.ofNat 32 (fld l (4 * i) 4))

/-- A buffer is refilled by one generate request where it is empty. -/
def refill (b : List W32) (g : Rng) : List W32 × Rng :=
  if b = [] then
    match g.generate 64 with
    | some (l, g) => (words l, g)
    | none => (b, g)
  else (b, g)

/-- The next word of a port's buffer, where there is one, and the unit afterwards. -/
def Rng.outWord (p : Port) (g : Rng) : Option W32 × Rng :=
  let buf := match p with | .a => g.bufA | .b => g.bufB
  let put := fun (b : List W32) (v : Bool) (g : Rng) =>
    match p with
    | .a => { g with bufA := b, validA := v }
    | .b => { g with bufB := b, validB := v }
  if !g.available || g.rawActive then (none, put buf false g)
  else
    match refill buf g with
    | ([], g) => (none, put [] false g)
    | (w :: rest, g) =>
      let x := refill rest g
      (some w, put x.1 true x.2)

/-- RNG_OUT_READ (R731): 0 with VALID_LAST clear where no word is ready. -/
def execRngOutRead (p : Port) : State → Turn := onHub fun s =>
  .next (fromPort p (fun s => let o := s.rng.outWord p; { s with rng := o.2 }.emit (.read ((o.1.getD 0).toNat))) s)

/-! ## Rushes mode (R599, R736, R737) -/

/-- Entry to rushes mode. -/
def rushesEnter (dur : Nat) (s : Hub) : Hub :=
  let was := s.rng.available
  let s := endWaits (s.setRng (fun g => { g.discard with rawActive := true, rawEnd := s.now + sec dur }))
  let s := rngNotice 0x05 0xFF 0 s
  if was then rngNotice 0x01 0xFF 0 s else s

/-- Exit: the raw path closes and the pool is discarded; RUSHES_OFF is posted with the instantiation that follows, for a command; where
DURATION ended the mode, at the exit. -/
def rushesExit (c : Option CmdRef) (s : Hub) : Hub :=
  let s := s.setRng (fun g => { g with rawActive := false, pool := [], rawRef := c })
  match c with
  | some _ => s
  | none => rngNotice 0x06 0xFF 0 s

/-- RUSHES_DURATION_END (R599). -/
def execRushesDurationEnd : State → Turn := onHub fun s =>
  .next (if s.rng.rawActive && decide (s.rng.rawEnd ≤ s.now) then rushesExit none s else s)

/-- The RNG registers at offset `o` of the block, as port `p` reads them (RNG_OUT has its own row). -/
def Rng.read (p : Port) (o : Nat) (g : Rng) : Nat :=
  let v := match p with | .a => g.validA | .b => g.validB
  if o = 0x04 then
    b2n g.available + 2 * b2n g.rawActive + 4 * b2n v + 8 * b2n g.startup + 16 * g.admittedBits + 256 * g.lockedBits +
      2 ^ 12 * b2n g.healthEv + 2 ^ 16 * g.pool.length
  else if o = 0x08 then g.reqLeft
  else if o = 0x0C then g.reseeds
  else if o = 0x10 then leNat (g.srcs.map (fun x => BitVec.ofNat 8 x.setOut))
  else if o = 0x14 then (g.srcs.mapIdx (fun i x => x.lastTest * 16 ^ i)).foldl (· + ·) 0
  else 0

end Sys2Proof.Machine
end

