-- ==== Sys2Proof/Machine/Tick.lean ====
section
/-! DEFINITION. The passing of one CBCLK cycle: the model's time base, clapper time (R649, R650), the RTC (R663, R697), the timer
unit, and the TMU rows, each of which is the cycle in which its event falls. -/

namespace Sys2Proof.Machine

/-- Units of real time in the next CBCLK cycle: 10 ns; while the CPLL coasts (about 40 MHz ± 20 %, R647), and from FIO ÷ 4 (100 MHz ± 10 %,
R659), a free value between the two ends of that range. -/
def cycleLength (s : Hub) : Nat × Hub :=
  if !s.clk.cbclk.main then
    let f := freeVal 16 s
    (18153 + f.1 % 4034, f.2)
  else if s.clk.cpll.coast then
    let f := freeVal 16 s
    (41600 + f.1 % 20801, f.2)
  else (unitCycle, s)

/-- Clapper advance over `a` units of real time, in 10^-9 units: the trim of R650; while the TPLL coasts (about 0.44 GHz ± 20 %
against 998.4 MHz) a free value in that range; nothing before the TPLL has first locked. -/
def clapAdvance (a : Nat) (s : Hub) : Nat × Hub :=
  if s.clk.tpll.coast then
    let f := freeVal 16 s
    (a * (352560000 + 1000000 * (f.1 % 177)), f.2)
  else if s.clk.tpll.lock then (((a : Int) * (1000000000 + s.casc.trimPpb)).toNat, s)
  else (0, s)

/-- RTC advance over `a` units: exact from the crystal; from RC32K off by a free value of up to ±5 % (R663). -/
def rtcAdvance (a : Nat) (s : Hub) : Nat × Hub :=
  if s.aon.rtcMux.main then (a, s)
  else
    let f := freeVal 16 s
    (a * (950 + f.1 % 101) / 1000, f.2)

/-- The alarms whose compare value the RTC enters with second `t` (R697). -/
def alarmsEntering (a : Aon) (t : Nat) : Nat :=
  b2n (bit a.alarmEn 0 && a.alarm0 == t) + 2 * b2n (bit a.alarmEn 1 && a.alarm1 == t)

/-- The RTC counts `d` units on. -/
def rtcTick (d : Nat) (a : Aon) : Aon :=
  let f := a.rtcFrac + d
  if sec 1 ≤ f then { a with rtcFrac := f - sec 1, rtc := a.rtc + 1, alarmDue := a.alarmDue ||| alarmsEntering a (a.rtc + 1) }
  else { a with rtcFrac := f }

/-- A TMU request that rises in S3 or during its entry is a wake event (R687, R715). -/
def timerWake (was : Bool) (s : Hub) : Hub :=
  if s.tmu.irq && !was then
    match s.pwr.chip with
    | .s0 => s
    | _ => { s with pwr := { s.pwr with wakeSrc := s.pwr.wakeSrc ||| 4, wakeDuring := true } }
  else s

/-- One CBCLK cycle passes, with a filtered TCAP change where one falls in it. In reset and in S4 only the always-on domain counts. -/
def clockCycle (change : Option (Nat × Nat × Bool)) (s : Hub) : Hub :=
  let x := cycleLength s
  let a := x.1
  let c := clapAdvance a x.2
  let t := rtcAdvance a c.2
  let s := t.2
  let s := { s with now := s.now + a, aon := rtcTick t.1 s.aon }
  if s.aon.inS4 || s.boot.phase = .held then s
  else
    let was := s.tmu.irq
    let s := { s with clap := s.clap + c.1, tmu := s.tmu.cycle change }
    timerWake was (timerCheck s)

/-- What the block does with an empty queue: one CBCLK cycle passes (assumption log). -/
def idle (s : Hub) : Hub := clockCycle none s

/-- Does the next cycle produce master event `e` at timer `n`? -/
def nextEvent (s : Hub) (n e : Nat) : Bool := bit ((s.tmu.cycle none).timer n).ev e

/-- TMU_COMPARE_MATCH (R703): the cycle in which the count of timer `n` enters its compare value. -/
def execTmuCompareMatch (n : Nat) : State → Turn := onHub fun s => atUnit 16 n s (when_ (nextEvent s n 0) (clockCycle none))

/-- TMU_OVERFLOW (R706): the cycle in which the count of timer `n` passes from 0xFFFF_FFFF to 0. -/
def execTmuOverflow (n : Nat) : State → Turn := onHub fun s => atUnit 16 n s (when_ (nextEvent s n 1) (clockCycle none))

/-- TMU_CAPTURE_EDGE (R708, R710): the cycle in which the filtered level of timer `n`'s input changes to `level`; every timer with
the same input and filter sees the same change. -/
def execTmuCaptureEdge (n : Nat) (level : Bool) : State → Turn := onHub fun s =>
  atUnit 16 n s (fun s =>
    let t := s.tmu.timer n
    if t.level = level then s
    else
      let pins := if level then s.tmu.tcap ||| 2 ^ t.capPin else s.tmu.tcap &&& (0xFF ^^^ 2 ^ t.capPin)
      clockCycle (some (t.capPin, t.filter, level)) { s with tmu := { s.tmu with tcap := pins } })

/-- TMU_LINK_EVENT (R712): the cycle in which slave `n` acts on an event of its master. -/
def execTmuLinkEvent (n : Nat) : State → Turn := onHub fun s => atUnit 16 n s (when_ (s.tmu.eventAt n) (clockCycle none))

end Sys2Proof.Machine
end

