-- ==== Sys2Proof/Machine/Votes.lean ====
section
/-! DEFINITION. Votes that hold regions in S0 and the chip out of S3 (R677, R678, R586), computed from the state. -/

namespace Sys2Proof.Machine

/-- The dialogues of a bay. -/
def Bay.dialogues (b : Bay) : List (TokenClass × Dialogue) :=
  (b.dlgV.toList.map (fun d => (TokenClass.v, d))) ++ (b.dlgC.toList.map (fun d => (TokenClass.c, d))) ++
    (b.dlgF.toList.map (fun d => (TokenClass.f, d)))

/-- Bay block k votes (R677 bits 15:0). -/
def bayVotes (s : Hub) (b : Nat) : Bool :=
  let x := s.bay b
  (match x.st with
   | .watch => true | .engaged => true | .charging => true | .wrapping => true | .fault => true
   | .offline => false | .idle => false | .dark => false) ||
  decide (x.link.state = .training) || (s.region (regionOf b)).listens.any (fun l => l.bay == b)

/-- R586 lets the firmware withdraw its vote for region `r`. -/
def firmwareWithdraws (s : Hub) (r : Nat) : Bool :=
  (baysOf r).all (fun b =>
    let x := s.bay b
    (match x.st with
     | .offline => true | .idle => true | .dark => true
     | .watch => false | .engaged => false | .charging => false | .wrapping => false | .fault => false) &&
    x.sess.isNone && x.dialogues.isEmpty) && !s.reserve

/-- The cascade identity stored in the site record (R324). -/
def Hub.hubCount (s : Hub) : Nat := s.flash.cascId.1
def Hub.hubIndex (s : Hub) : Nat := s.flash.cascId.2.1
def Hub.masterHub (s : Hub) : Nat := s.flash.cascId.2.2

/-- REGION_VOTES_r. -/
def regionVotes (s : Hub) (r : Nat) : Nat :=
  let x := s.region r
  let me := s.hubIndex
  flags ((baysOf r).map (bayVotes s) ++
    [bit s.pwr.voteA r, bit s.pwr.voteB r, !firmwareWithdraws s r,
     x.listens.any (fun l => l.ownHub != me), x.listens.any (fun l => l.ownHub == me),
     bit s.boot.regHeld r, x.wakeLow && !x.wakeMasked, x.restart.isSome])

/-- CHIP_VOTES. -/
def chipVotes (s : Hub) : Nat :=
  flags
    [bit s.pwr.voteA 8, bit s.pwr.voteB 8, !s.pwr.s3Allow,
     decide (s.casc.lower.state = .up) || decide (s.casc.upper.state = .up),
     s.boot.supHeld.isSome,
     !s.eng.queue.isEmpty || !s.eng.retry.isEmpty || decide (s.nv.reel.erasing ≠ 0) || !s.eng.tagErase.isEmpty,
     s.creds.loading || s.eng.recovering,
     s.creds.bulk.isSome || s.rng.rawActive || s.splice.isSome,
     s.pwr.dvfs.isSome,
     (List.range 8).any (fun r => s.regionPresent r &&
       (decide ((s.region r).power = .s0) || decide ((s.region r).power = .s1))),
     decide (s.pwr.wakeSrc ≠ 0),
     s.host.smb.busy || s.host.smb.rspReady]

end Sys2Proof.Machine
end

