-- ==== Sys2Proof/Machine/Holdup.lean ====
section
/-! DEFINITION. Hold-up energy and admission of commit bursts (R483 to R486, R822). Energies are exact: the unit is 5 × 10^-16 J, so that
half a mF times a µV squared is one unit. -/

namespace Sys2Proof.Machine

/-- VHOLD_CODE: the lowest of the last 8 samples; 0 before the first. -/
def vholdCode (s : Hub) : Nat :=
  match s.eng.codes with
  | [] => 0
  | c :: r => r.foldl min c

/-- Voltage at the reserve, µV, with the divider taken out. -/
def reserveUv (s : Hub) : Nat := vholdCode s * s.boot.cal.vholdLsb * s.boot.cal.vDiv

/-- E_avail of R483. -/
def eAvail (s : Hub) : Nat :=
  let v := reserveUv s
  let m := s.boot.cal.vMin * 1000
  if v ≤ m then 0 else s.boot.cal.cHold * (v * v - m * m)

/-- E_page: P_LOAD × T_PAGE, T_PAGE in units of 0.1 ms. -/
def ePage (s : Hub) : Nat := s.boot.cal.pLoad * s.boot.cal.tPage * 200000000

/-- E_base: P_LOAD × 10 ms. -/
def eBase (s : Hub) : Nat := s.boot.cal.pLoad * 20000000000

/-- E_avail in mJ, as HOLDUP_LEVEL shows it: saturated at 0xFFFF. -/
def eAvailMj (s : Hub) : Nat := min 0xFFFF (eAvail s / 2000000000000)

/-- The inequality of R483 for a burst of `n` programs. -/
def energyEnough (n : Nat) (s : Hub) : Bool := decide (12 * (n * ePage s + eBase s) ≤ 10 * eAvail s)

/-- A refusal in force refuses bursts of equal or larger N until E_avail has risen by E_page (R486). -/
def refusalHolds (n : Nat) (s : Hub) : Bool :=
  match s.eng.refusedN with
  | none => false
  | some (m, e) => decide (m ≤ n) && decide (eAvail s < e + ePage s)

/-- Is a burst of `n` programs admitted? With no reserve fitted (R484), and while the CPLL coasts (R655), only with main power. -/
def admitted (n : Nat) (s : Hub) : Bool :=
  if s.boot.cal.cHold = 0 then s.eng.mainPresent
  else (!s.clk.cpll.coast || s.eng.mainPresent) && !refusalHolds n s && energyEnough n s

def Hub.setEng (s : Hub) (f : Engine2 → Engine2) : Hub := { s with eng := f s.eng }

/-- The record of a refusal: the smallest N refused, until E_avail recovers. -/
def noteRefusal (n : Nat) (s : Hub) : Hub :=
  let keep := match s.eng.refusedN with
    | some (m, e) => if m ≤ n ∧ eAvail s < e + ePage s then some (m, e) else some (n, eAvail s)
    | none => some (n, eAvail s)
  s.setEng (fun e => { e with refusedN := keep, holdupRefused := true, cnt := { e.cnt with refused := satAdd e.cnt.refused 1 } })

/-- Admission of a burst of `n` programs: the answer, with the refusal noted, or the burst counted as run to its end. -/
def admission (n : Nat) (s : Hub) : Bool × Hub :=
  if admitted n s then
    (true, s.setEng (fun e => { e with cnt := { e.cnt with bursts := satAdd e.cnt.bursts 1 }
                                       refusedN := if refusalHolds n s then e.refusedN else
                                         match e.refusedN with
                                         | some (m, x) => if eAvail s < x + ePage s then some (m, x) else none
                                         | none => none }))
  else (false, noteRefusal n s)

end Sys2Proof.Machine
end

