-- ==== Sys2Proof/Machine/Window.lean ====
section
/-! DEFINITION. The register window (R497 to R525, R633, R666, R698, R774, R491): what every register reads as, and what a write of
each does. -/

namespace Sys2Proof.Machine

/-! ## Values of registers -/

/-- A firmware image of a slot. -/
def supImage (s : Hub) (i : Nat) : Option Image := if i = 0 then s.flash.supA else s.flash.supB
def regImage (s : Hub) (i : Nat) : Option Image := if i = 0 then s.flash.regA else s.flash.regB

/-- VERSION field of an image header (R757). -/
def imageVersion (i : Option Image) : Nat :=
  match i with
  | some i => fld i.hdr 8 4
  | none => 0

/-- Does any set of limits allow an emission (R149)? FACTORY has its fixed set; COMMISSIONING and FIELDED need a valid page. -/
def limitsExist (s : Hub) : Bool :=
  decide (s.lc = factory) || ((decide (s.lc = commissioning) || decide (s.lc = fielded)) && s.boot.compValid)

/-- Fill level 3 or above. -/
def logFull (s : Hub) : Bool := decide (3 ≤ s.nv.reel.level)

/-- RNG_UNAVAILABLE of GLOBAL_STATUS (R732): rushes mode has its own flag. -/
def rngUnavailable (s : Hub) : Bool := !s.rng.available && !s.rng.rawActive

/-- The profile in force (R32, R541): a change that runs has not taken effect yet. -/
def profileInForce (s : Hub) : Nat := (s.pwr.run.map (·.old)).getD s.pwr.profile

/-- GLOBAL_STATUS as port `p` reads it. -/
def globalStatus (p : Port) (s : Hub) : Nat :=
  let fw := s.fwReady
  flags ((List.range 8).map (fun r => decide ((s.region r).st = .active))) +
  2 ^ 8 * b2n s.host.hbLapsed +
  2 ^ 9 * b2n (decide (p = .b)) +
  2 ^ 10 * b2n (decide (s.host.active = some .b)) +
  2 ^ 11 * b2n s.host.active.isSome +
  2 ^ 12 * (if fw then s.pwr.pl else 0) +
  2 ^ 14 * (if fw then profileInForce s else 0) +
  2 ^ 16 * s.lc +
  2 ^ 19 * flags [lcTorn s.fuse.lc, s.creds.bulk.isSome, s.geom.isSome, decide (s.boot.cal.cHold = 0), s.rng.rawActive,
    rngUnavailable s, fw && !s.boot.calValid, fw && !limitsExist s, logFull s, s.eng.recovering, s.creds.loading, s.romRecovery, fw]

/-- BOOT_STATUS (R774). -/
def bootStatus (s : Hub) : Nat :=
  2 * flags [decide (s.kept.cause = .por), decide (s.kept.cause = .sys), decide (s.kept.cause = .fault)] +
  2 ^ 8 * s.boot.tries +
  2 ^ 19 * s.boot.regSlot + 2 ^ 20 * s.boot.supSlot +
  2 ^ 21 * flags [s.boot.regFellBack, s.boot.trial, s.boot.fellBack] +
  2 ^ 28 * s.boot.recovery

/-- CHIP_FAULT (R633). -/
def chipFaultReg (s : Hub) : Nat :=
  s.kept.cfCount + 2 ^ 20 * s.kept.cfTamper + 2 ^ 24 * s.kept.cfCause + 2 ^ 31 * b2n s.kept.cfValid

/-- CLK_STATUS (R666). -/
def clkStatus (s : Hub) : Nat :=
  let c := s.clk
  b2n (!s.aon.rtcMux.main) + 2 * flags [c.xspi.main, c.cbclk.main, c.sclk.main] + 2 ^ 4 * c.fclkDiv +
  2 ^ 6 * flags [c.serdes.coast, c.serdes.lock, c.cpll.coast, c.cpll.lock, c.tpll.coast, c.tpll.lock, c.spll.coast, c.spll.lock,
    c.fpll.coast, c.fpll.lock, c.refclk.present, c.txo.present, s.aon.xtal.present]

/-- Code of a region's power state in PWR_STATUS. -/
def powerCode : RegionPower → Nat
  | .s0 => 0 | .s1 => 1 | .s2 => 2 | .off => 3

/-- PWR_STATUS (R698). -/
def pwrStatus (s : Hub) : Nat :=
  let p := s.pwr
  2 ^ 8 * flags [p.s3Resumed, p.readAssist, p.fbb, p.dvfs.isSome] + 2 ^ 12 * p.plTarget + 2 ^ 14 * p.pl +
  (List.range 8).foldl (fun a r => a + 2 ^ (2 * r + 16) * powerCode (s.region r).power) 0

/-- NVC_STATUS (R491). -/
def nvcStatus (s : Hub) : Nat :=
  flags [s.eng.mainPresent, s.eng.mainLostFlag, decide (s.boot.cal.cHold = 0), false, s.eng.recovering, logFull s, s.eng.holdupRefused]

/-- Low and high words of a 64-bit value. -/
def lo32 (v : Nat) : Nat := v % 2 ^ 32
def hi32 (v : Nat) : Nat := v / 2 ^ 32 % 2 ^ 32

/-- Registers of a mailbox at offset `o` (R502). -/
def mailboxRead (serving : Bool) (m : Mailbox) (o : Nat) : Nat :=
  if o = 0x00 then lo32 m.cmdBase
  else if o = 0x04 then hi32 m.cmdBase
  else if o = 0x08 then lo32 m.rspBase
  else if o = 0x0C then hi32 m.rspBase
  else if o = 0x10 then m.cmdTail
  else if o = 0x14 then m.cmdHead
  else if o = 0x18 then m.rspTail
  else if o = 0x1C then m.rspHead
  else if o = 0x20 then b2n m.enable
  else if o = 0x24 then flags [m.enable && !m.stopped && serving, m.ringErr, m.seqErr, m.dmaErr]
  else 0

/-- Registers of the notice ring at offset `o` (R522). -/
def ntcRead (n : NoticeRing) (o : Nat) : Nat :=
  if o = 0x00 then lo32 n.base
  else if o = 0x04 then hi32 n.base
  else if o = 0x10 then n.head
  else if o = 0x14 then n.tail
  else if o = 0x20 then b2n n.enable
  else if o = 0x24 then n.lost
  else if o = 0x28 then n.seq
  else 0

/-- The identity block (R501, R633, R774). -/
def identityRead (p : Port) (s : Hub) (o : Nat) : Nat :=
  let fw := s.fwReady
  if o = 0x00 then 0x91440B01
  else if o = 0x04 then
    orderCode s.fuse.order + 2 ^ 8 * cascadePorts s.fuse.order + 2 ^ 16 * (2 ^ regionCount s.fuse.order - 1)
  else if o = 0x08 then lo32 Config.serial.toNat
  else if o = 0x0C then hi32 Config.serial.toNat
  else if o = 0x10 then if fw then 0x03020000 + imageVersion (supImage s s.boot.supSlot) % 2 ^ 16 else 0
  else if o = 0x14 then if fw then s.hubIndex % 8 else 0
  else if o = 0x20 then globalStatus p s
  else if o = 0x24 then
    flags [(s.port p).partialWrite, (s.port p).writeRefused, (s.port p).roleRefused, (s.port p).badPointer]
  else if o = 0x40 then chipFaultReg s
  else if o = 0x44 then lo32 s.kept.cfRtc
  else if o = 0x48 then hi32 s.kept.cfRtc
  else if o = 0x50 then bootStatus s
  else 0

/-- The clock and power block, offset from 0x0003_0000 (R666, R698, R491). -/
def clockPowerRead (p : Port) (s : Hub) (o : Nat) : Nat :=
  let c := s.clk
  if o = 0x000 then clkStatus s
  else if o = 0x004 then c.event
  else if o = 0x008 then c.cpllCnt + 2 ^ 8 * c.tpllCnt + 2 ^ 16 * c.spllCnt + 2 ^ 24 * c.fpllCnt
  else if o = 0x010 then c.measSel
  else if o = 0x014 then c.measValue + 2 ^ 29 * flags [c.measCoast, c.measUnitHz, c.measValid]
  else if o = 0x020 then lo32 s.ticks
  else if o = 0x024 then hi32 s.ticks
  else if o = 0x100 then pwrStatus s
  else if o = 0x104 then s.pwr.setMv
  else if o = 0x110 then (match p with | .a => s.pwr.voteA | .b => s.pwr.voteB)
  else if 0x120 ≤ o ∧ o < 0x140 then regionVotes s ((o - 0x120) / 4)
  else if o = 0x140 then chipVotes s
  else if o = 0x150 then s.pwr.wakeSrc
  else if o = 0x154 then flags [s.pwr.entryAborted, s.pwr.dvfsFail] + 2 ^ 8 * s.pwr.abortCount
  else if o = 0x160 then s.aon.tamperAct + 2 ^ 4 * s.aon.tamperLevel + 2 ^ 8 * s.aon.tamperEn
  else if o = 0x170 then lo32 s.aon.alarm0
  else if o = 0x174 then hi32 s.aon.alarm0
  else if o = 0x178 then lo32 s.aon.alarm1
  else if o = 0x17C then hi32 s.aon.alarm1
  else if o = 0x180 then s.aon.alarmEn + 4 * s.aon.alarmWakeOut + 16 * s.aon.alarmFired
  else if o = 0x190 then 2 ^ 16 * s.aon.buffer.length + 2 ^ 30 * b2n s.aon.wasBackup + 2 ^ 31 * b2n s.aon.vbatLost
  else if o = 0x194 then s.aon.outages
  else if o = 0x198 then s.aon.dropped
  else if o = 0x800 then vholdCode s + 2 ^ 16 * eAvailMj s
  else if o = 0x804 then nvcStatus s
  else 0

/-- What port `p` reads at a 32-bit aligned offset of the window (R497: 0 where nothing is listed). RNG_OUT, which a read changes, has
its own row. -/
def readReg (p : Port) (s : Hub) (o : Nat) : Nat :=
  let serving := s.fwReady || s.romRecovery
  if o < 0x1000 then identityRead p s o
  else if 0x1000 ≤ o ∧ o < 0x1040 then mailboxRead serving (s.port p).normal (o - 0x1000)
  else if 0x1040 ≤ o ∧ o < 0x1080 then mailboxRead serving (s.port p).urgent (o - 0x1040)
  else if 0x1080 ≤ o ∧ o < 0x1100 then ntcRead (s.port p).ntc (o - 0x1080)
  else if 0x10000 ≤ o ∧ o < 0x10400 then s.tmu.read ((o - 0x10000) / 0x40) ((o - 0x10000) % 0x40)
  else if 0x20000 ≤ o ∧ o < 0x20100 then s.rng.read p (o - 0x20000)
  else if 0x30000 ≤ o ∧ o < 0x31000 then clockPowerRead p s (o - 0x30000)
  else if 0x40000 ≤ o ∧ o < 0x40060 then nth 0 (s.port p).msix ((o - 0x40000) / 4)
  else if o = 0x40800 then (s.port p).pba
  else if o = 0x41000 then (s.port p).cause + 32 * b2n s.tmu.irq
  else 0

/-! ## Writes with an effect of their own -/

/-- Bits a W1C write clears. -/
def w1c (old v mask : Nat) : Nat := old &&& (0xFFFFFFFF ^^^ (v &&& mask))

/-- Has the active port written no HEARTBEAT for 1 s? -/
def lapsed (s : Hub) : Bool := s.host.hbLapsed || s.passed s.host.heartbeat (sec 1)

/-- The active port changes (R495, R525). -/
def setActive (a : Option Port) (s : Hub) : Hub :=
  forPorts (fun q => raiseCause q 8)
    { s with host := { s.host with active := a, heartbeat := s.now, hbLapsed := false } }

/-- CLAIM (R495): succeeds while no port is active, the active port's link is down, or its heartbeat has lapsed. -/
def claim (p : Port) (s : Hub) : Hub :=
  match s.host.active with
  | none => setActive (some p) s
  | some q =>
    if !(s.port q).linkUp || lapsed s then
      if q = p then { s with host := { s.host with heartbeat := s.now, hbLapsed := false } } else setActive (some p) s
    else hostErr p (fun h => { h with roleRefused := true }) s

/-- HEARTBEAT: of the active port; from the standby port without effect. -/
def heartbeat (p : Port) (s : Hub) : Hub :=
  if s.isActive p then { s with host := { s.host with heartbeat := s.now, hbLapsed := false } } else s

/-- RELEASE: this port gives up the active role if it holds it. -/
def releaseRole (p : Port) (s : Hub) : Hub := if s.isActive p then setActive none s else s

/-- A write to HOST_ROLE: CLAIM, then HEARTBEAT, then RELEASE (R495). -/
def hostRole (p : Port) (v : W32) (s : Hub) : Hub :=
  let s := when_ (v.getLsbD 0) (claim p) s
  let s := when_ (v.getLsbD 1) (heartbeat p) s
  when_ (v.getLsbD 2) (releaseRole p) s

def mbxOf (p : Port) (urgent : Bool) : Mbx := if urgent then .urgent p else .normal p

/-- A bad pointer at a mailbox: BAD_POINTER with its cause (R506). -/
def badPointer (p : Port) (s : Hub) : Hub := hostErr p (fun h => { h with badPointer := true }) s

/-- CMD_TAIL (R503, R504, R506): hands entries over, or stops the mailbox. -/
def cmdTail (p : Port) (u : Bool) (v : Nat) (s : Hub) : Hub :=
  let m := s.mailbox (mbxOf p u)
  let v := v % 512
  if 256 < subMod 512 v m.cmdHead ∨ subMod 512 v m.cmdHead < subMod 512 m.cmdTail m.cmdHead then
    mbxErr (mbxOf p u) (fun m => { m with stopped := true, ringErr := true }) (badPointer p s)
  else s.setMailbox (mbxOf p u) (fun m => { m with cmdTail := v })

/-- A ring vector of a mailbox. -/
def ringVector (p : Port) (u : Bool) (s : Hub) : Hub := sendVector p (if u then 1 else 0) s

/-- RSP_HEAD (R505, R506, R525). -/
def rspHead (p : Port) (u : Bool) (v : Nat) (s : Hub) : Hub :=
  let m := s.mailbox (mbxOf p u)
  let v := v % 512
  if subMod 512 m.rspTail m.rspHead < subMod 512 v m.rspHead then badPointer p s
  else
    let s := s.setMailbox (mbxOf p u) (fun m => { m with rspHead := v })
    if v = m.rspTail then s else ringVector p u s

/-- RESET of a mailbox: stopped, every pointer 0, status flags clear; the base registers keep their values (R502, R494). -/
def Mailbox.cleared (m : Mailbox) : Mailbox := { cmdBase := m.cmdBase, rspBase := m.rspBase }

/-- +0x20 of a mailbox: RESET acts first, then ENABLE takes the value written. -/
def mailboxControl (p : Port) (u : Bool) (v : W32) (s : Hub) : Hub :=
  let s := when_ (v.getLsbD 1) (fun s => s.setMailbox (mbxOf p u) Mailbox.cleared) s
  s.setMailbox (mbxOf p u) (fun m =>
    { m with enable := v.getLsbD 0, seqNext := if v.getLsbD 0 && !m.enable then none else m.seqNext })

/-- Is an NTC_HEAD value neither behind the head nor beyond the tail? -/
def ntcHeadOk (n : NoticeRing) (v : Nat) : Bool := decide (subMod 8192 v n.head ≤ ntcHeld n)

/-- NTC_HEAD (R523, R525). -/
def ntcHead (p : Port) (v : Nat) (s : Hub) : Hub :=
  let n := (s.port p).ntc
  let v := v % 8192
  if !ntcHeadOk n v then badPointer p s
  else
    let s := s.setPort p (fun h => { h with ntc := { h.ntc with head := v } })
    if v = n.tail then s else sendVector p 2 s

/-- +0x20 of the notice ring: RESET first, then ENABLE as written. -/
def ntcControl (p : Port) (v : W32) (s : Hub) : Hub :=
  let s := when_ (v.getLsbD 1) (fun s => s.setPort p (fun h => { h with ntc := { h.ntc with enable := false, head := 0, tail := 0 } })) s
  s.setPort p (fun h => { h with ntc := { h.ntc with enable := v.getLsbD 0 } })

/-- HOST_VOTE of a port (R677, R678). -/
def hostVote (p : Port) (v : W32) (s : Hub) : Hub :=
  match p with
  | .a => { s with pwr := { s.pwr with voteA := v.toNat % 512 } }
  | .b => { s with pwr := { s.pwr with voteB := v.toNat % 512 } }

def refuseWrite (p : Port) (s : Hub) : Hub := hostErr p (fun h => { h with writeRefused := true }) s

/-- TAMPER_CFG (R695, R696): the active port, in FACTORY and COMMISSIONING. An input becomes active only by a later TAMPER_ACTIVE. -/
def tamperCfg (p : Port) (v : W32) (s : Hub) : Hub :=
  if !s.isActive p || !(decide (s.lc = factory) || decide (s.lc = commissioning)) then refuseWrite p s
  else
    let en := bits v.toNat 11 8
    let lv := bits v.toNat 7 4
    let fresh := (en &&& (15 ^^^ s.aon.tamperEn)) ||| (en &&& (lv ^^^ s.aon.tamperLevel))
    { s with aon := { s.aon with tamperEn := en, tamperLevel := lv, tamperAct := s.aon.tamperAct &&& en &&& (15 ^^^ fresh) } }

/-- ALARM_n and ALARM_CTRL (R696, R697). -/
def alarmWrite (p : Port) (o : Nat) (v : W32) (s : Hub) : Hub :=
  if !s.isActive p then refuseWrite p s
  else
    let a := s.aon
    let n := v.toNat
    let a' : Aon :=
      if o = 0x30170 then { a with alarm0 := hi32 a.alarm0 * 2 ^ 32 + n }
      else if o = 0x30174 then { a with alarm0 := n * 2 ^ 32 + lo32 a.alarm0 }
      else if o = 0x30178 then { a with alarm1 := hi32 a.alarm1 * 2 ^ 32 + n }
      else if o = 0x3017C then { a with alarm1 := n * 2 ^ 32 + lo32 a.alarm1 }
      else if o = 0x30180 then
        { a with alarmFired := w1c a.alarmFired (n / 16) 3, alarmWakeOut := bits n 3 2, alarmEn := bits n 1 0
                 alarmDue := a.alarmDue &&& bits n 1 0 }
      else a
    { s with aon := a' }

/-- CLK_MEAS_SEL (R666): a write starts a measurement. -/
def clkMeasSel (v : W32) (s : Hub) : Hub :=
  { s with clk := { s.clk with measSel := v.toNat % 16, measValid := false, measSince := some s.now
                               measCoast := (if v.toNat % 16 = 3 then s.clk.tpll.coast else s.clk.cpll.coast) } }

/-! ## Any register -/

/-- A mailbox register at offset `o`. -/
def mailboxWrite (p : Port) (u : Bool) (o : Nat) (v : W32) (s : Hub) : Hub :=
  let m := s.mailbox (mbxOf p u)
  let n := v.toNat
  let base := fun (f : Mailbox → Mailbox) => if m.enable then s else s.setMailbox (mbxOf p u) f
  if o = 0x00 then base (fun m => { m with cmdBase := hi32 m.cmdBase * 2 ^ 32 + n / 4096 * 4096 })
  else if o = 0x04 then base (fun m => { m with cmdBase := n * 2 ^ 32 + lo32 m.cmdBase })
  else if o = 0x08 then base (fun m => { m with rspBase := hi32 m.rspBase * 2 ^ 32 + n / 4096 * 4096 })
  else if o = 0x0C then base (fun m => { m with rspBase := n * 2 ^ 32 + lo32 m.rspBase })
  else if o = 0x10 then cmdTail p u n s
  else if o = 0x1C then rspHead p u n s
  else if o = 0x20 then mailboxControl p u v s
  else if o = 0x24 then
    s.setMailbox (mbxOf p u) (fun m =>
      { m with dmaErr := m.dmaErr && !v.getLsbD 3, seqErr := m.seqErr && !v.getLsbD 2, ringErr := m.ringErr && !v.getLsbD 1 })
  else s

/-- A notice ring register at offset `o`. -/
def ntcWrite (p : Port) (o : Nat) (v : W32) (s : Hub) : Hub :=
  let n := v.toNat
  let put := fun (f : NoticeRing → NoticeRing) => s.setPort p (fun h => { h with ntc := f h.ntc })
  if o = 0x00 then put (fun r => { r with base := hi32 r.base * 2 ^ 32 + n / 4096 * 4096 })
  else if o = 0x04 then put (fun r => { r with base := n * 2 ^ 32 + lo32 r.base })
  else if o = 0x10 then ntcHead p n s
  else if o = 0x20 then ntcControl p v s
  else s

/-- A timer register at offset `o` of timer `n`'s block. -/
def timerWrite (n o : Nat) (v : W32) (u : Tmu) : Tmu :=
  if o = 0x00 then u.writeCtrl n v
  else if o = 0x04 then u.writeStatus n v
  else if o = 0x08 then u.writeCnt n v
  else if o = 0x0C then u.writeCmp n v
  else if o = 0x18 then u.writeLink n v
  else u

/-- The identity block: HOST_ERR, HOST_ROLE and CHIP_FAULT.VALID take writes. -/
def identityWrite (p : Port) (o : Nat) (v : W32) (s : Hub) : Hub :=
  if o = 0x24 then
    s.setPort p (fun h => { h with partialWrite := h.partialWrite && !v.getLsbD 0, writeRefused := h.writeRefused && !v.getLsbD 1
                                   roleRefused := h.roleRefused && !v.getLsbD 2, badPointer := h.badPointer && !v.getLsbD 3 })
  else if o = 0x30 then hostRole p v s
  else if o = 0x40 then { s with kept := { s.kept with cfValid := s.kept.cfValid && !v.getLsbD 31 } }
  else s

/-- The clock and power block. -/
def clockPowerWrite (p : Port) (o : Nat) (v : W32) (s : Hub) : Hub :=
  let n := v.toNat
  if o = 0x004 then { s with clk := { s.clk with event := w1c s.clk.event n 0x1FFF } }
  else if o = 0x010 then clkMeasSel v s
  else if o = 0x100 then { s with pwr := { s.pwr with s3Resumed := s.pwr.s3Resumed && !v.getLsbD 8 } }
  else if o = 0x110 then hostVote p v s
  else if o = 0x150 then { s with pwr := { s.pwr with wakeSrc := w1c s.pwr.wakeSrc n 0xFF0F } }
  else if o = 0x154 then
    { s with pwr := { s.pwr with entryAborted := s.pwr.entryAborted && !v.getLsbD 0, dvfsFail := s.pwr.dvfsFail && !v.getLsbD 1 } }
  else if o = 0x160 then tamperCfg p v s
  else if 0x170 ≤ o ∧ o ≤ 0x180 then alarmWrite p (0x30000 + o) v s
  else if o = 0x190 then { s with aon := { s.aon with vbatLost := s.aon.vbatLost && !v.getLsbD 31 } }
  else if o = 0x804 then
    s.setEng (fun e => { e with holdupRefused := e.holdupRefused && !v.getLsbD 6
                                mainLostFlag := e.mainLostFlag && (!v.getLsbD 1 || e.mainLost) })
  else s

/-- A vector whose mask is cleared while its pending bit is set sends its message. -/
def unmask (p : Port) (i : Nat) (v : W32) (s : Hub) : Hub :=
  let k := i / 4
  let s := s.setPort p (fun h => { h with msix := modNth h.msix i (fun _ => v.toNat) })
  if i % 4 = 3 ∧ v.getLsbD 0 = false ∧ bit (s.port p).pba k then
    (s.setPort p (fun h => { h with pba := h.pba &&& (0x3F ^^^ 2 ^ k) })).emit (.msix p k)
  else s

/-- A 32-bit write at any offset (R497 to R499): ignored where nothing is listed. -/
def writeReg (p : Port) (o : Nat) (v : W32) (s : Hub) : Hub :=
  if o < 0x1000 then identityWrite p o v s
  else if 0x1000 ≤ o ∧ o < 0x1040 then mailboxWrite p false (o - 0x1000) v s
  else if 0x1040 ≤ o ∧ o < 0x1080 then mailboxWrite p true (o - 0x1040) v s
  else if 0x1080 ≤ o ∧ o < 0x1100 then ntcWrite p (o - 0x1080) v s
  else if 0x10000 ≤ o ∧ o < 0x30000 then
    if !s.isActive p then refuseWrite p s
    else if o < 0x10400 then timerCheck { s with tmu := timerWrite ((o - 0x10000) / 0x40) ((o - 0x10000) % 0x40) v s.tmu }
    else if o = 0x20004 then s.setRng (fun g => { g with healthEv := g.healthEv && !v.getLsbD 12 })
    else s
  else if 0x30000 ≤ o ∧ o < 0x31000 then clockPowerWrite p (o - 0x30000) v s
  else if 0x40000 ≤ o ∧ o < 0x40060 then unmask p ((o - 0x40000) / 4) v s
  else if o = 0x41000 then s.setPort p (fun h => { h with cause := w1c h.cause v.toNat 0x1F })
  else s

/-! ## The rows -/

/-- REGISTER_WRITE (R8, R497): a write of fewer than 4 bytes is ignored and sets PARTIAL_WRITE. -/
def execRegisterWrite (p : Port) (off bytes : Nat) (v : W32) : State → Turn := onHub fun s =>
  .next (fromPort p (if bytes < 4 then hostErr p (fun h => { h with partialWrite := true }) else writeReg p off v) s)

/-- HOST_ROLE_CLAIM (R495). -/
def execHostRoleClaim (p : Port) (v : W32) : State → Turn := onHub fun s => .next (fromPort p (hostRole p v) s)

/-- HOST_ROLE_HEARTBEAT (R495). -/
def execHostRoleHeartbeat (p : Port) (v : W32) : State → Turn := onHub fun s => .next (fromPort p (hostRole p v) s)

/-- HOST_ROLE_RELEASE (R495). -/
def execHostRoleRelease (p : Port) (v : W32) : State → Turn := onHub fun s => .next (fromPort p (hostRole p v) s)

/-- HEARTBEAT_LAPSE (R495): 1 s without a HEARTBEAT of the active port. -/
def execHeartbeatLapse : State → Turn := onHub fun s =>
  .next (if s.host.active.isSome && s.passed s.host.heartbeat (sec 1) then { s with host := { s.host with hbLapsed := true } } else s)

/-- CMD_TAIL_DOORBELL (R504, R506). -/
def execCmdTailDoorbell (p : Port) (u : Bool) (v : W32) : State → Turn := onHub fun s => .next (fromPort p (cmdTail p u v.toNat) s)

/-- RSP_HEAD_WRITE (R505, R506). -/
def execRspHeadWrite (p : Port) (u : Bool) (v : W32) : State → Turn := onHub fun s => .next (fromPort p (rspHead p u v.toNat) s)

/-- MAILBOX_RESET (R502). -/
def execMailboxReset (p : Port) (u : Bool) (v : W32) : State → Turn := onHub fun s => .next (fromPort p (mailboxControl p u v) s)

/-- MAILBOX_ENABLE (R507). -/
def execMailboxEnable (p : Port) (u : Bool) (v : W32) : State → Turn := onHub fun s => .next (fromPort p (mailboxControl p u v) s)

/-- NTC_HEAD_WRITE (R523). -/
def execNtcHeadWrite (p : Port) (v : W32) : State → Turn := onHub fun s => .next (fromPort p (ntcHead p v.toNat) s)

/-- NOTICE_RING_RESET (R522). -/
def execNoticeRingReset (p : Port) (v : W32) : State → Turn := onHub fun s => .next (fromPort p (ntcControl p v) s)

/-- NOTICE_RING_ENABLE (R522). -/
def execNoticeRingEnable (p : Port) (v : W32) : State → Turn := onHub fun s => .next (fromPort p (ntcControl p v) s)

/-- HOST_VOTE_WRITE (R677). -/
def execHostVoteWrite (p : Port) (v : W32) : State → Turn := onHub fun s => .next (fromPort p (hostVote p v) s)

/-- TAMPER_CFG_WRITE (R696). -/
def execTamperCfgWrite (p : Port) (v : W32) : State → Turn := onHub fun s => .next (fromPort p (tamperCfg p v) s)

/-- ALARM_WRITE (R696), at the register's offset. -/
def execAlarmWrite (p : Port) (off : Nat) (v : W32) : State → Turn := onHub fun s => .next (fromPort p (alarmWrite p off v) s)

/-- CLK_MEAS_SEL_WRITE (R666). -/
def execClkMeasSelWrite (p : Port) (v : W32) : State → Turn := onHub fun s => .next (fromPort p (clkMeasSel v) s)

/-- PCIE_PORT_RESET (R494): that port's mailboxes and notice ring are disabled as a RESET of each would; nothing else moves. -/
def execPciePortReset (p : Port) (linkDown : Bool) : State → Turn := onHub fun s =>
  .next (s.setPort p (fun h =>
    { h with normal := h.normal.cleared, urgent := h.urgent.cleared
             ntc := { h.ntc with enable := false, head := 0, tail := 0 }
             linkUp := if linkDown then false else h.linkUp }))

/-- PCIE_LINK_UP (R494); in reset and from the first step of an S3 entry to the end of the exit both ports are disabled (R686, R689). -/
def execPcieLinkUp (p : Port) : State → Turn := onHub fun s =>
  .next (if s.boot.phase = .held ∨ s.pwr.chip ≠ .s0 then s else s.setPort p (fun h => { h with linkUp := true }))

end Sys2Proof.Machine
end

