-- ==== Sys2Proof/Machine/Reel.lean ====
section
/-! DEFINITION. Up-only counter cells (R244 to R249, R372), the reel (R449 to R477), the journal (R478 to R480) and commit bursts (R481, R482). -/

namespace Sys2Proof.Machine

def Hub.setNv (s : Hub) (f : Nv → Nv) : Hub := { s with nv := f s.nv }
def Hub.setReel (s : Hub) (f : Reel → Reel) : Hub := s.setNv (fun n => { n with reel := f n.reel })
def Hub.setJournal (s : Hub) (f : Journal → Journal) : Hub := s.setNv (fun n => { n with journal := f n.journal })

/-! ## Counter cells -/

def cellSession : Nat := 0x0010
def cellReelAck : Nat := 0x0011
def cellOpSeq : Nat := 0x0012
def cellBootTry : Nat := 0x0013
def cellEnrol : Nat := 0x0020
def cellLoad : Nat := 0x0021
def cellTagFail (b : Nat) : Nat := 0x0100 + b
def cellRelRange (b : Nat) : Nat := 0x0180 + b

/-- Entries a copy's sector holds (R245: 32 bytes each in 4 KiB). -/
def cellSector : Nat := 128

def cellGet (s : Hub) (n : Nat) : Cell2 := Tab.get {} s.nv.cells n
def cellPut (n : Nat) (c : Cell2) (s : Hub) : Hub := s.setNv (fun v => { v with cells := Tab.put {} n c v.cells })

/-- An entry of a cell: VALUE, its complement, the cell number, ten bytes of 0xFF, and their CRC-32 (R245). -/
def cellEntry (n v : Nat) : List Byte :=
  let l := toLe 8 v ++ toLe 8 (2 ^ 64 - 1 - v) ++ toLe 2 n ++ List.replicate 10 0xFF
  l ++ toLe 4 (crc32 l)

/-- An entry is valid when its CRC matches and its value fields are complements (R245). -/
def entryValid (l : List Byte) : Bool :=
  l.length == 32 && fld l 0 8 + fld l 8 8 == 2 ^ 64 - 1 && fld l 28 4 == crc32 (l.take 28)

/-- The value of a copy: the largest of its valid entries, or 0 (R246). -/
def CellCopy.val (c : CellCopy) : Nat := ((c.entries.filter entryValid).map (fun e => fld e 0 8)).foldl max 0

/-- A copy whose sector is full. -/
def CellCopy.full (c : CellCopy) : Bool := decide (cellSector ≤ c.entries.length)

/-- A copy with one entry more. -/
def CellCopy.append (n v : Nat) (c : CellCopy) : CellCopy := { entries := c.entries ++ [cellEntry n v] }

/-- The value of a cell: the larger of its two copies (R246). -/
def cellVal (s : Hub) (n : Nat) : Nat := max (cellGet s n).a.val (cellGet s n).b.val

/-- The entry that a change of a copy of cell `n` has programmed, the last of it, in its slot of the copy's sector. -/
def entryProgrammed (area n : Nat) (old new : CellCopy) (s : Hub) : Hub :=
  match new.entries.getLast? with
  | some e => if new = old then s else s.program (area + 4096 * n + 32 * (new.entries.length - 1)) e
  | none => s

/-- Copy B of a cell, and copy A, changed. -/
def copyB (n : Nat) (f : CellCopy → CellCopy) (s : Hub) : Hub :=
  let c := cellGet s n
  entryProgrammed flashCellB n c.b (f c.b) (cellPut n { c with b := f c.b } s)
def copyA (n : Nat) (f : CellCopy → CellCopy) (s : Hub) : Hub :=
  let c := cellGet s n
  entryProgrammed flashCellA n c.a (f c.a) (cellPut n { c with a := f c.a } s)

/-- A full copy, `put` of the two, is erased, which is no burst, and takes the cell's value as its first entry, a burst of 1 program that the
hold-up rule may refuse (R248). -/
def refreshCopy (n : Nat) (full : CellCopy → Bool) (v : Nat) (get : Cell2 → CellCopy) (put : (CellCopy → CellCopy) → Hub → Hub) (s : Hub) :
    Bool × Hub :=
  if full (get (cellGet s n)) then
    let x := admission 1 (put (fun _ => {}) s)
    if x.1 then (true, put (CellCopy.append n v) x.2) else x
  else (true, s)

/-- Room in both copies for one entry: each full copy in turn, B before A, the first done before the second is begun (R248). -/
def cellPrepare (n : Nat) (s : Hub) : Bool × Hub :=
  let v := cellVal s n
  let x := refreshCopy n CellCopy.full v (·.b) (copyB n) s
  if x.1 then refreshCopy n CellCopy.full v (·.a) (copyA n) x.2 else x

/-- The highest value of a cell (R249). -/
def cellMax : Nat := 0xFFFFFFFFFFFFFFFF

/-- The entry goes to copy B, and once it is verified there to copy A (R247, R372); a cell at its highest value is not written. -/
def cellWrite (n v : Nat) (s : Hub) : Hub :=
  if cellVal s n = cellMax then s
  else
    let w := min v cellMax
    let s := copyB n (CellCopy.append n w) s
    if w ≤ (cellGet s n).b.val then copyA n (CellCopy.append n w) s else s

/-- A copy with room for an entry: a full one is erased first and takes the cell's value (R248). -/
def CellCopy.roomy (n v : Nat) (c : CellCopy) : CellCopy := if c.full then CellCopy.append n v {} else c

/-- A cell raised at the start, where no sample of the reserve has yet been taken: with main power, which BOOT waits for (log entry 179). -/
def cellRaise (n v : Nat) (s : Hub) : Hub :=
  let w := cellVal s n
  cellWrite n v (copyA n (CellCopy.roomy n w) (copyB n (CellCopy.roomy n w) s))

/-- Power-up repair (R249): the larger value is appended to the copy that holds the smaller. -/
def cellRepair (n : Nat) (s : Hub) : Hub :=
  let c := cellGet s n
  let add := fun (v : Nat) (x : CellCopy) => CellCopy.append n v (if x.full then {} else x)
  if c.a.val < c.b.val then copyA n (add c.b.val) s else if c.b.val < c.a.val then copyB n (add c.a.val) s else s

/-! ## Records -/

/-- The bytes of a chain value, as SHA-256 delivers them. -/
def hashBytes (h : BitVec 256) : List Byte := (toLe 32 h.toNat).reverse

/-- Bytes 0 to 11 of a record (R449). -/
def recHead (seq typ part parts bay fl : Nat) : List Byte :=
  toLe 8 seq ++ toLe 1 typ ++ toLe 1 (16 * part + (parts - 1)) ++ toLe 1 bay ++ toLe 1 fl

/-- H_n from H_(n-1) and the record (R451). -/
def chainNext (h : BitVec 256) (r : Rec) : BitVec 256 :=
  Config.sha256 (hashBytes h ++ recHead r.seq r.typ r.part r.parts r.bay r.flags ++ r.body)

/-- The 64 bytes of a record as stored (R449). -/
def recBytes (r : Rec) : List Byte :=
  let a := recHead r.seq r.typ r.part r.parts r.bay r.flags
  let b := r.body ++ toLe 16 r.link
  a ++ toLe 4 (crc32 (a ++ b)) ++ b

/-- One record is appended in the next slot with the next SEQ (R450, R469). -/
def appendRec (typ part parts bay fl : Nat) (body : List Byte) (l : Reel) : Reel :=
  let r : Rec := { seq := l.nextSeq, typ := typ, part := part, parts := parts, bay := bay, flags := fl, body := body
                   link := leNat ((hashBytes l.h).take 16), slot := l.nextSlot }
  { l with recs := l.recs ++ [r], nextSeq := l.nextSeq + 1, nextSlot := l.nextSlot + 1, h := chainNext l.h r }

/-- An entry to be written: its type, bay (0xFF for none), FLAGS, and its body: for a signed entry, the 64 bytes before the
signature. -/
structure Ent where
  typ : Nat
  bay : Nat
  fl : Nat := 0
  body : List Byte
  deriving DecidableEq, Repr

/-- Parts of an entry by type (R452). -/
def entParts (typ : Nat) : Nat := if typ = 8 then 1 else if typ ≤ 2 then 2 else 4

/-- Types the hub signs (R459). -/
def entSigned (typ : Nat) : Bool := typ == 6 || typ == 7 || typ == 9

/-- Part `p` of a body. -/
def partOf (l : List Byte) (p : Nat) : List Byte := (List.range 32).map (fun i => byteAt l (32 * p + i))

/-- An entry is appended, part by part; a signature over H_m stands in parts 2 and 3 (R459). -/
def appendEnt (l : Reel) (e : Ent) : Reel :=
  let n := entParts e.typ
  let ap := fun (b : List Byte) (l : Reel) (p : Nat) => appendRec e.typ p n e.bay e.fl (partOf b p) l
  if entSigned e.typ then
    let l2 := ap e.body (ap e.body l 0) 1
    let sig := sigBytes (Config.ecdsaSign 0x10 l2.h)
    let b := e.body.take 64 ++ List.replicate (64 - e.body.length) 0 ++ sig
    ap b (ap b l2 2) 3
  else (List.range n).foldl (ap e.body) l

/-! ## Space (R470, R474, R475) -/

/-- Sectors of the reel's area. -/
def reelSectors (l : Reel) : Nat := l.sizeMiB * 256

/-- The first record above REEL_ACK, which no sector may be erased with. -/
def firstUnacked (s : Hub) : Option Rec := s.nv.reel.recs.find? (fun r => decide (cellVal s cellReelAck < r.seq))

/-- Sectors that hold a record above REEL_ACK. -/
def unackedSectors (s : Hub) : Nat :=
  match firstUnacked s with
  | none => 0
  | some r => (s.nv.reel.nextSlot - 1) / 64 - r.slot / 64 + 1

/-- Free space in KiB (R474). -/
def reelFreeKiB (s : Hub) : Nat := 4 * (reelSectors s.nv.reel - unackedSectors s)

/-- The fill level in force (R475), levels 0 to 4. -/
def fillLevel (s : Hub) : Nat :=
  let f := reelFreeKiB s
  let z := s.nv.reel.sizeMiB * 1024
  if f < 256 then 4 else if f < 4096 + 64 then 3 else if 10 * f < z then 2 else if 4 * f < z then 1 else 0

/-- LOG_HIGH_WATER at a change of level (R477). -/
def levelCheck (s : Hub) : Hub :=
  let n := fillLevel s
  let o := s.nv.reel.level
  if n = o then s
  else
    notice 0x0401 chipSrc [⟨16, 1, n⟩, ⟨17, 1, o⟩, ⟨20, 4, reelFreeKiB s⟩, ⟨24, 8, s.nv.reel.nextSeq - 1⟩, ⟨32, 8, cellVal s cellReelAck⟩]
      (s.setReel (fun l => { l with level := n }))

/-- The sector that is erased next may be erased: every record in it is acknowledged (R470). -/
def sectorErasable (s : Hub) : Bool :=
  let l := s.nv.reel
  match firstUnacked s with
  | none => true
  | some r => decide (l.erasedTo + 64 ≤ r.slot / 64 * 64 + 64 * reelSectors l)

/-- Two erased sectors are kept ahead of the next slot (R470): an erase is started where one is wanted and allowed. -/
def planErase (s : Hub) : Hub :=
  let l := s.nv.reel
  if l.erasing = 0 ∧ l.erasedTo < (l.nextSlot + 63) / 64 * 64 + 128 ∧ sectorErasable s then s.setReel (fun l => { l with erasing := 1 }) else s

/-- A sector erase ends (R470): 64 more erased slots, the records that stood there gone. -/
def eraseDone (s : Hub) : Hub :=
  if s.nv.reel.erasing = 0 then s
  else
    let s := s.setReel (fun l =>
      { l with erasing := l.erasing - 1, erasedTo := l.erasedTo + 64
               recs := l.recs.filter (fun r => decide (l.erasedTo + 64 ≤ r.slot + 64 * reelSectors l)) })
    planErase (levelCheck s)

/-- The erase of an older tag image slot ends (R241). -/
def tagEraseDone (s : Hub) : Hub :=
  match s.eng.tagErase with
  | [] => s
  | (b, n) :: r =>
    let f := fun (t : TagSlots) => if n = 0 then { t with s0 := [] } else { t with s1 := [] }
    (s.setNv (fun v => { v with tags := Tab.put {} b (f (Tab.get {} v.tags b)) v.tags })).setEng (fun e => { e with tagErase := r })

/-- SECTOR_ERASE_COMPLETE (R241, R470): the reel's erase ends where one runs, otherwise that of the tag image slot that has waited longest. -/
def execSectorEraseComplete : State → Turn := onHub fun s => .next (if s.nv.reel.erasing = 0 then tagEraseDone s else eraseDone s)

/-! ## The journal -/

/-- Slots of the journal area (R478). -/
def journalSlots : Nat := 4096

/-- Entry slots an entry takes. -/
def jSize : JEntry → Nat
  | .torn .. => 4
  | _ => 1

/-- The slot in which an entry goes when `u` slots are used: a TORN takes one whole page. -/
def jPlace (u : Nat) : JEntry → Nat
  | .torn .. => (u + 3) / 4 * 4
  | _ => u

/-- Slots used after a list of entries. -/
def jUsedAfter (u : Nat) (l : List JEntry) : Nat := l.foldl (fun u e => jPlace u e + jSize e) u

/-- Journal pages programmed by a list of entries. -/
def jPages (u : Nat) : List JEntry → Nat
  | [] => 0
  | e :: r => (jUsedAfter u (e :: r) - 1) / 4 - jPlace u e / 4 + 1

/-- Erased sectors of the journal. -/
def jErased (j : Journal) : Nat := (journalSlots - ((j.used + 63) / 64 * 64 - j.freed)) / 64

/-- An entry is appended. -/
def jAppend (j : Journal) (e : JEntry) : Journal :=
  { j with entries := j.entries ++ [{ slot := jPlace j.used e, seq := j.nextSeq, e := e }]
           nextSeq := j.nextSeq + (if jSize e = 4 then 4 else 1), used := jPlace j.used e + jSize e }

/-- The session that an OPEN names and no CLOSE closes, with the latest OPEN of each. -/
def openSessions (j : Journal) : List Nat :=
  let opens := j.entries.filterMap (fun r => match r.e with | .open_ n .. => some n | _ => none)
  let closed := j.entries.filterMap (fun r => match r.e with | .close n _ => some n | _ => none)
  (opens.filter (fun n => !closed.contains n)).eraseDups

/-- The latest journal entry of a session that `f` accepts. -/
def jLast (j : Journal) (f : JEntry → Bool) : Option JEntry := (j.entries.reverse.find? (fun r => f r.e)).map (·.e)

/-! ## The credential store at rest (R365 to R367) -/

/-- LOAD_ID of a sector is 0 or names a bulk load that the journal records as committed (R367). -/
def sectorCounts {α : Type} (j : Journal) (x : Sector α) : Bool :=
  x.loadId == 0 || j.entries.any (fun r => match r.e with | .bulkCommit n _ => n == x.loadId | _ => false)

/-- A slot as the store holds it at rest. -/
def credAtRest (s : Hub) (i : Nat) : Cred :=
  match (twinAt s.nv.store (i / 32)).inUse (sectorCounts s.nv.journal) with
  | some (_, x) => nth {} x.data (i % 32)
  | none => {}

/-- A block's spare sector is erased, which comes before the burst. DEDUCED: a sector that R367 ignores is replaced before the valid one, whatever its
STORE_SEQ (R366: the sector in use is never changed). -/
def eraseSpare (k : Nat) (s : Hub) : Hub := s.setNv (fun v => { v with store := eraseAt (sectorCounts v.journal) k v.store })

/-- What a block's sector holds: its slots under K_CRED, and the trailer (R365). -/
def storeSector (s : Hub) (k loadId seq : Nat) (l : List Cred) : List Byte :=
  blockSector k loadId seq (Config.kwWrap (BitVec.ofNat 256 (vaultKey s 0x11 0).val) ((List.range 32).flatMap (fun i => slotWhole (nth {} l i))))

/-- A block is programmed, with a STORE_SEQ one above the highest on the store. -/
def programSpare (k loadId : Nat) (l : List Cred) (s : Hub) : Hub :=
  let t := s.nv.store
  let ok := sectorCounts s.nv.journal
  (s.setNv (fun v => { v with store := programAt ok k loadId l t })).program (sectorAt flashStore k ((twinAt t k).spare ok))
    (storeSector s k loadId (topSeq t + 1) l)

/-- Is an entry live (R480)? -/
def jLive (s : Hub) (r : JRec) : Bool :=
  let j := s.nv.journal
  match r.e with
  | .head .. => decide (j.entries.all (fun x => match x.e with | .head .. => decide (x.seq ≤ r.seq) | _ => true))
  | .open_ n .. => (openSessions j).contains n &&
      j.entries.all (fun x => match x.e with | .open_ m .. => decide (m ≠ n) || decide (x.seq ≤ r.seq) | _ => true)
  | .torn n .. => (openSessions j).contains n
  | .bulkCommit .. => j.entries.all (fun x => match x.e with | .bulkCommit .. => decide (x.seq ≤ r.seq) | _ => true)
  | .fobCounter slot c => decide ((credAtRest s slot).fobCounter ≠ c) &&
      j.entries.all (fun x => match x.e with | .fobCounter t _ => decide (t ≠ slot) || decide (x.seq ≤ r.seq) | _ => true)
  | .close .. => false

/-! ## Commit bursts -/

/-- What a commit burst writes, in the order of R482: reel entries, journal entries, counter cells; `other` counts the remaining page
programs. -/
structure Burst_ where
  ents : List Ent := []
  js : List JEntry := []
  cells : List (Nat × Nat) := []
  other : Nat := 0
  /-- A seal, INTERRUPTED entry, marker or journal entry, which the engine grants while MAIN_LOST is set (R487). -/
  inLoss : Bool := false
  deriving DecidableEq, Repr

/-- How a commit went. -/
inductive Commit where
  /-- Committed and verified; SEQ of part 0 of its first entry. -/
  | done (seq : Nat)
  /-- Not admitted: HOLDUP_LOW. -/
  | refused
  /-- The entry does not fit (R475, level 5): it waits. -/
  | stalled
  /-- The fill level keeps the entry out (R475, level 4). -/
  | floored
  deriving DecidableEq, Repr

def totalParts (l : List Ent) : Nat := (l.map (fun e => entParts e.typ)).foldl (· + ·) 0

/-- Reel pages programmed by `k` records from slot `n`: four slots to a page (R469). -/
def reelPages (n k : Nat) : Nat := if k = 0 then 0 else (n + k - 1) / 4 - n / 4 + 1

/-- The journal entries of a burst: one HEAD ends every burst that writes the reel (R479). -/
def burstJournal (b : Burst_) (l : Reel) : List JEntry :=
  if b.ents = [] then b.js else b.js ++ [.head (l.nextSeq - 1) l.h]

/-- N of a burst (R481). -/
def burstN (b : Burst_) (s : Hub) : Nat :=
  reelPages s.nv.reel.nextSlot (totalParts b.ents) + jPages s.nv.journal.used (burstJournal b s.nv.reel) + 2 * b.cells.length + b.other

/-- Entries that are still written at level 4 (R475). -/
def floorOk (e : Ent) : Bool :=
  e.typ == 5 || e.typ == 6 || e.typ == 7 || (e.typ == 8 && (fld e.body 0 2 == 5 || fld e.body 0 2 == 8))

/-- Do these entries fit into the slots that are erased? -/
def reelFits (l : List Ent) (s : Hub) : Bool := l == [] || decide (s.nv.reel.nextSlot + totalParts l ≤ s.nv.reel.erasedTo)

/-- Does the fill level let these entries be written? -/
def levelTakes (l : List Ent) (s : Hub) : Bool := decide (fillLevel s < 4) || l.all floorOk

/-- Room in the journal. -/
def journalTakes (b : Burst_) (s : Hub) : Bool :=
  decide (jUsedAfter s.nv.journal.used (burstJournal b s.nv.reel) ≤ s.nv.journal.freed + journalSlots)

/-- Room in each cell of a burst. -/
def cellsPrepare : List (Nat × Nat) → Hub → Bool × Hub
  | [], s => (true, s)
  | (n, _) :: r, s =>
    let x := cellPrepare n s
    if x.1 then cellsPrepare r x.2 else x

/-- What was sealed, interrupted and signed is counted for the next DAILIES (R458). -/
def countEnt (l : Reel) (e : Ent) : Reel :=
  if e.typ = 6 then { l with sealedSince := l.sealedSince + 1 }
  else if e.typ = 7 then { l with interruptedSince := l.interruptedSince + 1 } else l

/-- Records from slot `n` on are programmed in the area, which wraps (R469). -/
def reelProgrammed (n : Nat) (l : Reel) (s : Hub) : Hub :=
  (l.recs.filter (fun r => decide (n ≤ r.slot))).foldl (fun s r => s.program (flashReel + 64 * (r.slot % (64 * reelSectors l))) (recBytes r)) s

/-- Entries from number `k` on are programmed in the journal's area. -/
def journalProgrammed (k : Nat) (j : Journal) (s : Hub) : Hub :=
  (j.entries.filter (fun r => decide (k ≤ r.seq))).foldl (fun s r => s.program (flashJournal + 64 * (r.slot % journalSlots)) r.bytes) s

/-- The pages of an admitted burst are written: reel, journal, cells (R482). -/
def burstWrite (b : Burst_) (s : Hub) : Hub :=
  let l := b.ents.foldl (fun l e => countEnt (appendEnt l e) e) s.nv.reel
  let n := s.nv.reel.nextSlot
  let k := s.nv.journal.nextSeq
  let s := reelProgrammed n l (s.setReel (fun _ => l))
  let s := s.setJournal (fun j => (burstJournal b l).foldl jAppend j)
  let s := journalProgrammed k s.nv.journal s
  let s := b.cells.foldl (fun s c => cellWrite c.1 c.2 s) s
  let s := s.setEng (fun e => { e with cnt := { e.cnt with
    records := satAdd e.cnt.records (totalParts b.ents)
    torn := satAdd e.cnt.torn ((b.js.filter (fun j => decide (jSize j = 4))).length)
    interrupted := satAdd e.cnt.interrupted ((b.ents.filter (fun x => decide (x.typ = 7))).length) } })
  planErase (levelCheck s)

/-- A commit burst (R481 to R487): it fits, its cells have room, the hold-up rule admits it, and then it runs to its end. -/
def commit (b : Burst_) (s : Hub) : Commit × Hub :=
  if s.eng.mainLost && !b.inLoss then (.refused, s)
  else if !levelTakes b.ents s then (.floored, s)
  else if !(reelFits b.ents s && journalTakes b s) then (.stalled, s)
  else
    let c := cellsPrepare b.cells s
    if !c.1 then (.refused, c.2)
    else
      let a := admission (burstN b c.2) c.2
      if a.1 then (.done s.nv.reel.nextSeq, burstWrite b a.2) else (.refused, a.2)

/-- The status a host command ends with when its burst is not written. -/
def Commit.status : Commit → Status
  | .done _ => .ok
  | .refused => .holdupLow
  | .stalled => .logFull
  | .floored => .logFull

/-- One cell advanced to `v` as a burst of its own (R247, R372); a cell at its highest value completes without a write. -/
def cellAdvance (n v : Nat) (s : Hub) : Commit × Hub :=
  if cellVal s n = cellMax then (.done 0, s) else commit { cells := [(n, v)] } s

/-- Other writes to flash of `k` page programs, admitted as one burst. -/
def pageBurst (k : Nat) (s : Hub) : Commit × Hub := commit { other := k } s

/-! ## Events (R457) -/

/-- An EVENT entry. -/
def eventEnt (kind src count rtc : Nat) (detail : List Fld) (backup : Bool) : Ent :=
  { typ := 8, bay := if src < 128 then src else 0xFF, fl := b2n backup
    body := render 32 ([⟨0, 2, kind⟩, ⟨2, 2, src⟩, ⟨4, 4, count⟩, ⟨8, 8, rtc⟩] ++ detail.map (fun f => { f with off := f.off + 16 })) }

/-- The hub requests an EVENT; one of the same kind, source and detail that still waits counts one more. -/
def postEvent (kind src : Nat) (detail : List Fld) (s : Hub) : Hub :=
  let same := fun (w : NvWhat) => match w with
    | .event k x _ _ d b => k == kind && x == src && d == detail && !b
    | _ => false
  if s.eng.queue.any same then
    s.setEng (fun e => { e with queue := e.queue.map (fun w =>
      match w with
      | .event k x c t d b => if same w then .event k x (c + 1) t d b else w
      | w => w) })
  else s.setEng (fun e => { e with queue := e.queue ++ [.event kind src 1 s.aon.rtc detail false] })

end Sys2Proof.Machine
end

