-- ==== Sys2Proof/Machine/Command.lean ====
section
/-! DEFINITION. Host commands (R504 to R518, R527, R529 to R532, R565, R566, R751): fetching an entry, the checks every command passes in
their order, and how a command is answered. -/

namespace Sys2Proof

/-! ## Descriptor lists (R513) -/

/-- LAST and TO_HOST of a descriptor. -/
def Descr.last (d : Descr) : Bool := Machine.bit d.flags 0
def Descr.toHost (d : Descr) : Bool := Machine.bit d.flags 1

/-- ADDR is 4-byte aligned, LEN 4 to 2^24 and a multiple of 4, and FLAGS has no other bit. -/
def Descr.ok (d : Descr) : Bool := d.addr % 4 == 0 && decide (4 ≤ d.len) && decide (d.len ≤ 2 ^ 24) && d.len % 4 == 0 && decide (d.flags < 4)

/-- Bytes the list carries in one direction. -/
def Req.carried (q : Req) (toHost : Bool) : Nat := (q.descs.filter (fun d => d.toHost == toHost)).foldl (fun n d => n + d.len) 0

/-- The list keeps R513: its address is 64-byte aligned, 1 to 256 descriptors end at the first with LAST, and no direction passes 64 MiB. The data to
the hub fills its descriptors but for the 3 bytes that LEN may round up. -/
def Req.listOk (q : Req) : Bool :=
  q.dma % 64 == 0 && decide (1 ≤ q.descs.length) && decide (q.descs.length ≤ 256) && q.descs.all Descr.ok &&
    q.descs.dropLast.all (fun d => !d.last) && (q.descs.getLast?.map Descr.last).getD false &&
    decide (q.carried false ≤ 2 ^ 26) && decide (q.carried true ≤ 2 ^ 26) &&
    decide (q.data.length ≤ q.carried false) && decide (q.carried false < q.data.length + 4)

/-- Bytes of room for result data: those of the TO_HOST descriptors, where the command has a list. -/
def Req.room (q : Req) : Nat := if Machine.bit q.flags 1 then q.carried true else 0

end Sys2Proof

namespace Sys2Proof.Machine

/-- What a command names (R531). -/
inductive Target where
  | none_
  | bay (n : Nat)
  /-- A bay, or 0xFFFF for every bay of every present region. -/
  | bays (n : Nat)
  | region (n : Nat)
  /-- A region, or 0xFF for every present region. -/
  | regions (n : Nat)
  deriving DecidableEq, Repr

/-- How a command ends. -/
inductive Reply where
  /-- Complete at once: status, result rows, result data. -/
  | done (st : Status) (res : List Fld) (data : List Byte)
  /-- Complete by COMMAND_DONE within this step: ACCEPTED, then the final status. -/
  | async (st : Status) (res : List Fld) (data : List Byte)
  /-- ACCEPTED; a later row finishes it through its CmdRef. -/
  | later
  deriving DecidableEq, Repr

def fail (st : Status) (s : Hub) : Reply × Hub := (.done st [] [], s)

/-- One row of the command tables of R533 and R567. -/
structure Spec where
  op : Nat
  urgent : Bool := false
  smbus : Bool := false
  act : Bool := true
  lc : List Nat
  len : Nat → Bool
  /-- Lengths of the data to the hub that the command takes. -/
  dataLen : Nat → Bool := fun _ => true
  target : List Byte → Target := fun _ => .none_
  quar : Bool := false
  states : Req → Nat → Bay → Bool := fun _ _ _ => true
  reserved : List Nat := []
  signed : Req → Hub → Bool := fun _ _ => false
  /-- The sub-command of the opcode that this row is. -/
  mine : Req → Bool := fun _ => true

/-- Opcodes of R533 and R567. -/
def knownOpcodes : List Nat :=
  (List.range 9).map (0x0101 + ·) ++ (List.range 9).map (0x0201 + ·) ++ (List.range 10).map (0x0301 + ·) ++
  (List.range 5).map (0x0401 + ·) ++ (List.range 7).map (0x0501 + ·) ++ (List.range 7).map (0x0601 + ·) ++
  (List.range 6).map (0x0701 + ·) ++ (List.range 4).map (0x0801 + ·) ++ (List.range 6).map (0x0901 + ·)

/-- Commands served in ROM recovery (R751): VERSION, IMAGE_STAGE, IMAGE_ACTIVATE, and KEY_STATUS while the vault runs. -/
def romServes (op : Nat) (s : Hub) : Bool :=
  op == 0x0701 || op == 0x0702 || op == 0x0703 || (op == 0x0602 && s.boot.vaultUp)

/-! ## Fetching -/

/-- A mailbox that is fetching (RUNNING, R507) and has both an entry and a free response slot (R505). -/
def canFetch (m : Mailbox) : Bool :=
  m.enable && !m.stopped && decide (m.cmdHead ≠ m.cmdTail) && decide (subMod 512 m.rspTail m.rspHead < 256)

/-- Does the hub take up this command now? The urgent mailbox of a port goes ahead of its normal one (R510). -/
def fetches (q : Req) (s : Hub) : Bool :=
  decide (s.boot.phase ≠ .held) && decide (s.pwr.chip = .s0) && s.boot.supHeld.isNone &&
  match q.mbx with
  | .normal p => (s.port p).linkUp && canFetch (s.port p).normal && !canFetch (s.port p).urgent
  | .urgent p => (s.port p).linkUp && canFetch (s.port p).urgent
  | .smbus => s.host.smb.busy && decide (s.host.smb.held = some q)

/-- CMD_HEAD advances once the entry is read (R504); the SEQ expected next becomes this entry's plus 1 (R508). -/
def consume (q : Req) (s : Hub) : Hub :=
  s.setMailbox q.mbx (fun m => { m with cmdHead := (m.cmdHead + 1) % 512, seqNext := some ((q.seq + 1) % 65536) })

/-- R508. -/
def seqOk (q : Req) (m : Mailbox) : Bool :=
  match m.seqNext with
  | none => true
  | some x => decide (q.seq = x)

def isUrgent : Mbx → Bool
  | .urgent _ => true
  | _ => false

/-- R509 step 2. -/
def flagsOk (q : Req) : Bool := decide (q.flags < 8) && (bit q.flags 2 == isUrgent q.mbx)

/-! ## Checks -/

/-- Step 4: the command runs on this mailbox and from this port (R496, R518, R527). -/
def allowed (c : Spec) (q : Req) (s : Hub) : Bool :=
  match q.mbx with
  | .normal p => !(c.act || c.signed q s) || s.isActive p
  | .urgent p => c.urgent && !c.signed q s && (!c.act || s.isActive p)
  | .smbus => c.smbus && !c.signed q s

/-- Step 5: LENGTH, and the descriptor list where there is one. -/
def lengthOk (c : Spec) (q : Req) : Bool :=
  decide (q.len ≤ 48) && decide (q.payload.length = q.len) && c.len q.len && c.dataLen q.data.length && (!bit q.flags 1 || q.listOk)

/-- R531 and step 6 of R509: a value out of range, then a unit that is fused off. -/
def targetStatus (t : Target) (s : Hub) : Option Status :=
  match t with
  | .none_ => none
  | .bay b => if 128 ≤ b then some .badParam else if s.bayPresent b then none else some .notPresent
  | .bays b => if b = 0xFFFF then none else if 128 ≤ b then some .badParam else if s.bayPresent b then none else some .notPresent
  | .region r => if 8 ≤ r then some .badParam else if s.regionPresent r then none else some .notPresent
  | .regions r => if r = 0xFF then none else if 8 ≤ r then some .badParam else if s.regionPresent r then none else some .notPresent

/-- The region a target lies in, for R532 step 2. -/
def targetRegion : Target → Option Nat
  | .bay b => some (regionOf b)
  | .bays b => if b = 0xFFFF then none else some (regionOf b)
  | .region r => some r
  | .regions r => if r = 0xFF then none else some r
  | .none_ => none

/-- The bay a target names. -/
def targetBay : Target → Option Nat
  | .bay b => some b
  | .bays b => if b = 0xFFFF then none else some b
  | _ => none

/-- The data to the hub before the signature block (R515). -/
def signedData (q : Req) : List Byte := q.data.take (q.data.length - 80)

/-- The digest of a signed command (R516). -/
def cmdDigest (q : Req) : BitVec 256 :=
  let blk := q.data.drop (q.data.length - 80)
  Config.sha256 (toLe 2 q.op ++ toLe 1 q.len ++ q.payload ++ signedData q ++ blk.take 8 ++ (blk.drop 8).take 1 ++ toLe 8 Config.serial.toNat)

/-- R517: the verification of a signed command; OP_SEQ advances with success. -/
def verifyCmd (q : Req) (s : Hub) : Option Status × Hub :=
  if !bit q.flags 1 || decide (q.data.length < 80) then (some .authFail, s)
  else
    let blk := q.data.drop (q.data.length - 80)
    let opseq := fld blk 0 8
    let k := fld blk 8 1
    let key := vaultKey s 0x01 k
    if 4 ≤ k ∨ key.present = false then (some .authFail, s)
    else if !Config.ecdsaVerify (BitVec.ofNat 512 key.val) (cmdDigest q) (sigOf (blk.drop 16)) then (some .authFail, s)
    else if opseq ≤ cellVal s cellOpSeq then (some .authFail, s)
    else
      match cellAdvance cellOpSeq opseq s with
      | (.done _, s) => (none, s)
      | (_, s) => (some .holdupLow, s)

/-- Steps 1 to 4 of R532 that every command shares: life cycle, quarantine, bay state, reserved payload bytes. -/
def commonStatus (c : Spec) (q : Req) (s : Hub) : Option Status :=
  let t := c.target q.payload
  if !c.lc.contains s.lc then some .wrongState
  else if !c.quar && (match targetRegion t with | some r => decide ((s.region r).st = .quarantined) | none => false) then
    some .regionQuarantined
  else if !(match targetBay t with | some b => c.states q b (s.bay b) | none => true) then some .wrongState
  else if c.reserved.any (fun i => byteAt q.payload i != 0) then some .badParam
  else none

/-! ## Answering -/

/-- Source of COMMAND_DONE (R512). -/
def replySource (c : Spec) (q : Req) : Nat := (targetBay (c.target q.payload)).getD chipSrc

def refOf (c : Spec) (q : Req) : CmdRef := { mbx := q.mbx, op := q.op, tag := q.tag, seq := q.seq, src := replySource c q }

/-- FLAGS of a response (R501's ring): COMMAND_DONE follows, result data by DMA, urgent mailbox, SEQ_ERROR. -/
def respFlags (q : Req) (follows hasData seqErr : Bool) : Nat := flags [follows, hasData, isUrgent q.mbx, seqErr]

/-- The response ACCEPTED (R511): the command runs on. -/
def accept (c : Spec) (q : Req) (s : Hub) : Hub :=
  match q.mbx with
  | .smbus => s
  | m => startRunning (refOf c q) (ringResponse m q.op q.tag q.seq .accepted (respFlags q true false false) [] s)

/-- A command is answered (R505, R511, R512, R527); one that is done before another that must complete first is answered ACCEPTED and reported in its
turn (R510). -/
def answer (c : Spec) (q : Req) (seqErr : Bool) (r : Reply) (s : Hub) : Hub :=
  let ref := refOf c q
  match q.mbx with
  | .smbus =>
    (match r with
     | .done st res _ => smbResponse q.op q.tag st res s
     | .async st res _ => smbResponse q.op q.tag st res s
     | .later => s)
  | m =>
    (match r with
     | .done st res data =>
       if mustWait ref s && !seqErr then finish ref st res data (accept c q s)
       else
         let s := sendData m data s
         let f := bit q.flags 0
         let s := ringResponse m q.op q.tag q.seq st (respFlags q f (data != []) seqErr) res s
         if f then commandDone ref st res s else s
     | .async st res data => finish ref st res data (accept c q s)
     | .later => s)

/-- The checks of R509 from step 2 on, R517 and R532, then the command's own body. -/
def checked (c : Spec) (q : Req) (body : CmdRef → Hub → Reply × Hub) (s : Hub) : Reply × Hub :=
  if !flagsOk q then fail .badParam s
  else if !knownOpcodes.contains q.op || (s.romRecovery && !romServes q.op s) then fail .badOpcode s
  else if !allowed c q s then fail .notAuthorised s
  else if !lengthOk c q then fail .badLength s
  else
    match targetStatus (c.target q.payload) s with
    | some st => fail st s
    | none =>
      if !q.dataOk then fail .badParam (mbxErr q.mbx (fun m => { m with dmaErr := true }) s)
      else
        let v := if c.signed q s then verifyCmd q s else (none, s)
        match v.1 with
        | some st => fail st v.2
        | none =>
          match commonStatus c q v.2 with
          | some st => fail st v.2
          | none =>
            let r := body (refOf c q) v.2
            -- one that runs on is answered ACCEPTED before any of its effects
            if r.1 = .later then (.later, (body (refOf c q) (accept c q v.2)).2) else r

/-- A host command row: the entry at the front of its mailbox is fetched and completed. A row does nothing while its mailbox is not
fetching, or with an entry whose opcode or sub-command is another row's. -/
def hostCommand (c : Spec) (body : Req → CmdRef → Hub → Reply × Hub) (q : Req) (s : Hub) : Hub :=
  if !fetches q s || (knownOpcodes.contains q.op && (decide (q.op ≠ c.op) || !c.mine q)) then s
  else if !q.entryOk then
    mbxErr q.mbx (fun m => { m with stopped := true, dmaErr := true }) s
  else
    let m := s.mailbox q.mbx
    let s := consume q s
    match q.mbx, seqOk q m with
    | .smbus, _ => let x := checked c q (body q) s; answer c q false x.1 x.2
    | _, false => answer c q true (.done .badParam [] []) (mbxErr q.mbx (fun m => { m with seqErr := true }) s)
    | _, true =>
      let x := checked c q (body q) s
      answer c q false x.1 x.2

/-! ## Life-cycle lists of the command tables -/

def lcAll : List Nat := [0, 1, 2, 3, 4]
def lcFCF : List Nat := [1, 2, 3]
def lcCF : List Nat := [2, 3]
def lcFC : List Nat := [1, 2]
def lcFCFD : List Nat := [1, 2, 3, 4]

/-- A payload of exactly `n` bytes. -/
def len (n : Nat) : Nat → Bool := fun l => l == n

def bayAt0 (l : List Byte) : Target := .bay (fld l 0 2)

/-! ## The SMBus port (R526 to R528, R688) -/

def Hub.setSmb (s : Hub) (f : Smb → Smb) : Hub := { s with host := { s.host with smb := f s.host.smb } }

/-- The SMBus engine is clocked and served. -/
def smbServed (s : Hub) : Bool := decide (s.boot.phase ≠ .held) && decide (s.pwr.chip ≠ .s3)

/-- A command on the SMBus mailbox from the bytes of a Block Write. -/
def smbReq (l : List Byte) : Req :=
  { mbx := .smbus, op := fld l 0 2, tag := fld l 2 2, seq := 0, len := fld l 4 1, flags := 0, payload := l.drop 6, entryOk := true,
    dma := 0, descs := [], dataOk := true, data := [] }

/-- SMB_COMMAND_WRITE (R526, R527): one command at a time; NACK while BUSY or RSP_READY is set, and for a block outside 6 to 32 bytes. -/
def execSmbCommandWrite (l : List Byte) : State → Turn := onHub fun s =>
  .next (
    if !smbServed s then s
    else
      let s := s.setSmb (fun m => { m with lastUse := s.now })
      if s.host.smb.busy || s.host.smb.rspReady || decide (l.length < 6) || decide (32 < l.length) then s.emit .nack
      else s.setSmb (fun m => { m with busy := true, held := some (smbReq l) }))

/-- SMB_RESPONSE_READ (R527): returns the response and clears RSP_READY. -/
def execSmbResponseRead : State → Turn := onHub fun s =>
  .next (
    if !smbServed s then s
    else
      let s := s.setSmb (fun m => { m with lastUse := s.now })
      if s.host.smb.rspReady then (s.emit (.readBytes s.host.smb.rsp)).setSmb (fun m => { m with rspReady := false, rsp := [] })
      else s.emit .nack)

/-- SMB_STATUS (R526): CHIP_ALARM follows CHIP_FAULT.VALID once FW_READY is set (R634). -/
def smbStatus (s : Hub) : Nat :=
  flags [s.host.smb.rspReady, s.host.smb.busy, s.kept.cfValid && s.fwReady, s.fwReady, s.romRecovery]

/-- SMB_STATUS_READ (R528): releases SMB_ALERT_N. -/
def execSmbStatusRead : State → Turn := onHub fun s =>
  .next (
    if !smbServed s then s
    else (s.emit (.read (smbStatus s))).setSmb (fun m => { m with alertLow := false, lastUse := s.now }))

/-- SMB_ALERT_RESPONSE (R528): a hub that drives SMB_ALERT_N answers the Alert Response Address with its own and releases the line. -/
def execSmbAlertResponse : State → Turn := onHub fun s =>
  .next (
    if smbServed s && s.host.smb.alertLow then
      (s.emit (.read (2 * (0x58 + s.boot.smbStrap)))).setSmb (fun m => { m with alertLow := false, lastUse := s.now })
    else s)

/-- SMB_ADDRESS_MATCH_WAKE (R687, R688): in S3 and during its entry, a match of the hub's address holds SMB_CLK low and wakes. -/
def execSmbAddressMatchWake (addr : Nat) : State → Turn := onHub fun s =>
  .next (
    if addr ≠ 0x58 + s.boot.smbStrap then s
    else
      match s.pwr.chip with
      | .s0 => s
      | _ => { s with pwr := { s.pwr with wakeSrc := s.pwr.wakeSrc ||| 1, wakeDuring := true, smbStretch := true } })

end Sys2Proof.Machine
end

