-- ==== Sys2Proof/Machine/Lane.lean ====
section
/-! DEFINITION. The lane of a head port (R78 to R84): the CRC of a bit string, the 257-bit blocks and their types, a slate as START and data
blocks, the self-synchronous scrambler, and the RS(544,514) code of a codeword. What IEEE 802.3 clauses 49 and 91 lay down and the manual only
names is PRESUMED (log entry 165): the field polynomial x^10 + x^3 + 1, the roots α^0 to α^29, the first bit of a symbol as its lowest, and the
header bit of a block sent before its payload. -/

namespace Sys2Proof.Machine

/-! ## The CRC of a slate (R84) -/

/-- One bit enters the register: polynomial 0x04C1_1DB7, bit 31 the highest power. -/
def crcStep (c : Nat) (b : Bool) : Nat :=
  let x := 2 * c % 2 ^ 32
  if bit c 31 != b then x ^^^ 0x04C11DB7 else x

/-- The low `n` bits of a string, bit n − 1 first. -/
def crcFrom : Nat → Nat → Nat → Nat
  | 0, _, c => c
  | n + 1, v, c => crcFrom n v (crcStep c (bit v n))

/-- The CRC-32 of a string of `n` bits in sending order, with initial value and final complement all ones (R84). -/
def crcBits (n v : Nat) : Nat := crcFrom n v 0xFFFFFFFF ^^^ 0xFFFFFFFF

/-! ## Blocks (R80) -/

/-- A block: bit 256 is the header bit, bits [255:0] are as R80 numbers them. -/
abbrev Block := BitVec 257

def dataBlock (v : Nat) : Block := BitVec.ofNat 257 (2 ^ 256 + v % 2 ^ 256)
def ctrlBlock (typ payload : Nat) : Block := BitVec.ofNat 257 (typ % 256 * 2 ^ 248 + payload % 2 ^ 248)

/-- Types of control block (R80). -/
def blkIdle : Nat := 0x00
def blkStart : Nat := 0x1E
def blkTrain : Nat := 0x2D
def blkDrowse : Nat := 0x33
def blkWake : Nat := 0x4B
def blkLinkdown : Nat := 0x55

def blkTypes : List Nat := [blkIdle, blkStart, blkTrain, blkDrowse, blkWake, blkLinkdown]

/-- A control block of a type that R80 does not list. -/
def unknownBlock (x : Block) : Bool := !bit x.toNat 256 && !blkTypes.contains (bits x.toNat 255 248)

/-- A slate of `n` bits on the lane: START, and its data blocks, bit n − 1 first (R83). -/
def slateBlocks (n v : Nat) : List Block :=
  ctrlBlock blkStart 0 :: (List.range (n / 256)).map (fun k => dataBlock (v / 2 ^ (n - 256 * (k + 1))))

/-- The bits that data blocks carry, the first block highest. -/
def slateBits (l : List (BitVec 256)) : Nat := l.foldl (fun v x => v * 2 ^ 256 + x.toNat) 0

/-! ## The scrambler (R79) -/

/-- `n` scrambled bits, bit n − 1 first, are descrambled with x^58 + x^39 + 1; the state is the last 58 bits received, the newest lowest. -/
def descramble : Nat → Nat → Nat → Nat → Nat × Nat
  | 0, _, st, out => (out, st)
  | n + 1, v, st, out =>
    let r := bit v n
    descramble n v ((2 * st + b2n r) % 2 ^ 58) (2 * out + b2n ((r != bit st 38) != bit st 57))

/-- `n` bits scrambled; the state is the last 58 bits sent. -/
def scramble : Nat → Nat → Nat → Nat → Nat × Nat
  | 0, _, st, out => (out, st)
  | n + 1, v, st, out =>
    let r := (bit v n != bit st 38) != bit st 57
    scramble n v ((2 * st + b2n r) % 2 ^ 58) (2 * out + b2n r)

/-! ## The field of 1,024 elements -/

/-- Times α. -/
def gfX (a : Nat) : Nat := if 512 ≤ a then (2 * a) ^^^ 0x409 else 2 * a

def gfMulFrom : Nat → Nat → Nat → Nat
  | 0, _, _ => 0
  | n + 1, a, b => (if b % 2 = 1 then a else 0) ^^^ gfMulFrom n (gfX a) (b / 2)

def gfMul (a b : Nat) : Nat := gfMulFrom 10 a b

def gfPow (a : Nat) : Nat → Nat
  | 0 => 1
  | n + 1 => gfMul a (gfPow a n)

def gfInv (a : Nat) : Nat := gfPow a 1022

/-- α^n. -/
def gfAlpha (n : Nat) : Nat := gfPow 2 (n % 1023)

/-- A polynomial, highest power first, at a point; and one with the lowest first. -/
def polyHigh (l : List Nat) (x : Nat) : Nat := l.foldl (fun a c => gfMul a x ^^^ c) 0
def polyLow (l : List Nat) (x : Nat) : Nat := polyHigh l.reverse x

/-! ## RS(544,514) (R79) -/

def cwSymbols : Nat := 544
def cwMessage : Nat := 514

/-- The generator: the product of (x − α^j) for j from 0 to 29, highest power first. -/
def rsGenerator : List Nat :=
  (List.range 30).foldl (fun g j => List.zipWith (· ^^^ ·) (g ++ [0]) (0 :: g.map (gfMul (gfAlpha j)))) [1]

/-- One message symbol enters the encoder's 30 registers. -/
def rsStep (p : List Nat) (m : Nat) : List Nat :=
  let f := (p.headD 0) ^^^ m
  List.zipWith (· ^^^ ·) (p.drop 1 ++ [0]) ((rsGenerator.drop 1).map (gfMul f))

/-- The 30 parity symbols of a message. -/
def rsParity (m : List Nat) : List Nat := m.foldl rsStep (List.replicate 30 0)

/-- The 30 syndromes of a word. -/
def rsSyndromes (w : List Nat) : List Nat := (List.range 30).map (fun j => polyHigh w (gfAlpha j))

/-- The error locator as it is found step by step from the syndromes. -/
structure Locator where
  c : List Nat := [1]
  b : List Nat := [1]
  len : Nat := 0
  shift : Nat := 1
  last : Nat := 1
  deriving DecidableEq, Repr

/-- The sum of two polynomials, lowest power first. -/
def polyAdd : List Nat → List Nat → List Nat
  | [], q => q
  | p, [] => p
  | x :: p, y :: q => (x ^^^ y) :: polyAdd p q

/-- One step, for syndrome n. -/
def locatorStep (syn : List Nat) (x : Locator) (n : Nat) : Locator :=
  let d := (List.range (x.len + 1)).foldl (fun a i => a ^^^ gfMul (nth 0 x.c i) (nth 0 syn (n - i))) 0
  if d = 0 then { x with shift := x.shift + 1 }
  else
    let t := polyAdd x.c (List.replicate x.shift 0 ++ x.b.map (gfMul (gfMul d (gfInv x.last))))
    if 2 * x.len ≤ n then { c := t, b := x.c, len := n + 1 - x.len, shift := 1, last := d } else { x with c := t, shift := x.shift + 1 }

/-- The product of two polynomials to 30 terms, lowest first. -/
def polyMul30 (p q : List Nat) : List Nat :=
  (List.range 30).map (fun n => (List.range (n + 1)).foldl (fun a i => a ^^^ gfMul (nth 0 p i) (nth 0 q (n - i))) 0)

/-- The derivative: in this field the odd powers remain. -/
def polyDeriv (p : List Nat) : List Nat := (p.drop 1).zipIdx.map (fun c => if c.2 % 2 = 0 then c.1 else 0)

/-- The error at the symbol of power `e`, where the locator has a root there. -/
def errorAt (lam omega : List Nat) (e : Nat) : Nat :=
  let x := gfAlpha e
  let i := gfAlpha (1023 - e % 1023)
  if polyLow lam i = 0 then gfMul x (gfMul (polyLow omega i) (gfInv (polyLow (polyDeriv lam) i))) else 0

/-- A received word with its errors removed; none where no codeword lies within 15 symbols of it. -/
def rsDecode (w : List Nat) : Option (List Nat) :=
  let syn := rsSyndromes w
  if syn.all (· == 0) then some w
  else
    let l := (List.range 30).foldl (locatorStep syn) {}
    let omega := polyMul30 syn l.c
    let fixed := w.zipIdx.map (fun p => p.1 ^^^ errorAt l.c omega (cwSymbols - 1 - p.2))
    if l.len ≤ 15 ∧ (rsSyndromes fixed).all (· == 0) then some fixed else none

/-! ## A received codeword -/

def cwWord (c : Codeword) : List Nat := c.syms.map (·.toNat)

/-- What a receiver makes of a codeword (R81). -/
def cwJudge (c : Codeword) : Cw :=
  match rsDecode (cwWord c) with
  | none => .bad
  | some w => if w = cwWord c then .clean else .corrected

/-- The message bits in the order sent, as a number with the first bit highest: of each symbol, the lowest bit is sent first. -/
def cwBits (w : List Nat) : Nat :=
  (w.take cwMessage).foldl (fun v x => v * 1024 + (List.range 10).foldl (fun a k => 2 * a + x / 2 ^ k % 2) 0) 0

/-- The twenty blocks of a codeword, descrambled, and the descrambler's state after them. -/
def cwBlocks (w : List Nat) (st : Nat) : List Block × Nat :=
  let v := cwBits w
  (List.range 20).foldl (fun p k =>
    let x := v / 2 ^ (5140 - 257 * (k + 1)) % 2 ^ 257
    let d := descramble 256 x p.2 0
    (p.1 ++ [BitVec.ofNat 257 (x / 2 ^ 256 * 2 ^ 256 + d.1)], d.2)) ([], st)

/-- The codeword in which a sender's twenty blocks leave, and the scrambler's state after them. -/
def cwOf (l : List Block) (st : Nat) : Codeword × Nat :=
  let p := l.foldl (fun (p : Nat × Nat) x =>
    let d := scramble 256 x.toNat p.2 0
    (p.1 * 2 ^ 257 + (x.toNat / 2 ^ 256 * 2 ^ 256 + d.1), d.2)) (0, st)
  let m := (List.range cwMessage).map (fun k =>
    let x := p.1 / 2 ^ (5140 - 10 * (k + 1))
    (List.range 10).foldl (fun a i => 2 * a + x / 2 ^ i % 2) 0)
  ({ syms := (m ++ rsParity m).map (BitVec.ofNat 10) }, p.2)

end Sys2Proof.Machine
end

