-- ==== Sys2Proof/Machine/RelMsg.lean ====
section
/-! DEFINITION. The release message and its sequence (R413 to R419), the frames of the release bus the hub sends (R411, R426, R435, R439), and
RELEASE_STATE (R447, R834). -/

namespace Sys2Proof.Machine

def setRel (b : Nat) (f : Rel → Rel) (s : Hub) : Hub := s.setBay b (fun x => { x with rel := f x.rel })
def setBus (r : Nat) (f : RelBus → RelBus) (s : Hub) : Hub := s.setRegion r (fun x => { x with bus := f x.bus })
def Hub.rel (s : Hub) (b : Nat) : Rel := (s.bay b).rel

/-! ## Keys (R413) -/

/-- K_REL[b]. -/
def kRel (s : Hub) (b : Nat) : BitVec 128 := BitVec.ofNat 128 (vaultKey s 0x04 b).val
def kEnc (s : Hub) (b : Nat) : BitVec 128 := Config.aesCmac (kRel s b) [0x41]
def kMac (s : Hub) (b : Nat) : BitVec 128 := Config.aesCmac (kRel s b) [0x42]
def kUp (s : Hub) (b : Nat) : BitVec 128 := Config.aesCmac (kRel s b) [0x43]

/-- First 8 bytes of a CMAC over bytes. -/
def mac8 (k : BitVec 128) (l : List Byte) : List Byte := ((toLe 16 (Config.aesCmac k l).toNat).reverse).take 8

/-! ## The sequence (R416 to R419) -/

/-- KEY_BASE[b]. -/
def keyBase (s : Hub) (b : Nat) : Nat := (vaultKey s 0x04 b).keyBase

/-- SEQ of the next message at the bay. -/
def relSeq (s : Hub) (b : Nat) : Nat := (s.rel b).seqRaw - keyBase s b + 1

/-- SEQ of the last message sent at the bay; 0 before the first. -/
def lastRelSeq (s : Hub) (b : Nat) : Nat := (s.rel b).seqRaw - keyBase s b

/-- The raw values below V × 65,536 are reserved. -/
def rangeEnd (s : Hub) (b : Nat) : Nat := cellVal s (cellRelRange b) * 65536

/-- A message can be sent: its raw value lies in a committed range and SEQ has not run out. -/
def canSend (s : Hub) (b : Nat) : Bool := decide ((s.rel b).seqRaw < rangeEnd s b) && decide (relSeq s b ≤ 0xFFFFFFFF)

/-- SEQ_RAW counts a message sent; half a range before its end an advance is requested (R418); R419's flags. -/
def advanceSeq (b : Nat) (s : Hub) : Hub :=
  let r := s.rel b
  let raw := r.seqRaw + 1
  let req := decide (raw + 32768 = rangeEnd s b)
  let s := setRel b (fun r =>
    { r with seqRaw := raw, anySent := true, advPending := r.advPending || req
             seqLow := r.seqLow || decide (0xF0000000 < raw - keyBase s b)
             exhausted := r.exhausted || decide (0xFFFFFFFF ≤ raw - keyBase s b)
             cnt := { r.cnt with sent := satAdd r.cnt.sent 1 } }) s
  if req && !r.advPending then s.setEng (fun e => { e with queue := e.queue ++ [.relRange b] }) else s

/-! ## The message (R414, R415) -/

def relCode : RelState → Nat
  | .cut => 0 | .hold => 1 | .release => 2

/-- SESSION of a message: the session's ID from its first RELEASE until its closing entry, otherwise the hub's own mark. -/
def relSession (s : Hub) (b : Nat) : Nat :=
  let none_ := 0xFF * 2 ^ 56 + s.hubIndex * 2 ^ 48
  match (s.bay b).sess with
  | some x =>
    (match x.phase with
     | .opening => none_ | .reading => none_ | .starting => none_ | .aborting => none_
     | _ => x.id)
  | none => none_

/-- XOR of two lists of bytes. -/
def xorBytes (a b : List Byte) : List Byte := List.zipWith (· ^^^ ·) a b

/-- AES(K_ENC, CB) as bytes. -/
def relPad (s : Hub) (b seq : Nat) : List Byte :=
  let cb := toLe 1 0x52 ++ toLe 1 b ++ toLe 4 seq ++ List.replicate 10 0
  (toLe 16 (Config.aesBlock (kEnc s b) (BitVec.ofNat 128 (beNat cb))).toNat).reverse

/-- The 32 bytes of a release message. -/
def relMessage (safety : Bool) (s : Hub) (b seq time : Nat) (st : RelState) (cls : Nat) : List Byte :=
  let head := toLe 1 (0x10 + 8 * b2n safety) ++ toLe 1 b ++ toLe 2 (s.rel b).cfg.interval ++ toLe 4 seq
  let plain := toLe 8 (relSession s b) ++ toLe 6 time ++ toLe 1 (relCode st) ++ toLe 1 (if st = .release then cls else 0)
  let sent := head ++ xorBytes plain (relPad s b seq)
  sent ++ mac8 (kMac s b) sent

/-! ## RELEASE_STATE -/

def causeCode : RelCause → Nat
  | .authorisation => 0 | .hostHold => 1 | .hostResume => 2 | .wrap => 3 | .safetyCut => 4 | .ownerChange => 5 | .quarCut => 6
  | .seqUnavailable => 7

/-- RELEASE_STATE (R447): the new and the old state, the cause, and the SEQ given. -/
def relNotice (b : Nat) (new old : RelState) (c : RelCause) (seq : Nat) (s : Hub) : Hub :=
  let r := s.rel b
  notice 0x0105 b
    [⟨16, 1, relCode new⟩, ⟨17, 1, relCode old⟩, ⟨18, 1, causeCode c⟩, ⟨19, 1, b2n r.supervisor⟩, ⟨20, 4, seq⟩, ⟨24, 8, relSession s b⟩,
     ⟨32, 1, if new = .release then r.cls else 0⟩, ⟨33, 1, r.bpc.flags⟩] s

/-- The state of the latest message becomes `st`; a change is posted. -/
def relBecomes (b : Nat) (st : RelState) (c : RelCause) (seq : Nat) (s : Hub) : Hub :=
  let old := (s.rel b).state
  let s := setRel b (fun r => { r with state := st }) s
  if st = old then s else relNotice b st old c seq s

/-! ## Frames -/

def localBay (b : Nat) : Nat := b % 16

/-- The controller of a region sends: not bus-off, not stopped with the CPLL (R655), its region powered. -/
def busSends (s : Hub) (r : Nat) : Bool :=
  let x := s.region r
  x.bus.busOff.isNone && !s.clk.cpll.coast && !x.bus.stbyHigh

/-- A frame of the hub on a release bus. -/
def busFrame (typ b : Nat) (l : List Byte) (s : Hub) : Hub := s.emit (.frame (regionOf b) (typ * 16 + localBay b) l)

/-- A RELEASE frame is handed to the controller at a boundary: it replaces one still unsent (R423). -/
def handFrame (b : Nat) (l : List Byte) (s : Hub) : Hub :=
  if busSends s (regionOf b) then busFrame 0x10 b l (setRel b (fun r => { r with txSince := none, txFrame := [], txLate := false }) s)
  else setRel b (fun r => { r with txSince := some s.now, txFrame := l, txLate := false }) s

/-- One RELEASE message at a boundary, with the state and class given. -/
def sendRelease (b : Nat) (st : RelState) (c : RelCause) (s : Hub) : Hub :=
  let seq := relSeq s b
  let m := relMessage false s b seq (s.ticks % 2 ^ 48) st (s.rel b).cls
  relBecomes b st c seq (handFrame b m (advanceSeq b s))

/-- A safety cut (R426): one RELEASE_SAFETY frame with STATE CUT and the next SEQ, by the controller, in every region state except OFF;
where the sequence has stalled or run out nothing can be sent. -/
def safetyCut (b : Nat) (c : RelCause) (s : Hub) : Hub :=
  let r := regionOf b
  if !(s.rel b).cfg.enable || decide ((s.region r).st = .off) || !canSend s b then s
  else
    let seq := relSeq s b
    let m := relMessage true s b seq (s.ticks % 2 ^ 48) .cut 0
    let s := advanceSeq b s
    let s := setRel b (fun x => { x with want := .cut, cnt := { x.cnt with safety := satAdd x.cnt.safety 1 } }) s
    let s := if busSends s r then busFrame 0x04 b m (setBus r (fun u => { u with cutsOpen := u.cutsOpen ++ [b] }) s)
      else setBus r (fun u => { u with cutFrames := u.cutFrames ++ [(b, m)] }) s
    relBecomes b .cut c seq s

/-- Frames that waited for the controller go out (R423, R428): safety cuts first, then each bay's RELEASE frame. -/
def busDrain (r : Nat) (s : Hub) : Hub :=
  let cuts := (s.region r).bus.cutFrames
  let s := setBus r (fun u => { u with cutFrames := [], cutsOpen := u.cutsOpen ++ cuts.map (·.1) }) s
  let s := cuts.foldl (fun s c => busFrame 0x04 c.1 c.2 s) s
  forBays r (fun b s =>
    if (s.rel b).txSince.isSome then
      busFrame 0x10 b (s.rel b).txFrame (setRel b (fun x => { x with txSince := none, txFrame := [] }) s)
    else s) s

/-- A SYNC frame for NONCE_B (R435). -/
def sendSync (b nonce : Nat) (s : Hub) : Hub :=
  let h := toLe 1 0x10 ++ toLe 1 b ++ toLe 2 0 ++ toLe 4 (lastRelSeq s b)
  let m := mac8 (kMac s b) (h ++ toLe 8 nonce)
  busFrame 0x0C b (h ++ m) (setRel b (fun r => { r with syncFor := none, cnt := { r.cnt with sync := satAdd r.cnt.sync 1 } }) s)

/-- A METER_REQ frame (R439). -/
def sendMeterReq (b kind nonce : Nat) (s : Hub) : Hub :=
  busFrame 0x20 b (toLe 1 0x10 ++ toLe 1 b ++ toLe 1 kind ++ toLe 1 0 ++ toLe 8 nonce ++ toLe 4 0) s

/-- Slots of a release interval, and the boundary rule of R180 and R421 for local bay k. -/
def isBoundary (slot k p : Nat) : Bool := decide (0 < p) && decide ((slot + 16 * p - k * (p / 16)) % p = 0)

end Sys2Proof.Machine
end

