-- ==== Sys2Proof/Machine/Sched.lean ====
section
/-! DEFINITION. Conversation queues and the call sheet (R36 to R44, R46 to R59, R312): enqueueing an item, the grant rule that plans a slot,
engine groups, and giving resources back. Slot numbers are kept unwrapped, which orders them as R47 and R56 do. -/

namespace Sys2Proof.Machine

/-! ## What an item needs -/

/-- Parts of a bay block's radio (R178). -/
structure Parts where
  uwb : Bool := false
  uhf : Bool := false
  lf : Bool := false
  hf : Bool := false
  deriving DecidableEq, Repr

/-- Two sets of parts share one. -/
def Parts.meets (a b : Parts) : Bool := (a.uwb && b.uwb) || (a.uhf && b.uhf) || (a.lf && b.lf) || (a.hf && b.hf)

/-- Slots of the LF telegram, and of its UHF window after TE (R182, R183). -/
def telegramSlots : Nat := 70
def uhfSlots : Nat := 210

/-- The parts an item needs to start. -/
def Item.needs (i : Item) : Parts :=
  match i.what with
  | .lfTelegram => { lf := true }
  | .hfPing => { hf := true }
  | .hfPoll => { hf := true }
  | .listenFree => { uwb := true }
  | .listenLinked _ => { uwb := true }
  | .calibrate => { uwb := true, lf := true, hf := true }
  | .measure h => { lf := !h, hf := h }
  | .authPass => { uwb := i.tclass == 0, hf := i.tclass == 1 }
  | .take => { uwb := true }
  | .listen _ _ => { uwb := true }
  | .rapid => { uwb := true }
  | .meterReq => {}
  | .tagTxn => { hf := true }

/-- The parts a granted item holds in slot `n`: a telegram holds the LF coil until TE and the UHF receiver from then on (R183). -/
def Item.holds (i : Item) (n : Nat) : Parts :=
  match i.what with
  | .lfTelegram => { lf := decide (n < i.start + telegramSlots), uhf := decide (i.start + telegramSlots ≤ n) }
  | .hfPing => i.needs
  | .hfPoll => i.needs
  | .listenFree => i.needs
  | .listenLinked _ => i.needs
  | .calibrate => i.needs
  | .measure _ => i.needs
  | .authPass => i.needs
  | .take => i.needs
  | .listen _ _ => i.needs
  | .rapid => i.needs
  | .meterReq => i.needs
  | .tagTxn => i.needs

/-- Does it need a streaming turn (R58)? -/
def Item.needsTurn (i : Item) : Bool :=
  match i.what with
  | .take => true | .listen _ _ => true | .rapid => true | .listenFree => true | .listenLinked _ => true
  | .lfTelegram => false | .hfPing => false | .hfPoll => false | .calibrate => false | .measure _ => false | .authPass => false
  | .meterReq => false | .tagTxn => false

/-- LEAN streams two antennas, on one axis (R57). -/
def leanProfile : Nat := 2
def patrolProfile : Nat := 3

/-- Streaming turns of a profile (R57), and the group width it sets (R272). -/
def turnsOf (profile : Nat) : Nat := if profile = 1 then 12 else if profile = 3 then 0 else 16
def widthOf (profile : Nat) : Nat := if profile = 0 then 25 else if profile = 1 then 20 else 12

/-- Engine groups it needs (R37). -/
def Item.needsGroups (i : Item) (profile : Nat) : Nat :=
  match i.what with
  | .take => if profile = leanProfile then 2 else 4
  | .listen _ _ => if profile = leanProfile then 2 else 4
  | .rapid => 4
  | .lfTelegram => 0 | .hfPing => 0 | .hfPoll => 0 | .listenFree => 0 | .listenLinked _ => 0 | .calibrate => 0 | .measure _ => 0
  | .authPass => 0 | .meterReq => 0 | .tagTxn => 0

/-- The first slot after a run of fixed length that starts in slot `n`; 0 where the protocol ends it. -/
def Item.endFrom (i : Item) (n : Nat) : Nat :=
  match i.what with
  | .lfTelegram => n + telegramSlots + uhfSlots
  | .hfPing => n + 1
  | .listenFree => n + 50
  | .listenLinked te => max (n + 1) ((te + ticksUs 5000 + slotTicks - 1) / slotTicks)
  | .calibrate => n + 3
  | .measure _ => 0
  | .hfPoll => 0 | .authPass => 0 | .take => 0 | .listen _ _ => 0 | .rapid => 0 | .meterReq => 0 | .tagTxn => 0

/-- A HOUSEKEEPING item. -/
def Item.isHk (i : Item) : Bool := i.cls == .housekeeping

/-! ## Engines (R36 to R40, R312, R616) -/

/-- Spares that can still be mapped: 128 to 135, neither mapped nor retired. -/
def Engine.spares (e : Engine) : List Nat :=
  ((List.range 8).map (128 + ·)).filter (fun c => !e.retired.contains c && !e.map.any (fun p => p.2 == c))

/-- Group `g` is withdrawn: a position of it has no cell, or the engine is out (R38, R616). -/
def Engine.withdrawn (e : Engine) (g : Nat) : Bool := e.out || e.unreplaced.any (fun p => p / 8 == g)

/-- Groups the engine offers, and those of them that are free. -/
def Engine.offered (e : Engine) : List Nat := (List.range 16).filter (fun g => !e.withdrawn g)
def Engine.free (e : Engine) : List Nat := e.offered.filter (fun g => !e.held.contains g)

/-- A retired position of a group takes the lowest free spare, or stays without a cell (R38). -/
def Engine.remapOne (e : Engine) (p : Nat) : Engine :=
  match e.spares with
  | c :: _ => { e with map := Tab.ins p c e.map, remap := e.remap.filter (· ≠ p) }
  | [] => { e with unreplaced := e.unreplaced ++ [p], remap := e.remap.filter (· ≠ p) }

/-- The remaps of group `g` that waited until it is next allocated (R40). -/
def Engine.remapGroup (e : Engine) (g : Nat) : Engine := (e.remap.filter (fun p => p / 8 = g)).foldl Engine.remapOne e

/-- Round robin from the group after the last allocated (R39). -/
def Engine.pick (e : Engine) (n : Nat) : List Nat :=
  let l := e.free
  ((l.filter (fun g => decide (e.last < g))) ++ (l.filter (fun g => decide (g ≤ e.last)))).take n

/-- `n` groups of an engine that offers them. The remaps that wait for a group are made as it is allocated (R40); a group that this withdraws is
passed over, at most once for each of the 16. -/
def Engine.allocFrom : Nat → Engine → Nat → Option (List Nat × Engine)
  | 0, _, _ => none
  | k + 1, e, n =>
    let l := e.pick n
    if l.length < n then none
    else
      let m := l.foldl Engine.remapGroup e
      if l.any m.withdrawn then Engine.allocFrom k m n else some (l, { m with held := m.held ++ l, last := l.getLastD m.last })

def Engine.alloc (e : Engine) (n : Nat) : Option (List Nat × Engine) := Engine.allocFrom 17 e n

/-- Groups given back. -/
def Engine.release (e : Engine) (l : List Nat) : Engine :=
  { e with held := e.held.filter (fun g => !l.contains g), invalid := e.invalid.filter (fun g => !l.contains g) }

/-- Engines of a region that offer at least 4 groups. -/
def enginesOffering (r : Region) : List Nat := (List.range 8).filter (fun k => decide (4 ≤ (nth {} r.engines k).offered.length))

/-- The reserved engine of a region while the reserve is set (R312). -/
def reservedEngine (s : Hub) (r : Nat) : Option Nat := if s.reserve then (enginesOffering (s.region r)).getLast? else none

/-- Engines in the order an item tries them (R52, R312). -/
def engineOrder (i : Item) (s : Hub) (r : Nat) : List Nat :=
  match reservedEngine s r, i.what with
  | none, _ => List.range 8
  | some k, .rapid => k :: (List.range 8).filter (· ≠ k)
  | some k, _ => (List.range 8).filter (· ≠ k)

/-- The first engine that gives `n` groups. -/
def firstAlloc (n : Nat) (es : List Engine) : List Nat → Option (Nat × List Nat × Engine)
  | [] => none
  | k :: r =>
    match (nth {} es k).alloc n with
    | some (l, e) => some (k, l, e)
    | none => firstAlloc n es r

/-! ## Items of a region -/

def Hub.items (s : Hub) (r : Nat) : List Item := (s.region r).items

def setItems (r : Nat) (f : List Item → List Item) (s : Hub) : Hub := s.setRegion r (fun x => { x with items := f x.items })

/-- Item `q` of a region. -/
def Hub.item (s : Hub) (r q : Nat) : Option Item := (s.items r).find? (fun i => i.q == q)

def modItem (r q : Nat) (f : Item → Item) (s : Hub) : Hub := setItems r (fun l => l.map (fun i => if i.q = q then f i else i)) s

/-- The status of a step that has ended stands in the next attempt at it (R42). -/
def markOutcome (b : Nat) (w : ItemWhat) (st : Status) (s : Hub) : Hub :=
  setItems (regionOf b) (fun l => l.map (fun i => if i.bay = b ∧ i.what = w then { i with outcome := st.code } else i)) s

/-- Items of a bay. -/
def Hub.bayItems (s : Hub) (b : Nat) : List Item := (s.items (regionOf b)).filter (fun i => i.bay == b)

/-- An item leaves the call sheet: its groups, its turn and its queue are free again. -/
def dropItem (r q : Nat) (s : Hub) : Hub :=
  match s.item r q with
  | none => s
  | some i =>
    s.setRegion r (fun x =>
      { x with items := x.items.filter (fun j => j.q != q)
               engines := match i.engine with
                 | some k => modNth x.engines k (fun e => e.release i.groups)
                 | none => x.engines
               coex := { x.coex with covered := x.coex.covered.filter (· ≠ q), clear := x.coex.clear.filter (· ≠ q) } })

/-- An item that was granted gives its resources back and waits again (R55, R162). -/
def ungrant (r q : Nat) (s : Hub) : Hub :=
  match s.item r q with
  | none => s
  | some i =>
    let s := s.setRegion r (fun x =>
      { x with engines := match i.engine with
                 | some k => modNth x.engines k (fun e => e.release i.groups)
                 | none => x.engines
               coex := { x.coex with covered := x.coex.covered.filter (· ≠ q), clear := x.coex.clear.filter (· ≠ q) } })
    modItem r q (fun i => { i with granted := false, start := 0, runEnd := 0, step := 0, turn := false, engine := none, groups := [], width := 0 }) s

/-! ## Queues (R42 to R44) -/

def queuesPerBay : Nat := 7680
def queuesReserve : Nat := 8192
def queuesTotal : Nat := 131072

def ownedBy (l : List Item) (b : Nat) : Nat := (l.filter (fun i => i.bay == b)).length

/-- Queues of the reserve in use. -/
def reserveUsed (l : List Item) (r : Nat) : Nat := ((baysOf r).map (fun b => ownedBy l b - queuesPerBay)).foldl (· + ·) 0

/-- Can bay `b` take one more queue? `kept` for SAFETY items and dialogues of open sessions. -/
def queueFree (s : Hub) (b : Nat) (kept : Bool) : Bool :=
  let r := regionOf b
  let l := s.items r
  decide (ownedBy l b < queuesPerBay) || (kept && decide (reserveUsed l r < queuesReserve))

/-- The lowest queue number not in use. -/
def freeQueue (l : List Item) : Nat := ((List.range (l.length + 1)).find? (fun q => !l.any (fun i => i.q == q))).getD l.length

/-- An item enters the call sheet with a queue of its own; none left: not started. -/
def enqueue (kept : Bool) (i : Item) (s : Hub) : Option Nat × Hub :=
  let r := regionOf i.bay
  if queueFree s i.bay kept then
    let q := freeQueue (s.items r)
    (some q, setItems r (fun l => l ++ [{ i with q := q, order := s.slot }]) s)
  else (none, s)

/-- A dialogue that hardware would have started gets no queue (R44). -/
def countRefused (b : Nat) (s : Hub) : Hub := s.setBay b (fun x => { x with queueRefused := satAdd x.queueRefused 1 })

/-- A HOUSEKEEPING item is skipped (R54, R211). -/
def countSkipped (b : Nat) (s : Hub) : Hub := s.setBay b (fun x => { x with pollSkipped := satAdd x.pollSkipped 1 })

/-! ## The grant rule (R51 to R56) -/

/-- Is an item eligible for slot `n`? A rapid exchange only at its start instants (R304). -/
def Item.eligible (i : Item) (n : Nat) : Bool :=
  !i.granted && !i.parked && decide (i.earliest ≤ n) && decide (n ≤ i.latest) && decide (i.notBefore ≤ n) &&
    (match i.what with
     | .rapid => (n - i.earliest) % 10 == 0
     | _ => true)

def classCode : QClass → Nat
  | .safety => 0 | .ranging => 1 | .auth => 2 | .housekeeping => 3

/-- The order of R51 with R56's tie rule: class, LATEST, ORDER, bay, queue. -/
def Item.before (a b : Item) : Bool :=
  let k := fun (i : Item) => [classCode i.cls, i.latest, i.order, i.bay, i.q]
  match (List.zip (k a) (k b)).find? (fun p => p.1 != p.2) with
  | some p => decide (p.1 < p.2)
  | none => false

/-- Insertion in the order of R51. -/
def insertItem (a : Item) : List Item → List Item
  | [] => [a]
  | b :: r => if a.before b then a :: b :: r else b :: insertItem a r

def sortItems (l : List Item) : List Item := l.foldl (fun l i => insertItem i l) []

/-- A HOUSEKEEPING item that has been eligible for 16 slots or more (R53). -/
def Item.floored (i : Item) (n : Nat) : Bool := i.isHk && decide (max i.earliest (max i.notBefore i.order) + 16 ≤ n)

/-- Does R53 put `a` after the floored item `h`? -/
def yields (n : Nat) (h a : Item) : Bool :=
  a.bay == h.bay && a.cls != .safety && !a.floored n && (a.needs.meets h.needs || (a.needsTurn && h.needsTurn))

/-- The floor of R53 for one item: items before it that must yield move to just after it. -/
def applyFloor (n : Nat) (h : Item) (l : List Item) : List Item :=
  let pre := l.takeWhile (fun i => i.q != h.q)
  let post := (l.dropWhile (fun i => i.q != h.q)).drop 1
  pre.filter (fun i => !yields n h i) ++ [h] ++ pre.filter (fun i => yields n h i) ++ post

/-- A restart or splice has reached READY and hands the bays back (R640). -/
def handing (x : Region) : Bool := (x.restart.map (fun y => y.phase == .handback)).getD false

/-- The call sheet grants new items at a bay: its region is ACTIVE; between READY and ACTIVE, at a bay handed back (R626, R637). -/
def bayPlans (s : Hub) (b : Nat) : Bool :=
  let x := s.region (regionOf b)
  let back := handing x && (s.rel b).cfg.enable && !(s.rel b).supervisor
  match x.st with
  | .active => true
  | .draining => false
  | .splicing => back
  | .quarantined => back
  | .off => false

/-- Eligible items of a region for slot `n`, in the order in which they are granted. -/
def planOrder (s : Hub) (r n : Nat) : List Item :=
  let l := sortItems ((s.items r).filter (fun i => i.eligible n && bayPlans s i.bay))
  (l.filter (fun i => i.floored n)).foldl (fun l h => applyFloor n h l) l

/-- Parts of a bay block's radio that running or granted items hold in slot `n`. -/
def partsHeld (s : Hub) (b n : Nat) (p : Parts) : Bool :=
  (s.bayItems b).any (fun i => i.granted && (i.holds n).meets p)

/-- Turns granted and not given back. -/
def turnsUsed (s : Hub) (r : Nat) : Nat := ((s.items r).filter (·.turn)).length

/-- A test emission keeps the call sheet off a bay's radio (R169). -/
def radioReserved (s : Hub) (b : Nat) : Bool := (s.bay b).radio.test.isSome

/-- One item is granted its radio, its groups and its turn, or skipped (R51). -/
def grantOne (r n : Nat) (i : Item) (s : Hub) : Hub :=
  let need := i.needsGroups s.pwr.profile
  if partsHeld s i.bay n i.needs || (radioReserved s i.bay && i.needs != {}) then s
  else if i.needsTurn && decide ((s.region r).turns ≤ turnsUsed s r) then s
  else
    let put := fun (f : Item → Item) (s : Hub) =>
      modItem r i.q (fun i => f { i with granted := true, start := n, runEnd := i.endFrom n, turn := i.needsTurn, step := 0 }) s
    if need = 0 then put id s
    else
      match firstAlloc need (s.region r).engines (engineOrder i s r) with
      | none => s
      | some (k, l, e) =>
        put (fun i => { i with engine := some k, groups := l, width := widthOf s.pwr.profile })
          (s.setRegion r (fun x => { x with engines := modNth x.engines k (fun _ => e) }))

/-- The plan of slot `n` (R51). -/
def planSlot (r n : Nat) (s : Hub) : Hub := (planOrder s r n).foldl (fun s i => grantOne r n i s) s

/-- The first slot whose plan is not yet frozen in a region. -/
def firstOpenSlot (s : Hub) (r : Nat) : Nat := max (s.slot + 1) (s.region r).frozen

end Sys2Proof.Machine
end

