-- ==== Sys2Proof/Machine/Limits.lean ====
section
/-! DEFINITION. The regulatory limits in force (R147 to R154), the LIMITS message (R152), the values of the calibration page a bay is run
with (R775 to R779), and queueing cues for a head (R92, R172, R175). -/

namespace Sys2Proof.Machine

/-! ## Limits (R147, R149, R152) -/

/-- A set of limits; `none` in a windowed limit means no limit. -/
structure Limits where
  ch5 : Bool := false
  ch9 : Bool := false
  lf : Bool := false
  hf : Bool := false
  uhf433 : Bool := false
  uhf868 : Bool := false
  max5 : Nat := 0
  max9 : Nat := 0
  pulses : Option Nat := some 0
  frames : Option Nat := some 0
  burst : Nat := 0
  duty : Option Nat := some 0
  lfDrive : Nat := 0
  hfField : Nat := 0
  version : Nat := 0
  testPermit : Bool := false
  deriving DecidableEq, Repr

/-- The limits of a page (R147). -/
def pageLimits (p : List Byte) : Limits :=
  let c := fld p 10 1
  let o := fld p 11 1
  { ch5 := bit c 0, ch9 := bit c 1, lf := bit o 0, hf := bit o 1, uhf433 := bit o 2, uhf868 := bit o 3
    max5 := fld p 12 1, max9 := fld p 13 1, pulses := some (fld p 16 4), frames := some (fld p 20 2), burst := fld p 22 2
    duty := some (fld p 24 2), lfDrive := fld p 26 1, hfField := fld p 27 1, version := fld p 4 4 }

/-- The page, where it is valid (R147). -/
def validPage (s : Hub) : Option (List Byte) := if s.boot.compValid then compPage s else none

/-- The factory set (R149): windowed limits as in the page, or none with no valid page. -/
def factoryLimits (s : Hub) : Limits :=
  let w : Limits := match validPage s with
    | some p => pageLimits p
    | none => { pulses := none, frames := none, duty := none }
  { ch5 := true, ch9 := true, lf := true, hf := true, uhf433 := true, uhf868 := true, max5 := 32, max9 := 32
    pulses := w.pulses, frames := w.frames, burst := 32768, duty := w.duty, lfDrive := 128, hfField := 128, testPermit := true }

/-- The limits in force (R149). -/
def limits (s : Hub) : Limits :=
  if s.lc = factory then factoryLimits s
  else if s.lc = commissioning then
    (match validPage s with
     | some p => { pageLimits p with testPermit := true }
     | none => { testPermit := true })
  else if s.lc = fielded then
    (match validPage s with
     | some p => pageLimits p
     | none => {})
  else {}

/-- A field of a message payload: value at bits [·:lsb]. -/
def atBit (v lsb : Nat) : Nat := v * 2 ^ lsb

/-- The LIMITS payload, bits [239:0] (R152). -/
def limitsPayload (l : Limits) : Nat :=
  atBit (b2n l.ch9) 239 + atBit (b2n l.ch5) 238 + atBit (b2n l.uhf868) 237 + atBit (b2n l.uhf433) 236 + atBit (b2n l.hf) 235 +
  atBit (b2n l.lf) 234 + atBit (l.max5 % 64) 228 + atBit (l.max9 % 64) 222 + atBit (l.pulses.getD 0x7FFFF % 2 ^ 19) 203 +
  atBit (l.frames.getD 65535 % 2 ^ 16) 187 + atBit (l.burst % 2 ^ 16) 171 + atBit (l.duty.getD 0x7FF % 2 ^ 11) 160 +
  atBit (l.lfDrive % 256) 152 + atBit (l.hfField % 256) 144 + atBit (l.version % 2 ^ 32) 112 + atBit (b2n l.testPermit) 111

/-- The CRC a LIMITS_ACK must carry: that of LIMITS bits [239:0], bit 239 first, computed as R84 lays down. -/
def limitsCrc (l : Limits) : Nat := crcBits 240 (limitsPayload l)

/-- May the hub use a channel at a power code (R153)? -/
def Limits.channel (l : Limits) (ch pw : Nat) : Bool :=
  (ch == 5 && l.ch5 && decide (pw ≤ l.max5)) || (ch == 9 && l.ch9 && decide (pw ≤ l.max9))

/-- May the hub drive a coil at a code? -/
def Limits.coil (l : Limits) (hf : Bool) (code : Nat) : Bool :=
  if hf then l.hf && decide (code ≤ l.hfField) else l.lf && decide (code ≤ l.lfDrive)

/-- May the hub set a coil's code? A code of 0 drives nothing, and breaks no limit. -/
def Limits.code (l : Limits) (hf : Bool) (c : Nat) : Bool := c == 0 || l.coil hf c

/-- May the hub listen on a UHF band (0 433.92 MHz, 1 868.3 MHz)? -/
def Limits.band (l : Limits) (b : Nat) : Bool := if b = 0 then l.uhf433 else l.uhf868

/-- Counts of the entries of a log of (start, count) that lie in the window of `w` ticks from `t`. -/
def windowSum (log : List (Nat × Nat)) (t w : Nat) : Nat :=
  ((log.filter (fun p => decide (t ≤ p.1) && decide (p.1 < t + w))).map (·.2)).foldl (· + ·) 0

/-- Every 1 ms window that overlaps what is added keeps the pulse limit (R153, R154): the windows that begin at an entry, no earlier than 1 ms
before the first added. Pulses count at the start of their symbol (log entry 8). -/
def pulsesAllowed (l : Limits) (r : Radio) (new : List (Nat × Nat)) : Bool :=
  match l.pulses, new.head? with
  | some m, some p =>
    let log := new ++ r.pulseLog
    (log.filter (fun x => decide (p.1 < x.1 + ticksUs 1000))).all (fun x => decide (windowSum log x.1 (ticksUs 1000) ≤ m))
  | _, _ => true

/-- `n` frames from tick `t` on keep FRAMES_S_MAX in the 1 s ending at each (R153, R154). -/
def framesAllowed (l : Limits) (r : Radio) (t n : Nat) : Bool :=
  match l.frames with
  | none => true
  | some m => decide ((r.frameLog.filter (fun p => decide (t < p + ticksUs 1000000))).length + n ≤ m)

/-- Ticks of LF drive in the window of `w` ticks from `t`; entries are (start, length). -/
def driveIn (log : List (Nat × Nat)) (t w : Nat) : Nat :=
  (log.map (fun p => min (p.1 + p.2) (t + w) - max p.1 t)).foldl (· + ·) 0

/-- Every 1 s window that overlaps the LF drive added keeps the duty limit (R153, R154): the largest sums are those of the windows that begin
where drive begins or end where it ends. -/
def dutyAllowed (l : Limits) (r : Radio) (new : List (Nat × Nat)) : Bool :=
  match l.duty, new.head? with
  | some m, some p =>
    let w := ticksUs 1000000
    let log := new ++ r.lfLog
    let from_ := (log.filter (fun x => decide (p.1 < x.1 + w))).map (·.1) ++ (log.filter (fun x => decide (p.1 < x.1 + x.2))).map (fun x => x.1 + x.2 - w)
    from_.all (fun t => decide (1024 * driveIn log t w ≤ m * w))
  | _, _ => true

/-! ## Calibration values (R775, R778, R779) -/

/-- The entry of a bay, where the page is valid and the entry PRESENT. -/
def calEntry (s : Hub) (b : Nat) : Option (List Byte) :=
  let e := Tab.get [] s.boot.cal.entries b
  if s.boot.calValid && bit (fld e 8 1) 0 then some e else none

/-- A value of a bay's entry, or its default. -/
def calVal (s : Hub) (b o n d : Nat) : Nat :=
  match calEntry s b with
  | some e => fld e o n
  | none => d

def calSerial (s : Hub) (b : Nat) : Nat := calVal s b 0 8 0
def lfTune (s : Hub) (b : Nat) : Nat := calVal s b 9 1 128
def hfTune (s : Hub) (b : Nat) : Nat := calVal s b 10 1 128
def extFieldOn (s : Hub) (b : Nat) : Nat := calVal s b 20 2 1024
def hfDecThr (s : Hub) (b : Nat) : Nat := calVal s b 22 2 64

/-- A bay is calibrated (R779). -/
def calibrated (s : Hub) (b : Nat) : Bool := (calEntry s b).isSome && !(s.bay b).link.headChanged

/-- Antenna receive delays, head delays and AoA offsets of a channel's block, 0 by default. -/
def chBlock (s : Hub) (b ch o n : Nat) : Nat := calVal s b ((if ch = 5 then 40 else 72) + o) n 0

/-! ## Cues -/

def setSl (b : Nat) (f : Slates → Slates) (s : Hub) : Hub := s.setBay b (fun x => { x with sl := f x.sl })
def setLink (b : Nat) (f : Link → Link) (s : Hub) : Hub := s.setBay b (fun x => { x with link := f x.link })
def setRadio (b : Nat) (f : Radio → Radio) (s : Hub) : Hub := s.setBay b (fun x => { x with radio := f x.radio })
def setPoll (b : Nat) (f : Poll → Poll) (s : Hub) : Hub := s.setBay b (fun x => { x with poll := f x.poll })
def setHf (b : Nat) (f : Hf → Hf) (s : Hub) : Hub := s.setBay b (fun x => { x with hf := f x.hf })

def isUp (s : Hub) (b : Nat) : Bool := decide ((s.bay b).link.state = .up)

/-- A cue waits for its credit and its slate (R98); a port that is not UP carries none. -/
def queueCue (b : Nat) (c : Cue) (s : Hub) : Hub :=
  if isUp s b then setSl b (fun l => { l with toSend := l.toSend ++ [c] }) s else s

/-- A cue applied on receipt. -/
def cueNow (b opc arg : Nat) (why : CuePurpose) (s : Hub) : Hub :=
  queueCue b { opc := opc, cseq := 0, exec := 0, win := 0, imm := true, arg := arg, why := why } s

/-- A cue of an item's step at an instant. -/
def cueAt (b opc arg exec win : Nat) (why : CuePurpose) (q : Option Nat) (s : Hub) : Hub :=
  queueCue b { opc := opc, cseq := 0, exec := exec, win := win, imm := false, arg := arg, why := why, q := q } s

/-- A step or command ends with REG_LIMIT (R153, R171). -/
def regRefused (b : Nat) (s : Hub) : Hub :=
  setRadio b (fun r => { r with cnt := { r.cnt with regRefused := satAdd r.cnt.regRefused 1 } }) s

/-- The drive or field code of a coil goes to the head where the limits allow it (R153). -/
def coilCue (b opc code : Nat) (hf : Bool) (s : Hub) : Hub :=
  if (limits s).code hf code then cueNow b opc code .field s else regRefused b s

/-- CAP_CONFIG for a head with a sensor: its threshold, and the sensor enabled (R172). -/
def capCue (b : Nat) (s : Hub) : Hub :=
  if (s.bay b).link.ident.hasCap then cueNow b 0x44 ((s.bay b).poll.cfg.capThresh % 2 ^ 16 + 2 ^ 16) .field s else s

/-- Tuning codes of the calibration page, then the bay's drive and field codes (R175). -/
def tuneCues (b : Nat) (s : Hub) : Hub :=
  let c := (s.bay b).poll.cfg
  coilCue b 0x42 c.hfField true (coilCue b 0x40 c.lfDrive false
    (cueNow b 0x43 (hfTune s b) .field (cueNow b 0x41 (lfTune s b) .field s)))

end Sys2Proof.Machine
end

