-- ==== Sys2Proof/Machine/IsoDep.lean ====
section
/-! DEFINITION. Frames and blocks of ISO/IEC 14443 on the HF coil, as reader and as bay tag: check bytes, sending, RSTR (R219), and the I-blocks in
which the reader sends (R212, R214). What the frames hold comes from ISO/IEC 14443-3 and -4, to which R212 refers (log entry 178). -/

namespace Sys2Proof.Machine

/-! ## Check bytes -/

/-- One bit of the CRC of ISO/IEC 14443-3, least significant bit first. -/
def isoCrcBit (c : Nat) : Nat := if c % 2 = 1 then c / 2 ^^^ 0x8408 else c / 2

def isoCrcByte (c : Nat) (x : Byte) : Nat :=
  isoCrcBit (isoCrcBit (isoCrcBit (isoCrcBit (isoCrcBit (isoCrcBit (isoCrcBit (isoCrcBit (c ^^^ x.toNat))))))))

/-- CRC_A and CRC_B. -/
def isoCrc (typeB : Bool) (l : List Byte) : Nat :=
  if typeB then 0xFFFF - l.foldl isoCrcByte 0xFFFF else l.foldl isoCrcByte 0x6363

/-- A frame with its check bytes. -/
def withCrc (typeB : Bool) (l : List Byte) : List Byte := l ++ toLe 2 (isoCrc typeB l)

/-- The bytes of a frame whose check bytes are right. -/
def stripCrc (typeB : Bool) (l : List Byte) : Option (List Byte) :=
  let d := l.take (l.length - 2)
  if 3 ≤ l.length ∧ withCrc typeB d = l then some d else none

/-- What arrived as one frame: nothing where several frames differ. -/
def oneFrame (l : List (List Byte)) : Option (List Byte) :=
  match l with
  | [] => none
  | x :: r => if r.all (· == x) then some x else none

/-! ## Sending -/

/-- A frame leaves on the HF coil, from the first instant whose slate is still to be launched (R208, R209). -/
def sendHfAs (b : Nat) (typeB : Bool) (rate : Nat) (l : List Byte) (s : Hub) : Hub :=
  (setHf b (fun h => { h with sent := some { start := (s.bay b).sl.dnTime + slateTicks, bytes := l, rate := rate, typeB := typeB } }) s).emit (.hf b l)

/-- A frame of the bay tag: Type A at 106 kbit/s (R226). -/
def sendHf (b : Nat) (l : List Byte) (s : Hub) : Hub := sendHfAs b false 0 l s

/-- A block to the selected card. -/
def sendToCard (b : Nat) (l : List Byte) (s : Hub) : Hub :=
  match (s.bay b).hf.card with
  | some c => sendHfAs b c.typeB c.rate (withCrc c.typeB l) s
  | none => s

/-- S(DESELECT). -/
def sDeselect : List Byte := [0xC2]

/-- R(ACK), and R(NAK) with which the reader asks again or checks presence, with the reader's block number. -/
def rAck (bn : Nat) : List Byte := toLe 1 (0xA2 + bn)
def rNak (bn : Nat) : List Byte := toLe 1 (0xB2 + bn)

/-! ## Counting (R251) -/

def countTag (b : Nat) (f : TagCnt → TagCnt) (s : Hub) : Hub := setHf b (fun h => { h with cnt := f h.cnt }) s

def ReaderOutcome.count (o : ReaderOutcome) (c : TagCnt) : TagCnt :=
  match o with
  | .cardTimeout => { c with cardTimeout := satAdd c.cardTimeout 1 }
  | .cardProtocol => { c with cardProto := satAdd c.cardProto 1 }
  | .notIsodep => { c with nonIsodep := satAdd c.nonIsodep 1 }
  | .marginLow => { c with marginRefused := satAdd c.marginRefused 1 }
  | .writeUnknown => { c with writeUnknown := satAdd c.writeUnknown 1 }
  | .cardOk => c | .noCard => c | .coilOpen => c | .fieldBusy => c

/-- A reader transaction has ended with an outcome. -/
def countTxn (b : Nat) (o : ReaderOutcome) (s : Hub) : Hub := countTag b (fun c => o.count { c with hfTxn := satAdd c.hfTxn 1 }) s

/-- The transaction of a class C pass ends. -/
def endPassTxn (b : Nat) (o : ReaderOutcome) (s : Hub) : Hub :=
  if (s.bay b).hf.txn.any (fun t => decide (t.kind = 2)) then countTxn b o (setHf b (fun h => { h with txn := none }) s) else s

def modTxn (b : Nat) (f : ReaderTxn → ReaderTxn) (s : Hub) : Hub := setHf b (fun h => { h with txn := h.txn.map f }) s
def modCard (b : Nat) (f : CardSel → CardSel) (s : Hub) : Hub := setHf b (fun h => { h with card := h.card.map f }) s

/-! ## RSTR (R219) -/

/-- Whole steps of 0.5 dB by which a magnitude lies above the decode threshold, 0 to 255: a factor of ten is forty steps. -/
def rstrOf (thr mag : Nat) : Nat := ((List.range 255).filter (fun n => decide (thr ^ 40 * 10 ^ (n + 1) ≤ mag ^ 40))).length

/-! ## I-blocks of the reader (R212, R214) -/

/-- The card's FWT runs again from a block sent now. -/
def runFwt (b : Nat) (s : Hub) : Hub :=
  modTxn b (fun t => { t with deadline := min t.limit (s.now + us (((s.bay b).hf.card.map (·.fwt)).getD 0)) }) s

/-- The next I-block of an APDU goes out, chained where the card's frame size asks for it. -/
def sendIBlock (b : Nat) (s : Hub) : Hub :=
  match (s.bay b).hf.txn, (s.bay b).hf.card with
  | some t, some c =>
    let n := c.fsc - 3
    let blk := toLe 1 (0x02 + c.bn + (if n < t.rest.length then 0x10 else 0)) ++ t.rest.take n
    runFwt b (sendToCard b blk (modTxn b (fun t => { t with rest := t.rest.drop n, out := blk, retries := 0, limit := s.now + sec 1, got := []
                                                            chain := false }) s))
  | _, _ => s

/-- An APDU goes out and its waiting time runs. -/
def sendApdu (b kind : Nat) (l : List Byte) (s : Hub) : Hub := sendIBlock b (modTxn b (fun t => { t with kind := kind, apdu := l, rest := l }) s)

end Sys2Proof.Machine
end

