-- ==== Sys2Proof/Machine/Engine.lean ====
section
/-! DEFINITION. What an engine makes of the correlations of its groups: the noise level, the first path, its position and its quality, in the
search of a take or a listen (R271, R274 to R277) and in a round of a rapid exchange (R307, R308). Magnitudes are compared through their squares,
so that the comparisons are exact; times are in 1/256 clapper tick, of which a tap is 4,096. -/

namespace Sys2Proof.Machine

/-! ## Steps of a scale -/

/-- The greatest number below n + 2^k that passes a test which holds up to some number and not above. -/
def greatest (ok : Nat → Bool) : Nat → Nat → Nat
  | 0, n => n
  | k + 1, n => greatest ok k (if ok (n + 2 ^ k) then n + 2 ^ k else n)

/-- A value that lies at step `n` of a scale, or between it and the next: where it is not exact, the manual does not say how it is rounded. -/
def openStep (exact : Bool) (key : Nat) (n : Nat) : Nat := if exact then n else if Config.roundUp n key then n + 1 else n

/-! ## Noise and threshold -/

/-- |C|² at a tap. -/
def tapPow (t : Tap) : Nat := t.re.natAbs ^ 2 + t.im.natAbs ^ 2

/-- A squared level as a quotient. -/
structure Level2 where
  num : Nat
  den : Nat
  deriving DecidableEq, Repr

/-- The peak: the first of the greatest values. -/
def peakAt (l : List Nat) : Nat := l.idxOf (l.foldl max 0)

/-- The square of the RMS of the values more than `gap` places from the peak, from their squares. -/
def noiseOf (gap : Nat) (l : List Nat) : Level2 :=
  let p := peakAt l
  let far := l.take (p - gap) ++ l.drop (p + gap + 1)
  { num := far.foldl (· + ·) 0, den := max far.length 1 }

/-- The square of max(a σ, peak / c), by the squares of a and c. -/
def Level2.threshold (n : Level2) (a2 c2 peak2 : Nat) : Level2 :=
  if peak2 * n.den ≤ a2 * n.num * c2 then { num := a2 * n.num, den := n.den } else { num := peak2, den := c2 }

/-- A magnitude, by its square, reaches a threshold; a tap at which there is nothing reaches none. -/
def Level2.reached (th : Level2) (p : Nat) : Bool := decide (0 < p) && decide (th.num ≤ p * th.den)

/-- The earliest place, at or before the peak, that reaches the threshold (R276, R308). -/
def firstReach (th : Level2) (l : List Nat) : Option Nat := (l.take (peakAt l + 1)).findIdx? th.reached

/-- A magnitude over σ in steps of 0.25 dB, from 0 to 255, saturated (R277, R317). -/
def quarterDb (p : Nat) (n : Level2) : Nat :=
  let q := greatest (fun q => decide (q ≤ 255) && decide (10 ^ q * n.num ^ 40 ≤ (p * n.den) ^ 40)) 8 0
  if q = 255 ∨ p * n.den < n.num then q else openStep (10 ^ q * n.num ^ 40 == (p * n.den) ^ 40) (p * n.den) q

/-! ## The search of a take or a listen -/

/-- Where in a tap the line from √a to √b crosses √th, in 1/4,096 tap: ((4,096 − q) √a + q √b) / 4,096 ≤ √th up to some q (R276). -/
def crossRoots (th : Level2) (a b : Nat) : Nat :=
  let x := fun q => (4096 - q) ^ 2 * a * th.den
  let y := fun q => q ^ 2 * b * th.den
  let z := 4096 ^ 2 * th.num
  let q := greatest (fun q => decide (q ≤ 4096) && decide (x q + y q ≤ z) && decide (4 * x q * y q ≤ (z - (x q + y q)) ^ 2)) 13 0
  min 4096 (openStep (4 * x q * y q == (z - (x q + y q)) ^ 2) b q)

/-- A first path: its tap, position, quality and phase. -/
structure FirstPath where
  tap : Nat
  pos : Nat
  quality : Nat
  phase : Nat
  deriving DecidableEq, Repr

/-- The first path of a CIR whose first tap lies at `start` (R276, R277). In the first tap, which has none before it, it lies at the tap. -/
def firstPath (start : Nat) (n : Level2) (l : List Tap) : Option FirstPath :=
  let ps := l.map tapPow
  let th := n.threshold 36 64 (nth 0 ps (peakAt ps))
  (firstReach th ps).map (fun i =>
    let h := nth { re := 0, im := 0 } l i
    { tap := i, quality := quarterDb (nth 0 ps i) n, phase := (Config.atan2Units h.im h.re).toNat
      pos := if i = 0 then start else start + 4096 * (i - 1) + crossRoots th (nth 0 ps (i - 1)) (nth 0 ps i) })

/-- Where the search window begins (R271): 64 taps before T_P + 250 µs. -/
def searchStart (tPoll : Nat) : Nat := 256 * (tPoll + 3993600) - 64 * 4096

/-- Preamble symbols integrated per coarse tap at a group width (R272). -/
def coarseSymbols (width : Nat) : Nat := if width = 25 then 4 else if width = 20 then 3 else 2

/-- The sum of `n` symbols of a tap, from symbol `k` on (0 is symbol 1). -/
def integrate (k n : Nat) (t : TapCorr) : Tap :=
  ((t.syms.drop k).take n).foldl (fun a x => { re := a.re + x.re, im := a.im + x.im }) { re := 0, im := 0 }

/-- The tap at a place of the search window. A tap outside it is not searched (R271). -/
def antTap (c : AntCir) (k : Int) : TapCorr :=
  if 0 ≤ k ∧ k < 256 then nth { syms := [], sts := { re := 0, im := 0 } } c.taps k.toNat else { syms := [], sts := { re := 0, im := 0 } }

/-- The coarse CIR (R274): sections of W taps, each integrated over the next symbols of symbols 1 to 48. -/
def coarseCir (width : Nat) (c : AntCir) : List Tap :=
  let n := coarseSymbols width
  (List.range 256).map (fun i => integrate (n * (i / width)) n (antTap c i))

/-- The coarse stage (R274): the squared noise level and the tap of the coarse first path. -/
def coarseStage (width : Nat) (c : AntCir) : Level2 × Option Nat :=
  let ps := (coarseCir width c).map tapPow
  let n := noiseOf 16 ps
  (n, firstReach (n.threshold 36 64 (nth 0 ps (peakAt ps))) ps)

/-- The CIR of the fine window of W taps from 8 taps before the coarse first path `i` (R275): symbols 49 to 64, or the whole STS. -/
def fineCir (width i : Nat) (sts : Bool) (c : AntCir) : List Tap :=
  (List.range width).map (fun (k : Nat) => let t := antTap c ((i : Int) - 8 + (k : Int)); if sts then t.sts else integrate 48 16 t)

/-- The first path of an antenna: that of the Ipatov or of the STS CIR in the fine window (R271, R275). -/
def fineStage (tPoll width : Nat) (sts : Bool) (c : AntCir) : Option FirstPath :=
  let k := coarseStage width c
  k.2.bind (fun i => firstPath (searchStart tPoll + 4096 * i - 8 * 4096) k.1 (fineCir width i sts c))

/-- The squared peak of the CIR in the fine window. -/
def finePeak (width : Nat) (sts : Bool) (c : AntCir) : Nat :=
  match (coarseStage width c).2 with
  | some i => ((fineCir width i sts c).map tapPow).foldl max 0
  | none => 0

/-- What is found at the own head: raw positions in 1/256 clapper tick, squared peaks. -/
structure RespMeas where
  /-- Ipatov and STS first paths on TX_ANT. -/
  ipatov : Option Nat
  ipatovPeak2 : Nat
  sts : Option Nat
  stsPeak2 : Nat
  /-- FPQ of the STS CIR on TX_ANT (R277). -/
  fpq : Nat
  /-- The first path on TX_ANT lies in the first tap of the fine window (R276). -/
  edge : Bool
  /-- First paths of antennas 0 to 3 in the STS CIR, and the phases of their taps in 2π/65,536. -/
  ants : List (Option Nat)
  phases : List Nat
  deriving DecidableEq, Repr

/-- What is found at a listening head, in the Ipatov CIR (R270). -/
structure ListenMeas where
  fpq : Nat
  ants : List (Option Nat)
  phases : List Nat
  deriving DecidableEq, Repr

/-- The antennas streamed with a group width (R57, R272). -/
def streamed (width : Nat) : List Nat := if width = 12 then [0, 1] else [0, 1, 2, 3]

/-- The first path of each streamed antenna. -/
def antPaths (tPoll width : Nat) (sts : Bool) (l : List AntCir) : List (Option FirstPath) :=
  (l.take (streamed width).length).map (fineStage tPoll width sts)

/-- The RESPONSE at the own head, for its POLL RMARKER, group width and transmit antenna. -/
def respSeen (tPoll width tx : Nat) (c : RespCir) : RespMeas :=
  let l := antPaths tPoll width true c.ants
  let own := nth { taps := [] } c.ants tx
  let st := nth none l tx
  { ipatov := (fineStage tPoll width false own).map (·.pos), ipatovPeak2 := finePeak width false own
    sts := st.map (·.pos), stsPeak2 := finePeak width true own
    fpq := (st.map (·.quality)).getD 0, edge := (st.map (fun p => decide (p.tap = 0))).getD false
    ants := l.map (·.map (·.pos)), phases := l.map (fun p => (p.map (·.phase)).getD 0) }

/-- The RESPONSE at a listening head. The quality is that of its first antenna with a first path. -/
def listenSeen (tPoll width : Nat) (c : ListenCir) : ListenMeas :=
  let l := antPaths tPoll width false c.ants
  { fpq := ((l.filterMap id).head?.map (·.quality)).getD 0
    ants := l.map (·.map (·.pos)), phases := l.map (fun p => (p.map (·.phase)).getD 0) }

/-! ## A round -/

/-- |C| in 1/256 of the engine's unit. -/
def magnitude (t : Tap) : Nat :=
  let p := 65536 * tapPow t
  let q := greatest (fun q => decide (q ^ 2 ≤ p)) 64 0
  openStep (q ^ 2 == p) p q

/-- Where in a tap the line from a to b crosses √th, in 1/4,096 tap. -/
def crossLine (th : Level2) (a b : Nat) : Nat :=
  let v := fun q => ((4096 - q) * a + q * b) ^ 2 * th.den
  let z := 4096 ^ 2 * th.num
  let q := greatest (fun q => decide (q ≤ 4096) && decide (v q ≤ z)) 13 0
  min 4096 (openStep (v q == z) b q)

/-- One round: the peak test, the first-path lag and raw instant in 1/256 tick, Re(C_dat · conj(C_ref)), |C_ref|² and |C_dat|² there, and the
peak over σ_R in 0.25 dB. -/
structure RoundMeas where
  peakOk : Bool
  lag : Nat
  raw : Nat
  x : Int
  refPow : Nat
  datPow : Nat
  pq : Nat
  deriving DecidableEq, Repr

/-- A round judged as far as its correlations go; `t0` is the zero-distance arrival in 1/256 tick, and lag l lies l − 2 taps after it (R307,
R308). -/
def roundSeen (t0 : Nat) (c : RoundCorr) : RoundMeas :=
  let l := c.lags.take 44
  let ms := l.map (fun p => magnitude p.1 + magnitude p.2)
  let sq := ms.map (· ^ 2)
  let n := noiseOf 8 sq
  let peak := nth 0 sq (peakAt sq)
  let th := n.threshold 36 16 peak
  let i := (firstReach th sq).getD 0
  let p := nth ({ re := 0, im := 0 }, { re := 0, im := 0 }) l i
  { peakOk := decide (0 < peak) && decide (64 * n.num ≤ peak * n.den), lag := i
    raw := t0 + 4096 * i - 3 * 4096 + (if i = 0 then 4096 else crossLine th (nth 0 ms (i - 1)) (nth 0 ms i))
    x := p.2.re * p.1.re + p.2.im * p.1.im, refPow := tapPow p.1, datPow := tapPow p.2, pq := quarterDb peak n }

end Sys2Proof.Machine
end

