-- ==== Sys2Proof/Machine/RangeMath.lean ====
section
/-! DEFINITION. The arithmetic of a take (R258 to R263, R270 to R287): keys, arrival times, time of flight, angles of arrival, suspect spans.
Times are in 1/256 clapper tick unless a name says ticks. -/

namespace Sys2Proof.Machine

/-! ## Quotients -/

/-- A quotient where the manual does not say how it is rounded: the integer below or, not exact, perhaps the one above. -/
def openDiv (n : Int) (d : Nat) : Int :=
  let q := n / (d : Int)
  if n % (d : Int) = 0 then q else if Config.roundUp n d then q + 1 else q

/-- A quotient rounded to the nearest integer. -/
def nearDiv (n : Int) (d : Nat) : Int := (2 * n + d) / (2 * (d : Int))

/-! ## Keys (R261, R299) -/

def bayByte (b : Nat) : List Byte := toLe 1 b

/-- K_TAKE of a session key at a bay. -/
def kTake (sk : BitVec 128) (b : Nat) : BitVec 128 := Config.aesCmac sk (0x21 :: bayByte b)

/-- K_STS, V and K_RAPID of one take. -/
def kSts (sk : BitVec 128) (b n : Nat) : BitVec 128 := Config.aesCmac sk (0x22 :: (bayByte b ++ toLe 4 n))
def vSts (sk : BitVec 128) (b n : Nat) : BitVec 128 := Config.aesCmac sk (0x23 :: (bayByte b ++ toLe 4 n))
def kRapid (sk : BitVec 128) (b n : Nat) : BitVec 128 := Config.aesCmac sk (0x24 :: (bayByte b ++ toLe 4 n))

/-- The CCM* nonce of SETUP and REPORT (R260). -/
def takeNonce (toHub : Bool) (b n frame : Nat) : List Byte :=
  toLe 1 (b2n toHub) ++ bayByte b ++ toLe 4 n ++ toLe 1 frame ++ List.replicate 6 0

/-- Counter block of STS frame `m` (R262): the upper 96 bits of V, then V[31:0] + 512 m. -/
def stsStart (v : BitVec 128) (m : Nat) : Nat :=
  v.toNat / 2 ^ 32 * 2 ^ 32 + (v.toNat % 2 ^ 32 + 512 * m) % 2 ^ 32

/-- Output block `j` of the exchange's counter mode (R299), bit 127 first. -/
def rapidBlock (k : BitVec 128) (j : Nat) : BitVec 128 := Config.aesBlock k (BitVec.ofNat 128 j)

/-- Chip codes (R90): a pulse and its sign, or none. -/
def chipCode : Option Bool → Nat
  | none => 0 | some true => 1 | some false => 3

/-- Chip k of Q_i (R300). -/
def patternQ (key : BitVec 128) (i k : Nat) : Bool := (rapidBlock key i).getLsbD (127 - k)

/-- Chip k of P_i (R300). -/
def patternP (key : BitVec 128) (i k : Nat) : Bool := (rapidBlock key i).getLsbD (63 - k)

/-- The challenge of round i with bit c (R301): chips 0 to 31 of Q_i as they stand, chips 32 to 63 inverted where c is 1. -/
def challengeChips (key : BitVec 128) (i : Nat) (c : Bool) : List Nat :=
  (List.range 64).map (fun k => chipCode (some (patternQ key i k != (c && decide (32 ≤ k)))))

/-- The reply of round i with bit r (R301). -/
def replyChips (key : BitVec 128) (i : Nat) (r : Bool) : List Nat :=
  (List.range 20).map (fun k => chipCode (some (patternP key i k != (r && decide (10 ≤ k)))))

/-- Pulse j of an STS (R262): the cipher's output over rising counter blocks, bit 127 of each first; a 0 is a positive pulse. -/
def stsPulse (key ctr : BitVec 128) (j : Nat) : Bool :=
  let n := ctr.toNat / 2 ^ 32 * 2 ^ 32 + (ctr.toNat % 2 ^ 32 + j / 128) % 2 ^ 32
  !(Config.aesBlock key (BitVec.ofNat 128 n)).getLsbD (127 - j % 128)

/-- The mask bit Z[i] (R300). -/
def maskBit (k : BitVec 128) (i : Nat) : Bool := (rapidBlock k 32).getLsbD i

/-! ## Calibration of a channel, from a bay entry as it stood at the grant (R775, R785) -/

def chVal (e : Option (List Byte)) (ch o n : Nat) : Int :=
  match e with
  | some l => signed (8 * n) (fld l ((if ch = 5 then 40 else 72) + o) n)
  | none => 0

def gdRx (e : Option (List Byte)) (ch a : Nat) : Int := chVal e ch (4 * a) 4
def gdTx (e : Option (List Byte)) (ch : Nat) : Int := chVal e ch 16 4
def headFix (e : Option (List Byte)) (ch : Nat) : Int := chVal e ch 20 4
def pdoaX (e : Option (List Byte)) (ch : Nat) : Int := chVal e ch 24 2
def pdoaY (e : Option (List Byte)) (ch : Nat) : Int := chVal e ch 26 2

/-- The chip instant nearest to a tick less GD_TX, so that what is sent there is radiated at that tick (R265, R278). Chips lie on multiples of 32 ticks
(R90): the rounding is the model's (DESIGN CHOICE, log entry 174). -/
def chipAt (e : Option (List Byte)) (ch t : Nat) : Nat := (nearDiv ((t : Int) * 256 - gdTx e ch) 8192).toNat * 32

/-- The instant at which what is sent for a tick is radiated, 1/256 tick. -/
def radiatedAt (e : Option (List Byte)) (ch t : Nat) : Int := (chipAt e ch t : Int) * 256 + gdTx e ch

/-! ## Antennas -/

/-- The antenna the hub transmits on (R256). -/
def txAntenna (profile a : Nat) : Nat := if profile = leanProfile ∧ 2 ≤ a then 0 else a

/-- A head's TOA: the mean of t_rx over its streamed antennas that have a first path (R278, R279). -/
def headToa (e : Option (List Byte)) (ch width : Nat) (ants : List (Option Nat)) : Option Int :=
  let l := (streamed width).filterMap (fun a => (nth none ants a).map (fun (t : Nat) => (t : Int) - gdRx e ch a - headFix e ch))
  if l = [] then none else some (openDiv (l.foldl (· + ·) 0) l.length)

/-- Whole ticks and 1/256 tick of an instant. -/
def wholeTicks (t : Int) : Nat := (t / 256).toNat
def fracTick (t : Int) : Nat := (t % 256).toNat

/-! ## Suspect spans (R112, R281) -/

/-- Does an instant of a head lie in a suspect span? Spans are kept from the start of their slate. -/
def inSuspect (spans : List (Nat × Nat)) (t256 : Nat) : Bool := spans.any (fun p => decide (p.1 ≤ t256 / 256) && decide (t256 / 256 < p.2))

/-- The antenna a take was sent on. -/
def Take.txAnt (t : Take) (c : RangeCfg) : Nat := if t.width = 12 ∧ 2 ≤ c.txAnt then 0 else c.txAnt

/-- T_POLL of a take (R291): the tick at which the POLL RMARKER is radiated; 0 before its grant. -/
def Take.pollSent (t : Take) (ch : Nat) : Nat := if t.tPoll = 0 then 0 else wholeTicks (radiatedAt t.cal ch t.tPoll)

/-! ## The checks of a RESPONSE (R266, R280) -/

/-- Preamble chips integrated by the fine stage: symbols 49 to 64 of 508 chips (R252, R275). -/
def fineChips : Nat := 16 * 508

/-- The outcome a RESPONSE ends a take with, if it fails. -/
def respFails (units : Nat) (m : RespMeas) : Option TakeOutcome :=
  match m.ipatov with
  | none => some .noResponse
  | some i =>
    match m.sts with
    | none => some .stsLow
    | some t =>
      if m.fpq < 24 ∨ (10 * fineChips) ^ 2 * m.stsPeak2 < (6 * (units * 512)) ^ 2 * m.ipatovPeak2 then some .stsLow
      else if 32 * 256 < (if i ≤ t then t - i else i - t) then some .stsMismatch
      else none

/-! ## Time of flight (R282 to R284) -/

/-- 250 µs, the reply interval of a take, and 500 µs, in clapper ticks. -/
def replyTicks : Nat := 3993600
def roundTicks : Nat := 7987200

/-- The four intervals in 1/256 tick. -/
structure Intervals where
  ra : Int
  da : Int
  db : Int
  rb : Int
  deriving DecidableEq, Repr

/-- The intervals of a take: HEAD_FIX cancels, so it is left out of both ends. -/
def intervals (t : Take) (ch dbTok rbTok : Nat) : Intervals :=
  let tx := radiatedAt t.cal ch t.tPoll
  { ra := t.meas.tResp - tx, da := tx + (roundTicks : Int) * 256 - t.meas.tResp, db := (dbTok : Int) * 64, rb := (rbTok : Int) * 64 }

/-- Numerator and denominator of ToF. -/
def Intervals.num (i : Intervals) : Int := i.ra * i.rb - i.da * i.db
def Intervals.den (i : Intervals) : Nat := (i.ra + i.rb + i.da + i.db).toNat

/-- |ε| exceeds 40 ppm (R283). -/
def Intervals.clockOdd (i : Intervals) : Bool :=
  decide (40 * (i.ra + i.da) < 1000000 * (((i.db + i.rb) - (i.ra + i.da)).natAbs : Int))

/-- ToF lies below −16 ticks (R284). -/
def Intervals.negative (i : Intervals) : Bool := decide (i.num < -(16 * 256) * (i.den : Int))

/-- RANGE_MM = round(ToF × 18.767), 0 when ToF is negative. -/
def Intervals.rangeMm (i : Intervals) : Nat := if i.num < 0 then 0 else (nearDiv (i.num * 18767) (i.den * 256000)).toNat

/-- TOF in 1/256 tick, and CLK_OFS in 0.01 ppm. -/
def Intervals.tof (i : Intervals) : Int := openDiv i.num i.den
def Intervals.clkOfs (i : Intervals) : Int := openDiv (((i.db + i.rb) - (i.ra + i.da)) * 100000000) (i.ra + i.da).toNat

/-! ## Angle of arrival (R285 to R287) -/

/-- The head record of a bay. -/
def Geometry.head (g : Geometry) (hub b : Nat) : Option GeoHead := g.heads.find? (fun h => h.hub == hub && h.bay == b)

/-- The bay record of a bay. -/
def Geometry.bayRec (g : Geometry) (hub b : Nat) : Option GeoBay := g.bays.find? (fun h => h.hub == hub && h.bay == b)

/-- Spacings d_x and d_y, mm. -/
def GeoHead.spacing (h : GeoHead) : Nat × Nat :=
  ((nth 0 h.ant 3 - nth 0 h.ant 0).toNat, (nth 0 h.ant 10 - nth 0 h.ant 7).toNat)

/-- A phase difference wrapped into ±π, in 2π/65,536. -/
def wrapPhase (d : Int) : Int := (d + 32768) % 65536 - 32768

/-- λ in 0.01 mm. -/
def lambda (ch : Nat) : Int := if ch = 5 then 4620 else 3753

/-- Angle fields of a record. -/
structure Angles where
  valid : Bool := false
  az : Nat := 0x8000
  el : Nat := 0x8000
  deriving DecidableEq, Repr

/-- AOA_AZ and AOA_EL from the phases of the first-path taps. Every streamed antenna must have a first path, and the geometry give the
spacings. -/
def headAngles (g : Option GeoHead) (e : Option (List Byte)) (ch width : Nat) (ants : List (Option Nat)) (ph : List Nat) : Angles :=
  match g with
  | none => {}
  | some h =>
    let p := fun a => ((nth 0 ph a : Nat) : Int)
    let dx := h.spacing.1
    let dy := h.spacing.2
    let a := wrapPhase (p 1 - p 0 - pdoaX e ch) * lambda ch
    let k := 6553600
    if (streamed width).any (fun i => (nth none ants i).isNone) ∨ dx = 0 then {}
    else if width = 12 then
      if 105 * k * dx < 100 * a.natAbs then {} else { valid := true, az := (Config.arcsinUnits a (k * dx)).toNat, el := 0x8000 }
    else if dy = 0 then {}
    else
      let c := wrapPhase (p 3 - p 2 - pdoaY e ch) * lambda ch
      let n := (a * dy).natAbs ^ 2 + (c * dx).natAbs ^ 2
      let d := (k * dx * dy) ^ 2
      if 105 * k * dx < 100 * a.natAbs ∨ 105 * k * dy < 100 * c.natAbs ∨ 105 * d < 100 * n then {}
      else { valid := true, az := (Config.atan2Units (c * dx) (a * dy)).toNat, el := (Config.elevationUnits n d).toNat }

end Sys2Proof.Machine
end

