-- ==== Sys2Proof/Machine/Records.lean ====
section
/-! DEFINITION. The take record (R291), the rapid-exchange record (R317), their outcomes (R288, R316) and the result of TAKE (R543); sighting
packets (R67). -/

namespace Sys2Proof.Machine

def takeCode : TakeOutcome → Nat
  | .notRun => 0x09 | .stopped => 0x0A | .evidenceInvalid => 0x08 | .noResponse => 0x01 | .stsLow => 0x02 | .stsMismatch => 0x03
  | .noReport => 0x04 | .reportBad => 0x05 | .clockOdd => 0x06 | .negRange => 0x07 | .takeOk => 0x00

/-- The outcome a code names. -/
def takeOutcomeOf (n : Nat) : Option TakeOutcome :=
  [TakeOutcome.notRun, .stopped, .evidenceInvalid, .noResponse, .stsLow, .stsMismatch, .noReport, .reportBad, .clockOdd, .negRange, .takeOk].find?
    (fun o => takeCode o == n)

/-- The status a take outcome gives a host command (R288); `st` is the status of the rule that ended a NOT_RUN or STOPPED take. -/
def takeStatus (o : TakeOutcome) (st : Status) : Status :=
  match o with
  | .notRun => st | .stopped => st | .evidenceInvalid => .internal | .noResponse => .wrongState | .stsLow => .wrongState
  | .stsMismatch => .authFail | .noReport => .wrongState | .reportBad => .authFail | .clockOdd => .authFail | .negRange => .internal
  | .takeOk => .ok

def rapidCode : RapidOutcome → Nat
  | .notRun => 0x09 | .stopped => 0x0A | .evidenceInvalid => 0x08 | .periodShort => 0x0B | .suspect => 0x04 | .early => 0x03
  | .wrongBit => 0x02 | .noReply => 0x01 | .rapidOk => 0x00

def rapidStatus (o : RapidOutcome) (st : Status) : Status :=
  match o with
  | .notRun => st | .stopped => st | .evidenceInvalid => .internal | .periodShort => .wrongState | .suspect => .wrongState
  | .early => .authFail | .wrongBit => .authFail | .noReply => .wrongState | .rapidOk => .ok

/-- Sightings held of a take. -/
def Take.sights (t : Take) : List Listener := t.listeners.filter (fun l => l.state == 1)

def Take.ok (t : Take) : Bool := t.outcome == some .takeOk

/-- FLAGS of the take record. -/
def takeFlags (t : Take) (c : RangeCfg) (spc3 : Bool) : Nat :=
  flags [t.meas.suspect, t.meas.edge, t.meas.aoaValid, t.meas.axis1, t.rapid, spc3, c.uwbCh == 9]

/-- Session ID of a bay's open session, or 0. -/
def sessionId (s : Hub) (b : Nat) : Nat := ((s.bay b).sess.map (·.id)).getD 0

/-- TAKE_NO of a take; 0 for one that never was dispatched, to which R263 gives no number (DESIGN CHOICE, log entry 175). -/
def Take.number (t : Take) : Nat := if t.dispatched then t.takeNo else 0

/-- The take record of R291. -/
def takeRecord (s : Hub) (b : Nat) (t : Take) (d : Dialogue) : List Fld :=
  let m := t.meas
  [⟨0, 1, takeCode (t.outcome.getD .notRun)⟩, ⟨1, 1, takeFlags t d.cfg d.spc3⟩, ⟨2, 2, b⟩, ⟨4, 4, t.number⟩,
   ⟨8, 8, t.pollSent d.cfg.uwbCh⟩, ⟨27, 1, t.txAnt d.cfg⟩, ⟨28, 1, t.listeners.length⟩, ⟨29, 1, t.sights.length⟩, ⟨48, 8, sessionId s b⟩] ++
  (if t.ok then
    [⟨16, 4, unsigned 32 m.tof256⟩, ⟨20, 4, m.rangeMm⟩, ⟨24, 2, unsigned 16 m.clkOfs⟩, ⟨26, 1, m.fpq⟩, ⟨32, 8, m.toa⟩, ⟨40, 1, m.toaFrac⟩,
     ⟨42, 2, m.az⟩, ⟨44, 2, m.el⟩]
   else [⟨26, 1, m.fpq⟩, ⟨42, 2, 0x8000⟩, ⟨44, 2, 0x8000⟩])

/-- BOUND_MM of an exchange: the largest distance of the 32 rounds (R310). -/
def Rapid.bound (x : Rapid) : Option Nat := if x.outcome = some .rapidOk then some x.maxD else none

/-- The rapid-exchange record of R317. -/
def rapidRecord (s : Hub) (b : Nat) (x : Rapid) (d : Dialogue) : List Fld :=
  [⟨0, 1, rapidCode (x.outcome.getD .notRun)⟩, ⟨1, 1, flags [d.cfg.uwbCh == 9, x.reserved, x.repeated]⟩, ⟨2, 2, b⟩, ⟨4, 4, x.takeNo⟩,
   ⟨8, 8, if x.started then x.tStart else 0⟩, ⟨16, 1, d.rxPeriod⟩, ⟨17, 1, d.dTok.getD 0⟩, ⟨18, 1, x.round⟩,
   ⟨19, 1, x.failRound.getD 0xFF⟩, ⟨20, 4, x.bound.getD 0xFFFFFFFF⟩, ⟨24, 4, x.minD.getD 0xFFFFFFFF⟩, ⟨28, 4, x.chal⟩, ⟨32, 4, x.resp⟩,
   ⟨36, 1, x.minPq.getD 0⟩, ⟨37, 1, x.engine⟩, ⟨48, 8, sessionId s b⟩]

/-- The data of TAKE: both records, where the host gave room for them (R291, R317, R543). -/
def takeData (s : Hub) (b : Nat) (t : Take) (x : Option Rapid) (d : Dialogue) : List Byte :=
  if 128 ≤ t.room then
    render 64 (takeRecord s b t d) ++ (match x with
      | some x => render 64 (rapidRecord s b x d)
      | none => List.replicate 64 0)
  else []

def evalCode : TakeEval → Nat
  | .qualifying => 0 | .holding => 1 | .weak => 2 | .miss => 3 | .conflict => 4

def verdictCode : Verdict → Nat
  | .unseen => 0 | .candidate => 1 | .bound => 2 | .contested => 3 | .lost => 4

/-- The result of TAKE. -/
def takeResult (s : Hub) (b : Nat) (t : Take) (x : Option Rapid) (d : Dialogue) (e : TakeEval) (v : Verdict) : List Fld :=
  let ok := t.ok
  [⟨8, 1, takeCode (t.outcome.getD .notRun)⟩, ⟨9, 1, (x.map (fun x => rapidCode (x.outcome.getD .notRun))).getD 0xFF⟩,
   ⟨10, 1, takeFlags t d.cfg d.spc3⟩, ⟨11, 1, t.sights.length⟩, ⟨12, 4, t.number⟩, ⟨16, 4, if ok then t.meas.rangeMm else 0⟩,
   ⟨20, 4, (x.bind (·.bound)).getD 0xFFFFFFFF⟩, ⟨24, 2, if ok then t.meas.az else 0x8000⟩, ⟨26, 2, if ok then t.meas.el else 0x8000⟩,
   ⟨28, 1, t.meas.fpq⟩, ⟨29, 1, evalCode e⟩, ⟨30, 1, verdictCode v⟩, ⟨32, 8, t.pollSent d.cfg.uwbCh⟩, ⟨40, 8, sessionId s b⟩]

/-- The status TAKE completes with: that of the exchange where the take is TAKE_OK and one ran. -/
def takeFinal (t : Take) (x : Option Rapid) : Status :=
  let o := t.outcome.getD .notRun
  match t.ok, x with
  | true, some x => rapidStatus (x.outcome.getD .notRun) x.status
  | _, _ => takeStatus o t.status

/-! ## The sighting exchange network (R67, R68) -/

/-- Kinds of packet. -/
def ptListen : Nat := 1
def ptSighting : Nat := 2
def ptDecline : Nat := 3
def ptCancel : Nat := 4

/-- A packet by its fields, as layout rows of the 32 bytes. -/
structure Packet where
  ptype : Nat
  ownHub : Nat
  ownHandle : Nat
  lisHub : Nat
  lisBay : Nat
  sweep : Nat
  /-- Bits [202:139] to [89]: TOA, TOA_FRAC, AOA_AZ, AOA_EL, FPQ, FP_SUSPECT, AXIS1. -/
  toa : Nat := 0
  frac : Nat := 0
  az : Nat := 0
  el : Nat := 0
  fpq : Nat := 0
  suspect : Bool := false
  axis1 : Bool := false
  deriving DecidableEq, Repr

/-- The 256 bits of a packet. -/
def Packet.bits (p : Packet) : Nat :=
  atBit (p.ptype % 16) 252 + atBit (p.ownHub % 8) 249 + atBit (p.ownHandle % 2 ^ 20) 229 + atBit (p.lisHub % 8) 226 +
  atBit (p.lisBay % 128) 219 + atBit (p.sweep % 2 ^ 16) 203 + atBit (p.toa % 2 ^ 64) 139 + atBit (p.frac % 256) 131 +
  atBit (p.az % 2 ^ 16) 115 + atBit (p.el % 2 ^ 16) 99 + atBit (p.fpq % 256) 91 + atBit (b2n p.suspect) 90 + atBit (b2n p.axis1) 89

/-- A packet read from its 32 bytes. -/
def Packet.ofBytes (l : List Byte) : Packet :=
  let v := leNat (l.take 32)
  { ptype := Machine.bits v 255 252, ownHub := Machine.bits v 251 249, ownHandle := Machine.bits v 248 229, lisHub := Machine.bits v 228 226
    lisBay := Machine.bits v 225 219, sweep := Machine.bits v 218 203, toa := Machine.bits v 202 139, frac := Machine.bits v 138 131
    az := Machine.bits v 130 115, el := Machine.bits v 114 99, fpq := Machine.bits v 98 91, suspect := v.testBit 90, axis1 := v.testBit 89 }

/-- The hub a packet goes to (R351). -/
def Packet.dest (p : Packet) : Nat := if p.ptype = ptListen ∨ p.ptype = ptCancel then p.lisHub else p.ownHub

/-- The cascade side toward another hub, 0 lower and 1 upper. -/
def sideToward (s : Hub) (hub : Nat) : Nat := if hub < s.hubIndex then 0 else 1
def sideAt (s : Hub) (i : Nat) : Side := if i = 0 then s.casc.lower else s.casc.upper

/-- A packet leaves for a hub: on this hub the ring carries it, to another a data block of the side toward it (R349); beyond a side that is not UP it
is dropped (R351). -/
def sendPacket (p : Packet) (s : Hub) : Hub :=
  if p.dest = s.hubIndex then s.emit (.sight p.ptype (BitVec.ofNat 256 p.bits))
  else
    let i := sideToward s p.dest
    if (sideAt s i).state = .up then s.emit (.casc i (if (sideAt s i).standby then 1 else 0) (dataBlock p.bits)) else s

/-- Global handle of a queue (R14). -/
def handle (r q : Nat) : Nat := r * 131072 + q

end Sys2Proof.Machine
end

