-- ==== Sys2Proof/Machine/Dialog.lean ====
section
/-! DEFINITION. Bay states (R203), dialogues and their end, BIND_VERDICT (R347), and how takes and listens stop (R68, R70, R288). -/

namespace Sys2Proof.Machine

/-! ## The channel of a bay (R255) -/

/-- The ranging parameters a bay's bursts use: those in force when its class V token was engaged (R538), else the bay's own. -/
def burstCfg (s : Hub) (b : Nat) : RangeCfg := (((s.bay b).dlgV).map (·.cfg)).getD (s.bay b).range

/-- UWB_CHANNEL with the lower of TX_POWER and TX_CODE_MAX (R255); one that would break the limits is not sent (R153). -/
def sendChannel (b ch power : Nat) (s : Hub) : Hub :=
  let l := limits s
  let p := min power (if ch = 5 then l.max5 else l.max9)
  let s := setRadio b (fun r => { r with channel := ch, power := p }) s
  if l.channel ch p then cueNow b 0x13 (ch + p * 256) .radio s else regRefused b s

/-- The bay's own channel and power. -/
def ownChannel (b : Nat) (s : Hub) : Hub := sendChannel b (burstCfg s b).uwbCh (burstCfg s b).txPower s

/-- UWB_CHANNEL where the head has been given another channel or power (R255). -/
def needChannel (b : Nat) (s : Hub) : Hub :=
  let c := burstCfg s b
  let l := limits s
  let r := (s.bay b).radio
  if r.channel = c.uwbCh ∧ r.power = min c.txPower (if c.uwbCh = 5 then l.max5 else l.max9) then s else ownChannel b s

/-- A frame discarded for its mode (R253). -/
def countModeErr (b : Nat) (s : Hub) : Hub :=
  s.setBay b (fun x => { x with rangeCnt := { x.rangeCnt with uwbModeErr := satAdd x.rangeCnt.uwbModeErr 1 } })

/-! ## Bay state -/

/-- The bay enters WATCH: polling begins anew (R180, R186), the head is tuned and given its channel (R175, R255), WATCH_HOLD runs (R204). -/
def toWatch (b : Nat) (s : Hub) : Hub :=
  let s := s.setBay b (fun x =>
    { x with st := .watch
             poll := { x.poll with firstLf := true, firstHf := true, firstListen := true, baseline := none
                                   detuneTo := none, touchPending := false, wakePending := false, holdFrom := s.now } })
  ownChannel b (tuneCues b s)

/-- POLICY_OVERRIDE (R177): the policy the bay is run under. -/
def effectivePolicy (x : Bay) : IdlePolicy := if x.link.ident.hasCap then x.poll.cfg.policy else .continuous

/-- A detection at a bay (R199): its time is kept, and WATCH_HOLD restarts. -/
def detect (b : Nat) (s : Hub) : Hub :=
  setPoll b (fun p => { p with lastDetect := s.aon.rtc, darkFrom := s.aon.rtc, holdFrom := s.now }) s

/-- A polling item (R179): HOUSEKEEPING, and no calibration run. -/
def Item.isPoll (i : Item) : Bool := i.isHk && decide (i.what ≠ .calibrate)

/-- The polling items of a bay leave the call sheet. -/
def endPolling (b : Nat) (s : Hub) : Hub :=
  let r := regionOf b
  ((s.bayItems b).filter (fun i => i.isPoll)).foldl (fun s i => dropItem r i.q s) s

/-! ## Listens -/

/-- Who asked for a listen, for the packet that answers it. -/
def answerListen (ptype ownHub ownHandle sweep bay : Nat) (s : Hub) : Hub :=
  sendPacket { ptype := ptype, ownHub := ownHub, ownHandle := ownHandle, lisHub := s.hubIndex, lisBay := bay, sweep := sweep } s

/-- A listener's entry in the take of this hub that asked for it changes. -/
def noteListener (ownHandle sweep hub bay : Nat) (f : Listener → Listener) (s : Hub) : Hub :=
  let r := ownHandle / 131072
  let q := ownHandle % 131072
  forBays r (fun b s => s.setBay b (fun x =>
    match x.take with
    | some t =>
      if t.q = q ∧ t.takeNo % 65536 = sweep then
        { x with take := some { t with listeners := t.listeners.map (fun l => if l.hub = hub ∧ l.bay = bay then f l else l) } }
      else x
    | none => x)) s

/-- A listen ends in a decline (R68). -/
def declineListen (l : ListenReq) (s : Hub) : Hub :=
  let r := regionOf l.bay
  let s := s.setRegion r (fun x => { x with listens := x.listens.filter (· ≠ l) })
  let s := (s.items r).foldl (fun s i =>
    if i.what = .listen l.ownHub l.ownHandle ∧ i.bay = l.bay then dropItem r i.q s else s) s
  let s := s.setBay l.bay (fun x => { x with rangeCnt := { x.rangeCnt with listenDeclined := satAdd x.rangeCnt.listenDeclined 1 } })
  let s := answerListen ptDecline l.ownHub l.ownHandle l.sweep l.bay s
  if l.ownHub = s.hubIndex then
    noteListener l.ownHandle l.sweep s.hubIndex l.bay (fun x => if x.state = 0 then { x with state := 2 } else x) s
  else s

/-- Every listen of a bay ends in a decline. -/
def declineBay (b : Nat) (s : Hub) : Hub :=
  ((s.region (regionOf b)).listens.filter (fun l => l.bay == b)).foldl (fun s l => declineListen l s) s

/-- A listen of this hub receives a cancel (R70): it ends without running unless it has started. -/
def cancelListen (ownHub ownHandle bay : Nat) (s : Hub) : Hub :=
  let r := regionOf bay
  match (s.items r).find? (fun i => decide (i.what = .listen ownHub ownHandle) && i.bay == bay) with
  | none => s
  | some i =>
    if i.granted && decide (i.start ≤ s.slot) then s
    else
      dropItem r i.q (s.setRegion r (fun x =>
        { x with listens := x.listens.filter (fun l => !(l.ownHub == ownHub && l.ownHandle == ownHandle && l.bay == bay)) }))

/-- A take that ends without completing cancels every listen it asked for (R70). -/
def cancelListens (b : Nat) (t : Take) (s : Hub) : Hub :=
  let h := handle (regionOf b) t.q
  t.listeners.foldl (fun s l =>
    let s := sendPacket { ptype := ptCancel, ownHub := s.hubIndex, ownHandle := h, lisHub := l.hub, lisBay := l.bay, sweep := t.takeNo % 65536 } s
    if l.hub = s.hubIndex then cancelListen s.hubIndex h l.bay s else s) s

/-! ## Dialogues -/

def Bay.dlg (x : Bay) : TokenClass → Option Dialogue
  | .v => x.dlgV | .c => x.dlgC | .f => x.dlgF

def Bay.setDlg (x : Bay) (k : TokenClass) (d : Option Dialogue) : Bay :=
  match k with
  | .v => { x with dlgV := d }
  | .c => { x with dlgC := d }
  | .f => { x with dlgF := d }

def modDlg (b : Nat) (k : TokenClass) (f : Dialogue → Dialogue) (s : Hub) : Hub :=
  s.setBay b (fun x => x.setDlg k ((x.dlg k).map f))

def reasonCode : BindReason → Nat
  | .none_ => 0x00 | .takesAgree => 0x01 | .lowMass => 0x02 | .competitor => 0x03 | .authenticity => 0x04 | .overBound => 0x05
  | .misses => 0x06 | .tokenElsewhere => 0x07 | .chainBroken => 0x08 | .uncalibrated => 0x09 | .rapidRequired => 0x0A
  | .listenersDisagree => 0x0B | .tap => 0x0C | .fob => 0x0D | .dialogueEnd => 0x0E | .noGeometry => 0x0F

/-- FLAGS of a BIND_VERDICT: class, REQUIRE_V pending, uncalibrated, and those of the evaluation (bits 2 to 4). -/
def bindFlags (s : Hub) (b : Nat) (k : TokenClass) (d : Dialogue) (ev : Nat) : Nat :=
  flags [k == .c, k == .f] + (ev % 32 / 4) * 4 + 2 ^ 5 * b2n d.requireV + 2 ^ 6 * b2n (!calibrated s b)

/-- BIND_VERDICT (R347). -/
def bindNotice (b : Nat) (k : TokenClass) (d : Dialogue) (new old : Verdict) (why : BindReason) (takeNo : Nat) (ev : BindEvidence)
    (s : Hub) : Hub :=
  let f := ev.fix
  notice 0x0104 b
    ([⟨16, 1, verdictCode new⟩, ⟨17, 1, verdictCode old⟩, ⟨18, 1, reasonCode why⟩, ⟨19, 1, bindFlags s b k d ev.flags⟩,
      ⟨20, 4, d.slot⟩, ⟨24, 4, takeNo⟩, ⟨54, 4, ev.boundMm.getD 0xFFFFFFFF⟩] ++
     (if f.ok then
       [⟨28, 2, f.pOwn⟩, ⟨30, 2, f.pComp⟩, ⟨32, 2, f.compBay⟩, ⟨34, 1, f.nsight⟩, ⟨35, 1, f.nrej⟩, ⟨36, 4, unsigned 32 f.x⟩,
        ⟨40, 4, unsigned 32 f.y⟩, ⟨44, 4, unsigned 32 f.z⟩, ⟨48, 2, f.sigMaj⟩, ⟨50, 2, f.sigMin⟩, ⟨52, 2, f.axis⟩]
      else [⟨32, 2, 0xFFFF⟩])) s

/-- A dialogue's verdict becomes `v`: the notice is posted at a change. -/
def setVerdict (b : Nat) (k : TokenClass) (v : Verdict) (why : BindReason) (takeNo : Nat) (ev : BindEvidence) (s : Hub) : Hub :=
  match (s.bay b).dlg k with
  | none => s
  | some d =>
    if d.verdict = v then s
    else
      let d2 := { d with verdict := v, since := s.now, everBound := d.everBound || decide (v = .bound)
                         bindEv := if v = .bound then { ev with reason := why, flags := bindFlags s b k d ev.flags } else d.bindEv }
      bindNotice b k d2 v d.verdict why takeNo ev (s.setBay b (fun x => x.setDlg k (some d2)))

/-- Kinds of item that belong to a dialogue of a class. -/
def Item.ofDialogue (i : Item) (k : TokenClass) : Bool :=
  match i.what with
  | .authPass => i.tclass == classNo k
  | .take => decide (k = .v)
  | .rapid => decide (k = .v)
  | .lfTelegram => false | .hfPing => false | .hfPoll => false | .listenFree => false | .listenLinked _ => false | .calibrate => false
  | .measure _ => false | .listen _ _ => false | .meterReq => false | .tagTxn => false

/-- The outcomes of a take and of an exchange given up with a status (R288, R316): STOPPED by a region that leaves service; EVIDENCE_INVALID where the
step under way ends INTERNAL; NOT_RUN otherwise (log entry 176). -/
def abandonedTake (st : Status) (t : Take) : TakeOutcome :=
  if st = .regionQuarantined then .stopped else if st = .internal ∧ t.dispatched then .evidenceInvalid else .notRun
def abandonedRapid (st : Status) (x : Rapid) : RapidOutcome :=
  if st = .regionQuarantined then .stopped else if st = .internal ∧ x.started then .evidenceInvalid else .notRun

/-- The take of a bay and its exchange are given up with a status; a host command that ran it completes with it and the records (R288, R317). -/
def abandonTake (b : Nat) (st : Status) (s : Hub) : Hub :=
  match (s.bay b).take with
  | none => s.setBay b (fun x => { x with rapid := none })
  | some t =>
    let t2 : Take := if t.outcome.isSome then t else { t with outcome := some (abandonedTake st t), status := st }
    let x := (s.bay b).rapid.map (fun x => if x.outcome.isSome then x else { x with outcome := some (abandonedRapid st x), status := st })
    let d := ((s.bay b).dlgV).getD { token := 0, slot := 0, auth := { phase := .done } }
    let s := cancelListens b t s
    let s := s.setBay b (fun x => { x with take := none, rapid := none })
    match t.ref with
    | some c => finish c st (takeResult s b t2 x d .miss d.verdict) (takeData s b t2 x d) s
    | none => s

/-- A dialogue ends (R335, R337, R397): its items leave, its verdict goes to UNSEEN with a notice, its SK is erased with it, and an ENGAGED
bay without another dialogue returns to WATCH. -/
def endDialogue (b : Nat) (k : TokenClass) (why : BindReason) (s : Hub) : Hub :=
  match (s.bay b).dlg k with
  | none => s
  | some _ =>
    let r := regionOf b
    let s := ((s.bayItems b).filter (fun i => i.ofDialogue k)).foldl (fun s i => dropItem r i.q s) s
    let s := if k = .v then abandonTake b .internal s else s
    let s := setVerdict b k .unseen why 0 {} s
    let s := s.setBay b (fun x => x.setDlg k none)
    if (s.bay b).st = .engaged ∧ (s.bay b).dialogues = [] then toWatch b s else s

/-- Every dialogue of a bay ends. -/
def endDialogues (b : Nat) (why : BindReason) (s : Hub) : Hub :=
  endDialogue b .f why (endDialogue b .c why (endDialogue b .v why s))

/-- A dialogue is the session's own: its token's slot is one the open session rests on. -/
def inSession (x : Bay) (d : Dialogue) : Bool :=
  match x.sess with
  | some y => y.slots.contains d.slot
  | none => false

/-- The dialogues of a bay that no open session rests on end. -/
def endFreeDialogues (b : Nat) (why : BindReason) (s : Hub) : Hub :=
  [TokenClass.v, .c, .f].foldl (fun s k =>
    match (s.bay b).dlg k with
    | some d => if inSession (s.bay b) d then s else endDialogue b k why s
    | none => s) s

end Sys2Proof.Machine
end

