-- ==== Sys2Proof/Machine/Uwb.lean ====
section
/-! DEFINITION. UWB bursts: the length and pulses of a frame (R252, R154; symbol counts of the IEEE 802.15.4 BPRF mode, assumption log),
staging (R143 to R145), and the cues that bring a chain to RX and back (R126, R142). -/

namespace Sys2Proof.Machine

/-! ## Frames -/

/-- Chips of 64 preamble symbols and the 8-symbol SFD. -/
def shrChips : Nat := 72 * 508

/-- Ticks from a frame's first chip to its RMARKER: 73.3 µs. -/
def shrTicks : Nat := shrChips * 32

/-- Symbols of a payload of `n` bytes with its 2-byte FCS, Reed-Solomon coded in blocks of 330 bits. -/
def payloadSymbols (n : Nat) : Nat :=
  let k := 8 * (n + 2)
  k + 48 * ((k + 329) / 330)

/-- Chips of a frame with `units` STS units (0: no STS) and, where it has a PHR, a payload of `n` bytes at 6.8 Mbit/s. -/
def frameChips (units : Nat) (phr : Bool) (n : Nat) : Nat :=
  shrChips + (if units = 0 then 0 else 512 * (units + 1)) + (if phr then 21 * 512 + 64 * payloadSymbols n else 0)

/-- Pulses of such a frame: 64 per preamble or SFD symbol, per STS unit and per PHR symbol, 8 per payload symbol. -/
def framePulses (units : Nat) (phr : Bool) (n : Nat) : Nat :=
  72 * 64 + 64 * units + (if phr then 21 * 64 + 8 * payloadSymbols n else 0)

/-- Slate periods a run of `chips` from tick `first` touches. -/
def slatesOf (first chips : Nat) : Nat := (first % slateTicks / 32 + chips + 31) / 32

/-- STS chips the staging buffer holds (R143). -/
def stagingChips : Nat := 65536

/-- WIN of a burst (R141): 0 for every ranging message that enters a time of flight, otherwise 10 µs. -/
def burstWin : BurstKind → Nat
  | .auth => 156 | .setup => 156 | .poll => 0 | .final => 0 | .challenge _ => 0

/-- The preamble code of a burst: 9 for AUTH1, otherwise the bay's PCODE (R257, R390). -/
def burstCode (s : Hub) (b : Nat) (k : BurstKind) (payload : List Byte) : Nat :=
  if k = .auth ∧ payload.head? = some 0x11 then 9 else (burstCfg s b).pcode

/-- The STS of a take's POLL or FINAL (R261, R262): K_STS, and the first counter block for m = 0 or 2. -/
def stsOf (s : Hub) (b : Nat) (k : BurstKind) : BitVec 128 × BitVec 128 :=
  match (s.bay b).take, (s.bay b).dlgV with
  | some t, some d =>
    let m := if k = .final then 2 else 0
    (kSts (d.sk.getD 0) b t.takeNo, BitVec.ofNat 128 (stsStart (vSts (d.sk.getD 0) b t.takeNo) m))
  | _, _ => (0, 0)

/-- The calibration entry of a bay's take (R785). -/
def takeCal (s : Hub) (b : Nat) : Option (List Byte) := (s.bay b).take.bind (·.cal)

/-- A burst whose RMARKER is radiated at tick `rm`; the crypto cluster has written its STS chips where an AES lane works (R145). A frame of a take
leaves GD_TX earlier (R265, R278). -/
def mkBurst (s : Hub) (b q : Nat) (k : BurstKind) (rm units : Nat) (phr : Bool) (payload : List Byte) (bytes : Nat) : Burst :=
  let first := (if k = .auth then rm else chipAt (takeCal s b) (burstCfg s b).uwbCh rm) - shrTicks
  let chips := frameChips units phr bytes
  let sts := stsOf s b k
  { kind := k, q := q, payload := payload, phr := phr, bytes := bytes, pcode := burstCode s b k payload, first := first, slates := slatesOf first chips
    pulses := framePulses units phr bytes, stsKey := sts.1, stsCtr := sts.2
    stsChips := units * 512, stsReady := if 0 < (s.region (regionOf b)).aesLanes then units * 512 else 0, desc := true
    antenna := txAntenna s.pwr.profile (burstCfg s b).txAnt, backToRx := true, win := burstWin k }

/-- The pulse of a burst at its chip n (R90, R252): preamble and SFD, the STS with a pulse at every eighth chip and its gap, PHR and payload. -/
def burstPulse (u : Burst) (n : Nat) : Option Bool :=
  let k := n - shrChips
  let sts := if u.stsChips = 0 then 0 else u.stsChips + 512
  if n < shrChips then Config.hrpPulse u.pcode u.payload n
  else if k < sts then (if k < u.stsChips ∧ k % 8 = 0 then some (stsPulse u.stsKey u.stsCtr (k / 8)) else none)
  else if u.phr then Config.hrpPulse u.pcode u.payload (n - sts)
  else none

/-- The chip code of a burst at a clapper tick; outside the burst there is no pulse. -/
def burstChip (u : Burst) (t : Nat) : Nat :=
  if t < u.first then 0
  else
    let n := (t - u.first) / 32
    if u.chips = [] then chipCode (burstPulse u n) else nth 0 u.chips n

/-- The UWB field of a slate from tick `t` (R89, R90): 32 chips, chip 0 highest. -/
def uwbField (f : Nat → Nat) (t : Nat) : Nat := (List.range 32).foldl (fun a k => 4 * a + f (t + 32 * k)) 0

/-- Pulses of a burst by the start of each symbol, in order (R154): preamble and SFD symbols, STS units after their gap, PHR symbols, and the
payload eight symbols at a time. -/
def burstSegs (u : Burst) : List (Nat × Nat) :=
  if u.chips ≠ [] then [(u.first, u.chips.length)]
  else
    let at_ := fun (n : Nat) => u.first + 32 * n
    let sts := if u.stsChips = 0 then 0 else u.stsChips + 512
    let phr := shrChips + sts
    let n := payloadSymbols u.bytes
    (List.range 72).map (fun k => (at_ (508 * k), 64)) ++ (List.range (u.stsChips / 512)).map (fun k => (at_ (shrChips + 512 * k), 64)) ++
      (if u.phr then (List.range 21).map (fun k => (at_ (phr + 512 * k), 64)) ++
        (List.range ((n + 7) / 8)).map (fun k => (at_ (phr + 21 * 512 + 512 * k), min 64 (8 * (n - 8 * k)))) else [])

/-- A burst keeps the channel, power, burst length, pulse and frame limits (R153, R154), reckoned at its EXEC. -/
def burstAllowed (l : Limits) (r : Radio) (u : Burst) : Bool :=
  l.channel r.channel r.power && decide (u.slates ≤ l.burst) && pulsesAllowed l r (burstSegs u) && framesAllowed l r u.first 1

/-- A burst enters the windowed counts. -/
def Radio.countBurst (r : Radio) (u : Burst) : Radio :=
  { r with pulseLog := (burstSegs u).reverse ++ r.pulseLog.filter (fun p => decide (u.first < p.1 + ticksUs 2000))
           frameLog := u.first :: r.frameLog.filter (fun p => decide (u.first < p + ticksUs 1000000)) }

/-- A challenge of a rapid exchange, its first chip radiated at tick `at_`: 64 chips, each a pulse (R301, R305). -/
def mkChallenge (s : Hub) (b q i at_ : Nat) : Burst :=
  let first := chipAt (takeCal s b) (burstCfg s b).uwbCh at_
  let chips := match (s.bay b).rapid, (s.bay b).dlgV with
    | some x, some d => challengeChips (kRapid (d.sk.getD 0) b x.takeNo) i (x.chal.testBit i)
    | _, _ => []
  { chips := chips, kind := .challenge i, q := q, pcode := (burstCfg s b).pcode, first := first, slates := slatesOf first 64, pulses := 64, stsChips := 0, stsReady := 0, desc := true
    antenna := txAntenna s.pwr.profile (burstCfg s b).txAnt, backToRx := true, win := 0 }

/-- A burst goes into the staging buffer; one whose STS chips exceed it is refused (R143): whether it was taken. -/
def stage (b : Nat) (u : Burst) (s : Hub) : Bool × Hub :=
  if stagingChips < u.stsChips then (false, s) else (true, setRadio b (fun r => { r with staged := some u }) s)

/-- A staged burst of an item that has ended leaves the buffer. -/
def unstage (b q : Nat) (s : Hub) : Hub :=
  setRadio b (fun r => { r with staged := match r.staged with
    | some u => if u.q = q then none else some u
    | none => none }) s

/-! ## Cues of the UWB chain -/

/-- UWB_RX on the streamed antennas, so that the chain has locked before the first chip of the step (R142). -/
def sendRx (b at_ q : Nat) (s : Hub) : Hub :=
  let mask := if s.pwr.profile = leanProfile then 3 else 15
  cueAt b 0x15 mask at_ 0 .radio (some q) s

/-- RF_STANDBY; a channel or power that has changed goes out with it (R255). -/
def sendStandby (b : Nat) (s : Hub) : Hub := needChannel b (cueNow b 0x12 0 .radio s)

/-- A chain that is not in RX is brought there at the start of a slot, from OFF and SLEEP through STANDBY (R130, R142, R202). -/
def toRx (b q : Nat) (s : Hub) : Hub :=
  let c := (s.bay b).radio.copy
  if c = .rx then s
  else sendRx b ((s.slot * slotTicks) + ticksUs 5) q (if c = .off ∨ c = .sleep then sendStandby b s else s)

/-! ## Emission (R150, R153) -/

/-- A step or command ends with RADIO_BUSY. -/
def radioBusyCount (b : Nat) (s : Hub) : Hub :=
  setRadio b (fun r => { r with cnt := { r.cnt with radioBusy := satAdd r.cnt.radioBusy 1 } }) s

end Sys2Proof.Machine
end

