-- ==== Sys2Proof/Machine/Wrap.lean ====
section
/-! DEFINITION. The course of a session between its opening and its seal (R20 to R26, R424, R425, R436 to R445, R462, R463, R548): wrap triggers,
the wrap, meter requests, and the end of an authorisation. Requests to the commit engine go into its queue; COMMIT_BURST serves them. -/

namespace Sys2Proof.Machine

def setSess (b : Nat) (f : Session → Session) (s : Hub) : Hub := s.setBay b (fun x => { x with sess := x.sess.map f })

/-- A request to the commit engine. -/
def request (w : NvWhat) (s : Hub) : Hub := s.setEng (fun e => { e with queue := e.queue ++ [w] })

/-! ## Causes (R456) -/

def cHostWrap : Nat := 0
def cTokenLost : Nat := 1
def cUnplug : Nat := 2
def cBayFault : Nat := 3
def cRegionFault : Nat := 4
def cChipFault : Nat := 5
def cRevoked : Nat := 6
def cMainLost : Nat := 7
def cBusOff : Nat := 8
def cRelSeq : Nat := 9

/-- Causes that are fault triggers. A sequence that has stalled wraps as a fault does, but can send no cut (R418, R425). -/
def isFault (c : Nat) : Bool := c == 3 || c == 4 || c == 5 || c == 8

/-- The bay shows CHARGING or WRAPPING by its session, wherever its link stands (R619, R620). -/
def Session.charging (x : Session) : Bool := x.phase == .charging
def Session.wrapping (x : Session) : Bool :=
  match x.phase with
  | .holding => true | .cutting => true | .ending => true | .sealing => true
  | .opening => false | .reading => false | .starting => false | .permitted => false | .charging => false | .aborting => false

/-- Before the first RELEASE (R548). -/
def Session.authorizing (x : Session) : Bool :=
  match x.phase with
  | .opening => true | .reading => true | .starting => true | .permitted => true
  | .charging => false | .holding => false | .cutting => false | .ending => false | .sealing => false | .aborting => false

def isCharging (s : Hub) (b : Nat) : Bool := ((s.bay b).sess.map (·.charging)).getD false
def isWrapping (s : Hub) (b : Nat) : Bool := ((s.bay b).sess.map (·.wrapping)).getD false
def isAuthorizing (s : Hub) (b : Nat) : Bool := ((s.bay b).sess.map (·.authorizing)).getD false

/-- Bays of a region CHARGING or WRAPPING. -/
def liveBays (s : Hub) (r : Nat) : List Nat := (baysOf r).filter (fun b => isCharging s b || isWrapping s b)

/-- Is the release of the bay's remaining wrap held back: the supervisor owns it, or its region is not running (R444, R445)? -/
def wrapHeld (s : Hub) (b : Nat) : Bool :=
  let x := s.region (regionOf b)
  (s.rel b).supervisor || (decide (x.st = .quarantined) && !handing x)

/-! ## The seal -/

/-- The seal is asked for (R462); with an end reading, METER_END goes in the same burst. -/
def requestSeal (b : Nat) (s : Hub) : Hub := request (.seal b) (setSess b (fun x => { x with phase := .sealing }) s)

/-! ## Meter requests (R437 to R443, R554, R735) -/

def kindCode : MeterKind → Nat
  | .start => 0 | .end_ => 1 | .spot => 2 | .periodic => 3

/-- NONCE_H of an attempt: from the DRBG; for an END while the RNG is unavailable, from the reserve (R735). -/
def meterNonce (k : MeterKind) (s : Hub) : Option Nat × Hub :=
  match drawRandom 8 s with
  | some (n, s) => (some n, s)
  | none =>
    if k = .end_ ∧ s.rng.serves = false then
      match s.rng.reserve with
      | n :: r => (some n, s.setRng (fun g => { g with reserve := r }))
      | [] => (none, s)
    else (none, s)

/-- The release bus exchange item of one attempt (R49, R439). -/
def meterItem (b attempt : Nat) (ref : Option CmdRef) (s : Hub) : Item :=
  { q := 0, kind := .releaseIo, cls := .auth, bay := b, what := .meterReq, earliest := s.slot, latest := s.slot + 5, order := s.slot,
    ref := ref, session := sessionId s b, retries := attempt - 1
    hostTag := ((ref <|> ((s.bay b).sess.bind (·.ref))).map (·.tag)).getD 0 }

/-- The item of a meter request leaves the call sheet. -/
def dropMeterItem (b : Nat) (s : Hub) : Hub :=
  ((s.bayItems b).filter (fun i => decide (i.what = .meterReq))).foldl (fun s i => dropItem (regionOf b) i.q s) s

/-- One attempt of a request: a fresh nonce and an item; whether it got a queue. -/
def meterAttempt (b : Nat) (q : MeterReq) (s : Hub) : Bool × Hub :=
  let n := meterNonce q.kind s
  match n.1 with
  | none => (false, setRel b (fun r => { r with req := some q }) n.2)
  | some v =>
    let s := dropMeterItem b (setRel b (fun r => { r with req := some { q with nonce := v, deadline := 0 } }) n.2)
    let e := enqueue (q.kind != .spot) (meterItem b q.attempt q.ref s) s
    (e.1.isSome, e.2)

/-! ## The end of an authorisation -/

/-- The dialogues a session rests on start their ENGAGE_LIMIT anew (R547). -/
def restartLimits (b : Nat) (slots : List Nat) (s : Hub) : Hub :=
  s.setBay b (fun x =>
    let f := fun (d : Dialogue) => if slots.contains d.slot then { d with limitFrom := some s.now } else d
    { x with dlgV := x.dlgV.map f, dlgC := x.dlgC.map f, dlgF := x.dlgF.map f })

/-- The result of a SESSION_WRAP: the new bay state (R550). -/
def bayStateCode : BayState → Nat
  | .offline => 0 | .idle => 1 | .dark => 2 | .watch => 3 | .engaged => 4 | .charging => 5 | .wrapping => 6 | .fault => 7

def wrapResult (s : Hub) (b : Nat) : List Fld := [⟨8, 1, bayStateCode (s.bay b).st⟩]

/-- A wrap trigger waits at its bay, behind what was held before it (R444, R548, R640). -/
def holdTrigger (b cause : Nat) (s : Hub) : Hub :=
  s.setBay b (fun x => { x with held := x.held ++ [{ kind := 4, cls := cause, ref := none }] })

/-- SESSION_WRAPs held at a bay complete OK. -/
def finishHeldWraps (b : Nat) (s : Hub) : Hub :=
  let l := (s.bay b).held.filter (fun h => h.kind == 0)
  let s := s.setBay b (fun x => { x with held := [] })
  l.foldl (fun s h => finishOpt h.ref .ok (wrapResult s b) s) s

/-- An authorisation ends before its first RELEASE with a status (R21, R463, R546 to R548): a session that SESSION_OPEN has named closes as
OPEN_ABORTED; the dialogue goes on; a host wrap held till now acts as in ENGAGED. -/
def abortAuth (b : Nat) (st : Status) (s : Hub) : Hub :=
  match (s.bay b).sess with
  | none => s
  | some x =>
    if !x.authorizing then s
    else
      let s := s.setEng (fun e => { e with queue := e.queue.filter (fun w => match w with
        | .sessOpen k => k != b
        | .meterStart k _ => k != b
        | _ => true) })
      let s := dropMeterItem b (setRel b (fun r => { r with req := none, meterA := none }) s)
      let s := finishOpt x.ref st [] s
      let s := if x.opened then setSess b (fun y => { y with phase := .aborting, ref := none }) s
        else s.setBay b (fun y => { y with sess := none })
      let s := restartLimits b x.slots s
      let s := if x.opened && !s.eng.mainLost then request (.interrupted b 2) s else s
      if (s.bay b).held.any (fun h => h.kind == 0) then finishHeldWraps b (endFreeDialogues b .dialogueEnd s)
      else s.setBay b (fun y => { y with held := [] })

/-- A request has had its three attempts, or cannot be made (R44, R441, R443, R554, R735). -/
def meterGiveUp (b : Nat) (q : MeterReq) (st : Status) (s : Hub) : Hub :=
  let s := dropMeterItem b (setRel b (fun r => { r with req := none }) s)
  match q.kind with
  | .start => abortAuth b st s
  | .end_ => requestSeal b s
  | .spot => finishOpt q.ref st [] s
  | .periodic => s

/-- An attempt is made. While the bay's region plans nothing, or its nonce waits for a reseed, the request waits (R625, R637, R728). Without a queue
it is not started: a host's ends NO_RESOURCE, one of the hub's own is dropped and counted (R44). -/
def meterTry (b : Nat) (q : MeterReq) (s : Hub) : Hub :=
  if 3 < q.attempt then meterGiveUp b q (if q.badSig then .authFail else .wrongState) s
  else if !bayPlans s b then setRel b (fun r => { r with req := some { q with deadline := 0 } }) (dropMeterItem b s)
  else if (meterNonce q.kind s).1.isNone then
    if s.rng.serves then drawLater (.nonce b) (setRel b (fun r => { r with req := some { q with deadline := 0 } }) (dropMeterItem b s))
    else meterGiveUp b q .rngUnavailable s
  else
    let a := meterAttempt b q s
    if a.1 then a.2
    else if q.kind = .spot then meterGiveUp b q .noResource a.2
    else meterGiveUp b q .wrongState (countRefused b a.2)

/-- A meter request begins. -/
def startMeter (b : Nat) (k : MeterKind) (ref : Option CmdRef) (room : Nat) (s : Hub) : Hub :=
  meterTry b { kind := k, nonce := 0, deadline := 0, ref := ref, room := room } s

/-- An attempt has failed: the next one, or the end of the request (R439). -/
def meterFailed (b : Nat) (s : Hub) : Hub :=
  match (s.rel b).req with
  | none => s
  | some q => meterTry b { q with attempt := q.attempt + 1 } s

/-- A request that waited for its region goes on (R625, R639). -/
def resumeMeter (b : Nat) (s : Hub) : Hub :=
  match (s.rel b).req with
  | some q => if q.deadline = 0 ∧ (s.bayItems b).all (fun i => decide (i.what ≠ .meterReq)) then meterTry b q s else s
  | none => s

/-! ## The wrap -/

/-- The end reading is asked for (R425, R443); while the controller is stopped with the CPLL, the wrap goes straight to its seal (R658). -/
def endReading (b : Nat) (s : Hub) : Hub :=
  if s.clk.cpll.coast || s.eng.mainLost then requestSeal b s
  else if (s.rel b).req.isSome then s
  else startMeter b .end_ none 0 (setSess b (fun x => { x with phase := .ending }) s)

/-- The release has been cut in the wrap: its end reading waits for APPLIED = CUT or three intervals. -/
def enterCutting (b : Nat) (s : Hub) : Hub := setSess b (fun x => { x with phase := .cutting, cutIntervals := 0 }) s

/-- The queued takes and exchanges of a bay whose continuity stops (R338). -/
def stopContinuity (b : Nat) (s : Hub) : Hub :=
  let r := regionOf b
  let s := ((s.bayItems b).filter (fun i => !i.granted && i.ofDialogue .v)).foldl (fun s i => dropItem r i.q s) s
  let s := match (s.bay b).take with
    | some t => if t.stage = .planned then abandonTake b .wrongState s else s
    | none => s
  modDlg b .v (fun d => { d with nextDue := none }) s

/-- A wrap begins (R25, R424): with HOLD from the next boundary, or with a safety cut at once. -/
def beginWrap (b cause : Nat) (cut : Bool) (s : Hub) (rc : RelCause := .safetyCut) : Hub :=
  let s := s.setBay b (fun x => { x with st := if x.st = .charging then .wrapping else x.st })
  let s := setSess b (fun x =>
    { x with phase := .holding, holdAt := none, cutDue := false, holdTime := (s.rel b).cfg.holdTime, causes := x.causes ||| 2 ^ cause, firstCause := cause }) s
  let s := stopContinuity b s
  if s.clk.cpll.coast then requestSeal b s
  else if cut then enterCutting b (setSess b (fun x => { x with safetyCut := true }) (safetyCut b rc s))
  else setRel b (fun r => { r with want := .hold, cause := .wrap }) s

/-- A cause is added to a running wrap; a fault cuts at once (R26). -/
def addCause (b cause : Nat) (s : Hub) (rc : RelCause := .safetyCut) : Hub :=
  let held := ((s.bay b).sess.map (fun x => x.phase == .holding)).getD false
  let was := (s.rel b).state
  let s := setSess b (fun x => { x with causes := x.causes ||| 2 ^ cause }) s
  if isFault cause then
    let s := safetyCut b rc s
    let s := if was ≠ .cut then setSess b (fun x => { x with safetyCut := true }) s else s
    if held then enterCutting b s else s
  else s

/-- A wrap trigger at a bay (R24, R26, R424, R444, R548). -/
def trigger (b cause : Nat) (s : Hub) : Hub :=
  match (s.bay b).sess with
  | none => s
  | some x =>
    if x.authorizing then
      if isFault cause || cause = cRelSeq then abortAuth b .wrongState s
      else holdTrigger b cause s
    else if x.charging then
      if (s.rel b).supervisor then
        if isFault cause || cause = cUnplug then beginWrap b cause true s
        else if cause = cRelSeq then beginWrap b cause false s
        else holdTrigger b cause s
      else beginWrap b cause (isFault cause && (s.rel b).cfg.faultRelease == .cutAtOnce) s
    else if x.wrapping then addCause b cause s
    else s

/-- A held command or trigger takes effect (R444, R548, R551). -/
def heldCommand (b : Nat) (h : HeldCmd) (s : Hub) : Hub :=
  if h.kind = 0 then
    let s := trigger b cHostWrap s
    finishOpt h.ref .ok (wrapResult s b) s
  else if h.kind = 4 then trigger b h.cls s
  else
    let s :=
      if !isCharging s b then s
      else if h.kind = 1 then setRel b (fun r => { r with want := .hold, cause := .hostHold }) s
      else if h.kind = 2 then setRel b (fun r => { r with want := .release, cause := .hostResume }) s
      else setRel b (fun r => { r with cls := h.cls }) s
    finishOpt h.ref .ok [] s

/-- What was held at a bay takes effect in the order in which it arrived (R548, R640): the first trigger begins the wrap, and the others add
their causes. -/
def releaseHeld (b : Nat) (s : Hub) : Hub :=
  let l := (s.bay b).held
  l.foldl (fun s h => heldCommand b h s) (s.setBay b (fun x => { x with held := [] }))

/-- A safety cut that the host commands (R552): a CHARGING bay's wrap begins with cause host wrap and without HOLD. -/
def hostSafetyCut (b : Nat) (s : Hub) : Hub :=
  match (s.bay b).sess with
  | none => safetyCut b .safetyCut s
  | some x =>
    if x.charging then beginWrap b cHostWrap true s
    else if x.wrapping then
      let was := (s.rel b).state
      let s := safetyCut b .safetyCut s
      let s := if was ≠ .cut then setSess b (fun y => { y with safetyCut := true }) s else s
      if x.phase = .holding then enterCutting b s else s
    else safetyCut b .safetyCut s

/-! ## Closing a session -/

/-- A credential slot in SRAM, and its change. -/
def Hub.cred (s : Hub) (i : Nat) : Cred := Tab.get {} s.creds.slots i
def setCred (i : Nat) (f : Cred → Cred) (s : Hub) : Hub :=
  { s with creds := { s.creds with slots := Tab.put {} i (f (s.cred i)) s.creds.slots } }

/-- What a switch of a bulk load makes of a slot (R383, R386): a token that stays keeps what the hub moved meanwhile; a slot that is freed
while its session is open is RETIRING. -/
def mergeSlot (old new : Cred) : Cred :=
  if !new.valid then (if old.valid ∧ old.inSession then { old with retiring := true } else {})
  else if !old.valid ∨ old.cls ≠ new.cls ∨ old.tokenId ≠ new.tokenId then new
  else
    { new with inSession := old.inSession, lastAuth := old.lastAuth, failRun := old.failRun
               fobCounter := if old.enrolNo = new.enrolNo then old.fobCounter else new.fobCounter }

/-- A slot as it is once the switch of a committed bulk load has passed it. -/
def nextCred (s : Hub) (i : Nat) : Cred :=
  match s.creds.switch with
  | some x => if x.blocks.contains (i / 32) then mergeSlot (s.cred i) (Tab.get {} x.newSlots i) else s.cred i
  | none => s.cred i

/-- A slot's session is sealed (R379, R380): IN_SESSION is cleared; a RETIRING slot is cleared, and its block committed. -/
def slotSealed (i : Nat) (s : Hub) : Hub :=
  let c := s.cred i
  let s := setCred i (fun c => if c.retiring then {} else { c with inSession := false }) s
  if c.retiring then request (.credBlock (i / 32)) s else s

/-- Rushes mode that waits for the seals of a FORCE is entered once no bay is CHARGING or WRAPPING (R599). -/
def rushesDue (s : Hub) : Hub :=
  match s.rng.rawPend with
  | some (c, dur) =>
    if (List.range 128).any (fun b => (s.bay b).st == .charging || (s.bay b).st == .wrapping) then s
    else finish c .ok [] [] (rushesEnter dur (s.setRng (fun g => { g with rawPend := none })))
  | none => s

/-- A session's closing entry is committed (R25, R380, R397, R464, R620): the notice, the slots, the dialogues, the bay's return to WATCH. -/
def closeSession (b : Nat) (result fl first seq eStart eEnd : Nat) (s : Hub) : Hub :=
  match (s.bay b).sess with
  | none => s
  | some x =>
    let s := notice 0x0107 b
      [⟨16, 1, result⟩, ⟨17, 1, fl⟩, ⟨18, 1, first⟩, ⟨20, 8, x.id⟩, ⟨28, 8, seq⟩, ⟨36, 8, eStart⟩, ⟨44, 8, eEnd⟩, ⟨52, 4, x.causes⟩] s
    let s := x.slots.foldl (fun s i => slotSealed i s) s
    let s := s.setBay b (fun y => { y with sess := none, st := if y.st = .wrapping ∨ y.st = .charging then .engaged else y.st })
    let s := setRel b (fun r => { r with want := .cut, cause := .wrap, req := none }) (dropMeterItem b s)
    let s := endDialogues b .dialogueEnd s
    rushesDue (if (s.bay b).st = .engaged then toWatch b s else s)

end Sys2Proof.Machine
end

