-- ==== Sys2Proof/Machine/Verdict.lean ====
section
/-! DEFINITION. Moves of a verdict that all classes share (R335, R342, R344, R346, R361): entries to BOUND, CONTESTED and LOST with their
counters, and REQUIRE_V. -/

namespace Sys2Proof.Machine

/-- A change of a bay's binding counters. -/
def countBind (b : Nat) (f : BindCnt → BindCnt) (s : Hub) : Hub := s.setBay b (fun x => { x with bindCnt := f x.bindCnt })

/-- The counter of an entry to a verdict. -/
def entryCount (v : Verdict) (c : BindCnt) : BindCnt :=
  match v with
  | .bound => { c with boundEntry := satAdd c.boundEntry 1 }
  | .contested => { c with contestedEntry := satAdd c.contestedEntry 1 }
  | .lost => { c with lostEntry := satAdd c.lostEntry 1 }
  | .unseen => c | .candidate => c

/-- A verdict moves (R335): notice, entry counter, and at an entry to CONTESTED the pair starts anew; at the first BOUND ENGAGE_LIMIT runs
from that moment (R337), unless a session has stopped it. -/
def moveVerdict (b : Nat) (k : TokenClass) (v : Verdict) (why : BindReason) (takeNo : Nat) (ev : BindEvidence) (s : Hub) : Hub :=
  match (s.bay b).dlg k with
  | none => s
  | some d =>
    if d.verdict = v then s
    else
      let s := countBind b (entryCount v) (setVerdict b k v why takeNo ev s)
      let s := if v = .contested then modDlg b k (fun x => { x with pairFrom := none }) s else s
      if v = .bound ∧ d.everBound = false ∧ d.limitFrom.isSome then modDlg b k (fun x => { x with limitFrom := some s.now }) s else s

/-- The bay's class V verdict is BOUND. -/
def vBound (s : Hub) (b : Nat) : Bool := (((s.bay b).dlgV).map (fun d => d.verdict == .bound)).getD false

/-- Class C and F evidence suffices for BOUND (R342, R344): under REQUIRE_V the verdict reports CANDIDATE with the flag until a class V
token is BOUND at the bay (R346). -/
def bindSimple (b : Nat) (k : TokenClass) (why : BindReason) (ev : BindEvidence) (s : Hub) : Hub :=
  match (s.bay b).dlg k with
  | none => s
  | some d =>
    if d.bcfg.requireV && !vBound s b then
      moveVerdict b k .candidate why 0 ev (modDlg b k (fun x => { x with requireV := true, bindEv := { ev with reason := why } }) s)
    else moveVerdict b k .bound why 0 ev (modDlg b k (fun x => { x with requireV := false }) s)

/-- A verdict that REQUIRE_V held back counts as BOUND once the class V verdict is (R346). -/
def releaseRequireV (b : Nat) (s : Hub) : Hub :=
  [TokenClass.c, .f].foldl (fun s k =>
    match (s.bay b).dlg k with
    | some d => if d.requireV then
        moveVerdict b k .bound d.bindEv.reason 0 d.bindEv (modDlg b k (fun x => { x with requireV := false }) s)
      else s
    | none => s) s

end Sys2Proof.Machine
end

