-- ==== Sys2Proof/Machine/Auth.lean ====
section
/-! DEFINITION. Finding, engaging and authenticating tokens (R339, R340, R342 to R346, R387 to R406): blinks, the three passes of classes V
and C, and the rolling code of class F. -/

namespace Sys2Proof.Machine

/-! ## Results (R404) -/

inductive AuthResult where
  | ok | unknown | suspended | notValid | macFail | refused | ackBad | timeout | rng | replay | resync | badFrame | cardError
  deriving DecidableEq, Repr

def AuthResult.code : AuthResult → Nat
  | .ok => 0 | .unknown => 1 | .suspended => 2 | .notValid => 3 | .macFail => 4 | .refused => 5 | .ackBad => 6 | .timeout => 7
  | .rng => 8 | .replay => 9 | .resync => 0x0A | .badFrame => 0x0B | .cardError => 0x0C

/-- Results that R405 counts. -/
def AuthResult.counted : AuthResult → Bool
  | .unknown => true | .suspended => true | .notValid => true | .macFail => true | .refused => true | .ackBad => true
  | .replay => true | .badFrame => true
  | .ok => false | .timeout => false | .rng => false | .resync => false | .cardError => false

def countAuth (b : Nat) (f : AuthCnt → AuthCnt) (s : Hub) : Hub := s.setBay b (fun x => { x with authCnt := f x.authCnt })

def noSlot : Nat := 0xFFFFFFFF

/-! ## Tokens -/

/-- The valid slot of a class and TOKEN_ID (R364). -/
def findCred (s : Hub) (k : TokenClass) (tok : Nat) : Option Nat :=
  (s.creds.slots.find? (fun p => p.2.valid && p.2.cls == k && p.2.tokenId == tok)).map (·.1)

/-- The bay at which a token is engaged (R339). -/
def engagedAt (s : Hub) (k : TokenClass) (tok : Nat) : Option Nat :=
  (List.range 128).find? (fun b => match (s.bay b).dlg k with
    | some d => decide (d.token = tok) && (decide (k ≠ .c) || decide (d.auth.phase ≠ .auth1))
    | none => false)

/-- SUSPENDED and validity (R394, R395). -/
def judgeCred (s : Hub) (c : Cred) : Option AuthResult :=
  if c.suspended then some .suspended
  else if !s.aon.rtcSet ∧ (c.validFrom ≠ 0 ∨ c.validUntil ≠ 0) then some .notValid
  else if (c.validFrom ≠ 0 ∧ s.aon.rtc < c.validFrom) ∨ (c.validUntil ≠ 0 ∧ c.validUntil < s.aon.rtc) then some .notValid
  else none

/-! ## Back-off (R405) -/

def setBackoff (f : List Backoff → List Backoff) (s : Hub) : Hub := { s with creds := { s.creds with backoff := f s.creds.backoff } }

/-- A token is ignored. -/
def inBackoff (s : Hub) (k : TokenClass) (tok : Nat) : Bool :=
  s.creds.backoff.any (fun e => decide (e.cls = k ∧ e.token = tok) &&
    (match e.until_ with
     | some t => decide (s.now < t)
     | none => false))

/-- An event that back-off ignores. -/
def countBackoff (b : Nat) (s : Hub) : Hub := countAuth b (fun c => { c with backoff := satAdd c.backoff 1 }) s

/-- Back-offs still running; past them, the entry that ends first makes room for a 1,025th. -/
def trimBackoff (now : Nat) (l : List Backoff) : List Backoff :=
  let live := l.filter (fun e => match e.until_ with
    | some t => decide (now < t)
    | none => true)
  let held := live.filterMap (·.until_)
  if held.length ≤ 1024 then live
  else
    match held.min? with
    | none => live
    | some m => live.eraseP (fun e => e.until_ == some m)

/-- A result is taken into a token's run: the third counted one within 60 s starts a back-off of 60 s; TIMEOUT and RNG_UNAVAILABLE do
not count and other results break the run. -/
def noteResult (k : TokenClass) (tok : Nat) (r : AuthResult) (s : Hub) : Hub :=
  let mine := fun (e : Backoff) => decide (e.cls = k ∧ e.token = tok)
  if r.counted then
    let old := ((s.creds.backoff.find? mine).map (·.times)).getD []
    let times := s.now :: old.filter (fun t => decide (s.now ≤ t + sec 60))
    let e : Backoff := if 3 ≤ times.length then { cls := k, token := tok, times := [], until_ := some (s.now + sec 60) }
      else { cls := k, token := tok, times := times }
    setBackoff (fun l => trimBackoff s.now (l.filter (fun e => !mine e) ++ [e])) s
  else if r = .timeout ∨ r = .rng then s
  else setBackoff (fun l => l.filter (fun e => !mine e || e.until_.isSome)) s

/-! ## Notices (R406, R562) -/

/-- What a fob frame adds to AUTH_DONE. -/
structure FobInfo where
  ctr : Nat := 0
  buttons : Nat := 0
  lf : Nat := 0
  resynced : Bool := false
  deriving DecidableEq, Repr

/-- AUTH_DONE. -/
def authDone (b : Nat) (k : TokenClass) (d : Dialogue) (r : AuthResult) (f : FobInfo) (s : Hub) : Hub :=
  let known := decide (d.slot ≠ noSlot)
  let c := s.cred d.slot
  notice 0x0103 b
    [⟨16, 1, r.code⟩, ⟨17, 1, classNo k⟩, ⟨18, 1, flags [d.dTok.isSome, known && c.spc3, f.resynced, d.auth.resent]⟩, ⟨19, 1, d.auth.dTokRaw⟩,
     ⟨20, 4, d.slot⟩, ⟨24, 8, d.token⟩, ⟨32, 2, if known then c.fleet else 0xFFFF⟩, ⟨34, 1, d.rxPeriod⟩, ⟨35, 1, d.auth.passes⟩,
     ⟨36, 4, f.ctr⟩, ⟨40, 8, if known then c.hostRef else 0⟩, ⟨48, 1, f.buttons⟩, ⟨49, 1, f.lf⟩] s

/-- The rows of TOKEN_SEEN beyond CLASS, PROBE and FLAGS. -/
def tokenSeen (b : Nat) (k : TokenClass) (probe tok : Nat) (elsewhere : Bool) (more : List Fld) (s : Hub) : Hub :=
  let slot := if k = .c then none else findCred s k tok
  notice 0x0102 b
    ([⟨16, 1, classNo k⟩, ⟨17, 1, probe⟩, ⟨18, 1, flags [slot.isSome, elsewhere, k != .c && inBackoff s k tok]⟩, ⟨20, 8, tok⟩,
      ⟨28, 4, slot.getD noSlot⟩] ++ more) s

/-! ## Results -/

/-- The items of a bay's authentication of a class leave, with a burst staged for them. -/
def dropAuthItem (b : Nat) (k : TokenClass) (s : Hub) : Hub :=
  ((s.bayItems b).filter (fun i => decide (i.what = .authPass) && i.tclass == classNo k)).foldl
    (fun s i => dropItem (regionOf b) i.q (unstage b i.q s)) s

/-- An authentication, or the judgement of a fob frame, ends with a result (R397, R404 to R407). `post` is false only for a RESYNC_PENDING
that is not the first of its value. -/
def endAuth (b : Nat) (k : TokenClass) (r : AuthResult) (f : FobInfo) (post : Bool) (s : Hub) : Hub :=
  match (s.bay b).dlg k with
  | none => s
  | some d =>
    let held := inSession (s.bay b) d
    let s := if r = .ok then countAuth b (fun c => { c with ok := satAdd c.ok 1 }) s
      else if r = .timeout then countAuth b (fun c => { c with timeout := satAdd c.timeout 1 }) s
      else if r.counted then countAuth b (fun c => { c with fail := satAdd c.fail 1 }) s else s
    let s := noteResult k d.token r s
    let s := if d.slot = noSlot then s
      else if r = .ok then setCred d.slot (fun c => { c with lastAuth := s.aon.rtc, failRun := 0 }) s
      else setCred d.slot (fun c => { c with failRun := satAddAt 0xFFFF c.failRun 1 }) s
    let s := if post then authDone b k d r f s else s
    if r = .ok ∨ held then s
    else
      let s := if k = .c then endPassTxn b .cardOk s else s
      endDialogue b k .dialogueEnd (dropAuthItem b k s)

/-! ## Passes (R391, R394) -/

def modAuth (b : Nat) (k : TokenClass) (f : Auth → Auth) (s : Hub) : Hub := modDlg b k (fun d => { d with auth := f d.auth }) s

/-- An AUTH item for the next pass, due in a slot (R49). -/
def authItem (b : Nat) (k : TokenClass) (due : Nat) (s : Hub) : Option Nat × Hub :=
  let d := (s.bay b).dlg k
  let slot := (d.map (·.slot)).getD noSlot
  let live := (d.map (inSession (s.bay b))).getD false
  enqueue live
    { q := 0, kind := .auth, cls := .auth, bay := b, what := .authPass, earliest := due, latest := due + 10, tclass := classNo k,
      cred := if slot = noSlot then 0x3FFFF else slot, session := if live then sessionId s b else 0,
      retries := (d.map (·.auth.attempt)).getD 1 - 1, order := s.slot } s

/-- A pass got no reply in its window, or could not be sent: class V tries again in the next slot, three times in all; class C ends. -/
def passUnanswered : Nat → Nat → TokenClass → Hub → Hub
  | 0, b, k, s => endAuth b k .timeout {} true s
  | n + 1, b, k, s =>
    let s := modAuth b k (fun a => { a with window := 0 }) (dropAuthItem b k s)
    match (s.bay b).dlg k with
    | none => s
    | some d =>
      if k = .v ∧ d.auth.attempt < 3 then
        let e := authItem b k (s.slot + 1) (modAuth b k (fun a => { a with attempt := a.attempt + 1 }) s)
        if e.1.isSome then e.2 else passUnanswered n b k e.2
      else endAuth b k .timeout {} true s

/-- A pass is planned; one that gets no queue counts as unanswered. -/
def planPass (b : Nat) (k : TokenClass) (due : Nat) (s : Hub) : Hub :=
  let e := authItem b k due s
  if e.1.isSome then e.2 else passUnanswered 3 b k (countRefused b e.2)

/-- AUTH1 is planned: RH is drawn, or waits for the reseed that is due (R728); with no RNG no authentication starts (R388). -/
def planAuth1 (b : Nat) (k : TokenClass) (s : Hub) : Hub :=
  match drawRandom 16 s with
  | none => if s.rng.serves then drawLater (.auth b k) s else endAuth b k .rng {} true s
  | some (rh, s) =>
    planPass b k s.slot (countAuth b (fun c => { c with started := satAdd c.started 1 }) (modAuth b k (fun a => { a with rh := rh }) s))

/-! ## Engaging (R203, R339, R396, R562) -/

/-- A dialogue begins: the parameters in force are kept with it (R538). -/
def newDialogue (s : Hub) (b : Nat) (k : TokenClass) (tok : Nat) : Dialogue :=
  let x := s.bay b
  let slot := if k = .c then none else findCred s k tok
  { token := tok, slot := slot.getD noSlot, fleet := ((slot.map s.cred).map (·.fleet)).getD 0, auth := { phase := .auth1, passes := 0 }
    cfg := x.range, bcfg := x.bindCfg }

/-- Polling items of a bay that have not started leave the call sheet. -/
def dropWaitingPolls (b : Nat) (s : Hub) : Hub :=
  ((s.bayItems b).filter (fun i => i.isPoll && !i.granted)).foldl (fun s i => dropItem (regionOf b) i.q s) s

/-- A token answers a probe at a bay (R203): the bay goes ENGAGED with its notices, and the dialogue begins. Whether it began. -/
def engage (b : Nat) (k : TokenClass) (probe tok : Nat) (more : List Fld) (s : Hub) : Bool × Hub :=
  let x := s.bay b
  if s.creds.loading || decide ((s.region (regionOf b)).st ≠ .active) || !(decide (x.st = .watch) || decide (x.st = .engaged)) then (false, s)
  else if (x.dlg k).isSome then (false, countAuth b (fun c => { c with engageBusy := satAdd c.engageBusy 1 }) s)
  else if !queueFree s b false then (false, countRefused b s)
  else
    let s := if x.st = .watch then
        let s := dropWaitingPolls b (s.setBay b (fun x => { x with st := .engaged }))
        notice 0x0101 b [⟨16, 1, bayStateCode .watch⟩, ⟨17, 1, bayStateCode .engaged⟩, ⟨18, 1, probe⟩] s
      else s
    let s := tokenSeen b k probe tok false more s
    let s := detect b s
    (true, s.setBay b (fun y => y.setDlg k (some (newDialogue s b k tok))))

/-- Classes V and C: engaged, and AUTH1 planned. -/
def engageAuth (b : Nat) (k : TokenClass) (probe tok : Nat) (more : List Fld) (s : Hub) : Hub :=
  let e := engage b k probe tok more s
  if e.1 then planAuth1 b k e.2 else e.2

/-- A token engaged at another bay is evidence only (R339, R562). -/
def heardElsewhere (b : Nat) (k : TokenClass) (probe tok : Nat) (more : List Fld) (s : Hub) : Hub :=
  detect b (tokenSeen b k probe tok true more (countBind b (fun c => { c with engagedElsewhere := satAdd c.engagedElsewhere 1 }) s))

/-! ## Keys and values (R387) -/

/-- A 128-bit value as bytes, most significant first. -/
def bytes16 (v : BitVec 128) : List Byte := (toLe 16 v.toNat).reverse

def macT (key : BitVec 128) (b rh rt tok dtok caps : Nat) : BitVec 128 :=
  Config.aesCmac key (0x12 :: (bayByte b ++ toLe 16 rh ++ toLe 16 rt ++ toLe 8 tok ++ toLe 1 dtok ++ toLe 1 caps))
def macH (key : BitVec 128) (b rh rt pcode rx : Nat) : BitVec 128 :=
  Config.aesCmac key (0x13 :: (bayByte b ++ toLe 16 rt ++ toLe 16 rh ++ toLe 1 pcode ++ toLe 1 rx))
def deriveSk (key : BitVec 128) (b rh rt : Nat) : BitVec 128 := Config.aesCmac key (0x10 :: (toLe 16 rh ++ toLe 16 rt ++ bayByte b))
def macA (sk : BitVec 128) (b rx : Nat) : List Byte := (bytes16 (Config.aesCmac sk (0x14 :: (bayByte b ++ toLe 1 rx)))).take 8

/-- Sum of the delay measurements of a port and their number (R107). -/
def delaySum (l : List Nat) : Nat × Nat := (l.foldl (· + ·) 0, l.length)

/-- RX_PERIOD from the mean link delay D (R296): ceil((2 D + 1.8 µs) / 0.5 µs), at least 6. -/
def roundPeriod (s : Hub) (b : Nat) : Nat :=
  let m := delaySum (s.bay b).sl.timing.meas
  let n := max m.2 1
  max 6 ((200 * m.1 + 2875392 * n + 798720 * n - 1) / (798720 * n))

/-! ## Starting a granted pass -/

/-- The RMARKER of a pass lies this far into its slot, so that the chain is locked before the first chip (R142). -/
def authLead : Nat := ticksUs 150

/-- The UWB frame of a pass (R390). -/
def uwbPass (s : Hub) (b : Nat) (d : Dialogue) : List Byte :=
  match d.auth.phase with
  | .auth1 => 0x11 :: (toLe 8 d.token ++ toLe 1 s.hubIndex ++ bayByte b ++ toLe 16 d.auth.rh ++ toLe 1 d.cfg.pcode)
  | _ => 0x13 :: (toLe 8 d.token ++ toLe 1 d.rxPeriod ++ bytes16 (macH d.auth.key b d.auth.rh d.auth.rt d.cfg.pcode d.rxPeriod))

/-- The APDU of a pass (R393). -/
def cardPass (s : Hub) (b : Nat) (d : Dialogue) : List Byte :=
  match d.auth.phase with
  | .auth1 => [0x80, 0x11, 0, 0, 0x12] ++ toLe 1 s.hubIndex ++ bayByte b ++ toLe 16 d.auth.rh
  | _ => [0x80, 0x13, 0, 0, 0x12, 0, 0] ++ bytes16 (macH d.auth.key b d.auth.rh d.auth.rt 0 0)

/-- A granted pass starts at its slot. -/
def startPass (b q : Nat) (k : TokenClass) (s : Hub) : Hub :=
  match (s.bay b).dlg k with
  | none => dropItem (regionOf b) q s
  | some d =>
    let s := modAuth b k (fun a => { a with passes := a.passes + 1, resent := a.resent || decide (1 < a.attempt) }) s
    if k = .c then
      if !((limits s).coil true (s.bay b).poll.cfg.hfField) then passUnanswered 3 b k (regRefused b s)
      else
        let fwt := (((s.bay b).hf.card).map (·.fwt)).getD 0
        sendApdu b 2 (cardPass s b d)
          (setHf b (fun h => { h with txn := some { kind := 2, q := q, deadline := s.now + us fwt, limit := s.now + sec 1 } })
            (modAuth b k (fun a => { a with window := s.ticks + ticksUs fwt }) s))
    else
      let rm := s.slot * slotTicks + authLead
      let l := uwbPass s b d
      let u := mkBurst s b q .auth rm 0 true l l.length
      toRx b q (needChannel b (stage b u (modAuth b k (fun a => { a with window := rm + ticksUs 5000 }) s)).2)

/-! ## AUTH2 and AUTH_ACK -/

/-- A pass of this class is out and its window open (R391). -/
def awaits (s : Hub) (b : Nat) (k : TokenClass) (p : AuthPhase) : Bool :=
  match (s.bay b).dlg k with
  | some d => decide (d.auth.phase = p) && d.auth.window != 0 && (decide (k = .c) || decide (s.ticks ≤ d.auth.window))
  | none => false

/-- A reply ends its pass: the item leaves, and the card's transaction is over. -/
def endPass (b : Nat) (k : TokenClass) (s : Hub) : Hub :=
  let s := dropAuthItem b k (modAuth b k (fun a => { a with window := 0 }) s)
  if k = .c then endPassTxn b .cardOk s else s

/-- AUTH2 taken apart: whether well formed, TOKEN_ID, RT, D_TOK, CAPS and MAC_T (R390, R393). -/
def readAuth2 (k : TokenClass) (f : List Byte) : Bool × Nat × Nat × Nat × Nat × List Byte :=
  if k = .v then
    (decide (f.length = 43) && byteAt f 0 == 0x12, fld f 1 8, fld f 9 16, fld f 25 1, fld f 26 1, (f.drop 27).take 16)
  else
    (decide (f.length = 44) && byteAt f 42 == 0x90 && byteAt f 43 == 0x00, fld f 0 8, fld f 8 16, fld f 24 1, fld f 25 1,
      (f.drop 26).take 16)

/-- The tap of a class C token is known once its identity is (R217, R342). -/
def noteTap (b tok : Nat) (d : Dialogue) (s : Hub) : Hub :=
  { s with creds := { s.creds with taps := s.creds.taps.filter (fun t => decide (s.now ≤ t.2.2 + sec 4)) ++ [(tok, b, d.tapAt)] } }

/-- AUTH2 (R394): checks in order, SK, and AUTH3 planned. -/
def takeAuth2 (b : Nat) (k : TokenClass) (f : List Byte) (s : Hub) : Hub :=
  match (s.bay b).dlg k with
  | none => s
  | some d =>
    let s := endPass b k s
    let (good, tok, rt, dtok, caps, mac) := readAuth2 k f
    if !good then endAuth b k .badFrame {} true s
    else if k = .v ∧ tok ≠ d.token then endAuth b k .badFrame {} true s
    else
      let rapid := decide (k = .v) && decide (dtok ≤ 159)
      let s := modDlg b k (fun d => { d with token := tok, dTok := if rapid then some dtok else none, auth := { d.auth with dTokRaw := dtok } }) s
      let s := if k = .c then noteTap b tok d s else s
      if k = .c ∧ inBackoff s k tok then endDialogue b k .dialogueEnd (countBackoff b s)
      else
        match findCred s k tok with
        | none => endAuth b k .unknown {} true (modDlg b k (fun d => { d with slot := noSlot }) s)
        | some i =>
          let c := s.cred i
          let s := modDlg b k (fun d => { d with slot := i, fleet := c.fleet, spc3 := c.spc3, hostRef := c.hostRef }) s
          if bytes16 (macT c.key b d.auth.rh rt tok dtok caps) ≠ mac then endAuth b k .macFail {} true s
          else
            match judgeCred s c with
            | some r => endAuth b k r {} true s
            | none =>
              let rx := if rapid && d.cfg.rapidMode != .off then roundPeriod s b else 0
              let s := modDlg b k (fun d => { d with sk := some (deriveSk c.key b d.auth.rh rt), rxPeriod := rx,
                                                     auth := { d.auth with phase := .auth3, attempt := 1, rt := rt, key := c.key } }) s
              planPass b k (if k = .v then (s.ticks + ticksUs 400) / slotTicks + 1 else s.slot) s

/-- The same class C token has been tapped at another bay in the 2 s before the tap (R342). -/
def tappedElsewhere (s : Hub) (b : Nat) (d : Dialogue) : List Nat :=
  (s.creds.taps.filter (fun t => decide (t.1 = d.token) && t.2.1 != b && decide (d.tapAt ≤ t.2.2 + sec 2) && decide (t.2.2 ≤ d.tapAt))).map (·.2.1)

/-- Class C after AUTH_OK (R342): a weak tap ends the dialogue; a token tapped elsewhere makes both dialogues CONTESTED. -/
def judgeTap (b : Nat) (s : Hub) : Hub :=
  match (s.bay b).dlgC with
  | none => s
  | some d =>
    match tappedElsewhere s b d with
    | o :: _ =>
      let other := match (s.bay o).dlgC with
        | some e => decide (e.token = d.token) && !inSession (s.bay o) e
        | none => false
      moveVerdict b .c .contested .tokenElsewhere 0 {} (if other then moveVerdict o .c .contested .tokenElsewhere 0 {} s else s)
    | [] =>
      if d.rstr < d.bcfg.cRstrMin then endDialogue b .c .tap (bindNotice b .c d .unseen .unseen .tap 0 {} s)
      else bindSimple b .c .tap { evidence := d.rstr } s

/-- AUTH_OK (R397): the verdict starts at UNSEEN, and ENGAGE_LIMIT runs; class V's first take falls due. -/
def startVerdict (b : Nat) (k : TokenClass) (s : Hub) : Hub :=
  let s := modDlg b k (fun d => { d with verdict := .unseen, since := s.now, limitFrom := some s.now, auth := { d.auth with phase := .done, key := 0 } }) s
  match k with
  | .v => modDlg b k (fun d => { d with nextDue := some (firstOpenSlot s (regionOf b)) }) s
  | .c => judgeTap b s
  | .f => s

/-- AUTH_ACK (R394). -/
def takeAck (b : Nat) (k : TokenClass) (f : List Byte) (s : Hub) : Hub :=
  match (s.bay b).dlg k with
  | none => s
  | some d =>
    let s := endPass b k s
    let a := macA (d.sk.getD 0) b d.rxPeriod
    let good := if k = .v then decide (f.length = 17) && byteAt f 0 == 0x14 && decide (fld f 1 8 = d.token)
      else decide (f.length = 10) && byteAt f 8 == 0x90 && byteAt f 9 == 0x00
    if k = .c ∧ f.length = 2 ∧ byteAt f 0 = 0x69 ∧ byteAt f 1 = 0x82 then endAuth b k .refused {} true s
    else if !good then endAuth b k .badFrame {} true s
    else if (if k = .v then (f.drop 9).take 8 else f.take 8) ≠ a then endAuth b k .ackBad {} true s
    else startVerdict b k (endAuth b k .ok {} true s)

/-- AUTH2 (R253, R391, R394): a frame in a mode of R253 is discarded, and a reply outside its window is ignored. -/
def execAuth2 (b : Nat) (k : TokenClass) (f : AuthFrame) : State → Turn := onHub fun s =>
  atBay b s (fun s => if f.badMode && decide (k = .v) then countModeErr b s else if awaits s b k .auth1 then takeAuth2 b k f.bytes s else s)

/-- AUTH_ACK. -/
def execAuthAck (b : Nat) (k : TokenClass) (f : AuthFrame) : State → Turn := onHub fun s =>
  atBay b s (fun s => if f.badMode && decide (k = .v) then countModeErr b s else if awaits s b k .auth3 then takeAck b k f.bytes s else s)

/-- A reply over HF to the pass that is out. -/
def cardReply (b : Nat) (f : List Byte) (s : Hub) : Hub :=
  if awaits s b .c .auth1 then takeAuth2 b .c f s else if awaits s b .c .auth3 then takeAck b .c f s else s

/-- AUTH_REPLY_WINDOW_CLOSE (R391, R394): class V at the end of the 5 ms; class C once the card's waiting time and its retransmissions are
over (R214). -/
def execAuthReplyWindowClose (b : Nat) (k : TokenClass) : State → Turn := onHub fun s =>
  atBay b s (fun s =>
    match (s.bay b).dlg k with
    | none => s
    | some d =>
      let due := if k = .c then
          (match (s.bay b).hf.txn with
           | some t => decide (t.kind = 2) && (decide (t.deadline ≤ s.now) && decide (2 ≤ t.retries) || decide (t.limit ≤ s.now))
           | none => true)
        else decide (d.auth.window ≤ s.ticks)
      if d.auth.window ≠ 0 ∧ due then passUnanswered 3 b k (if k = .c then endPassTxn b .cardTimeout s else s) else s)

/-! ## Blinks (R339, R340, R390) -/

/-- A UWB listen window of a bay (R179, R183), the telegram's whose TE it is linked to or a free-standing one, holds the span from tick `a` to `z`. -/
def listenOpen (s : Hub) (b a z : Nat) : Bool :=
  (s.bayItems b).any (fun i => i.granted && decide (i.start * slotTicks ≤ a) &&
    (match i.what with
     | .listenFree => decide (z ≤ (i.start + 50) * slotTicks)
     | .listenLinked te => decide (te + ticksUs 500 ≤ a) && decide (z ≤ te + ticksUs 5000)
     | _ => false))

/-- The bays at which a blink is heard, each with its corrected first path (R183, R340): the whole frame, from its first preamble chip to its last
chip, lies in the window, and the chain has been in RX from its first chip on. -/
def blinkHeard (m : BlinkMsg) (s : Hub) : List (Nat × Int) :=
  m.heard.filterMap (fun p =>
    let b := p.1
    let first := ((p.2.filterMap id).head?.getD 0) / 256 - shrTicks
    if b < 128 && listenOpen s b first (first + 32 * frameChips 0 true m.payload.length) && decide ((s.bay b).radio.copy = .rx) &&
        decide ((s.bay b).radio.rxAt ≤ first) then
      (headToa (calEntry s b) (s.bay b).range.uwbCh (widthOf s.pwr.profile) p.2).map (fun t => (b, t))
    else none)

/-- The earliest of two hearings; within 2 ticks the lower bay. -/
def earlier (x y : Nat × Int) : Nat × Int :=
  if (x.2 - y.2).natAbs ≤ 512 then (if x.1 ≤ y.1 then x else y) else if x.2 < y.2 then x else y

/-- BLINK (R340): payload KIND 1 of 13 bytes; a token engaged elsewhere counts at each bay that hears it; back-off ignores it; otherwise it is
engaged at the bay that hears it earliest. -/
def execBlink (m : BlinkMsg) : State → Turn := onHub fun s =>
  .next (
    match blinkHeard m s with
    | [] => s
    | h :: t =>
      if m.badMode then
        (h :: t).foldl (fun s p => countModeErr p.1 s) s
      else if m.payload.length ≠ 13 ∨ byteAt m.payload 0 ≠ 0x01 ∨ s.creds.loading then s
      else
        let tok := fld m.payload 1 8
        let caps : List Fld := [⟨32, 1, fld m.payload 9 1⟩]
        match engagedAt s .v tok with
        | some e => (h :: t).foldl (fun s p => if p.1 = e then s else heardElsewhere p.1 .v 0 tok caps s) s
        | none =>
          let first := t.foldl earlier h
          if inBackoff s .v tok then countBackoff first.1 s
          else
            let near := t.filter (fun p => decide ((p.2 - first.2).natAbs ≤ 256 * ticksUs 1))
            let at_ := near.foldl earlier first
            engageAuth at_.1 .v 0 tok caps s)

/-! ## Class F (R343, R344, R398 to R403) -/

/-- One bit of the CRC of a fob frame, polynomial x^16 + x^12 + x^5 + 1, most significant bit first. -/
def crc16Bit (c : Nat) : Nat := if 32768 ≤ c then (2 * c) % 65536 ^^^ 0x1021 else 2 * c

/-- CRC-16 with initial value 0xFFFF and no final complement. -/
def crc16 (l : List Byte) : Nat :=
  l.foldl (fun c x =>
    crc16Bit (crc16Bit (crc16Bit (crc16Bit (crc16Bit (crc16Bit (crc16Bit (crc16Bit (c ^^^ (256 * x.toNat)))))))))) 0xFFFF

/-- TE of the bay's telegram in whose UHF window this instant lies (R183, R343). -/
def uhfWindow (s : Hub) (b : Nat) : Option Nat :=
  ((s.bayItems b).find? (fun i => decide (i.what = .lfTelegram) && i.granted &&
    (let te := (i.start + telegramSlots) * slotTicks
     decide (te ≤ s.ticks) && decide (s.ticks ≤ te + ticksUs 21000)))).map (fun i => (i.start + telegramSlots) * slotTicks)

/-- UHF RSSI in 10^-6 dBm (R776). -/
def uhfRssi (s : Hub) (b band : Nat) (lvl : Int) : Int :=
  let o := if band = 0 then 24 else 28
  signed 16 (calVal s b (o + 2) 2 (65536 - 900)) * 100000 + (calVal s b o 2 1000 : Nat) * lvl -
    (((s.bay b).sl.rep.uhfGain * calVal s b 11 1 5 * 100000 : Nat) : Int)

/-- The bays that hear a frame, with their RSSI (R343). -/
def fobHeard (f : FobHeard) (s : Hub) : List (Nat × Int) :=
  f.heard.filterMap (fun p =>
    if p.1 < 128 && (uhfWindow s p.1).isSome && (s.bay p.1).poll.cfg.uhfBand == f.band then some (p.1, uhfRssi s p.1 f.band p.2) else none)

/-- The bay a frame belongs to: its RSSI exceeds every other by at least 6 dB. -/
def fobBay (l : List (Nat × Int)) : Option (Nat × Int) :=
  l.find? (fun x => l.all (fun y => y.1 == x.1 || decide (y.2 + 6000000 ≤ x.2)))

/-- A pending resync value of a slot (R401). -/
def pendingOf (s : Hub) (i : Nat) : Option (Nat × Nat) := (s.creds.resync.find? (fun p => p.1 == i)).map (·.2)

/-- The pending value of a slot is replaced or cleared; the oldest of more than 256 is dropped. -/
def setPending (i : Nat) (v : Option (Nat × Nat)) (s : Hub) : Hub :=
  let l := s.creds.resync.filter (fun p => p.1 != i)
  let l := match v with
    | some x => l ++ [(i, x)]
    | none => l
  { s with creds := { s.creds with resync := if 256 < l.length then l.drop 1 else l } }

/-- An accepted frame moves FOB_COUNTER and asks for its journal entry (R400, R402). -/
def acceptCounter (i ctr : Nat) (s : Hub) : Hub :=
  let s := setCred i (fun c => { c with fobCounter := ctr }) (setPending i none s)
  let s := { s with creds := { s.creds with fobDirty := if s.creds.fobDirty.contains i then s.creds.fobDirty else s.creds.fobDirty ++ [i] } }
  request (.fobCounter i ctr) s

/-- An accepted frame counts toward the class F verdict (R344). -/
def countFobFrame (b te lf ctr : Nat) (rssi : Int) (s : Hub) : Hub :=
  match (s.bay b).dlgF with
  | none => s
  | some d =>
    if lf < d.bcfg.fLfMin ∨ rssi < d.bcfg.fUhfMin * 1000000 ∨ d.verdict = .bound ∨ d.requireV then s
    else
      match d.fobTe with
      | none => modDlg b .f (fun x => { x with fobTe := some te }) s
      | some t => if t + ticksUs 500000 ≤ te then bindSimple b .f .fob { evidence := ctr } s else s

/-- A frame of a fob is judged at its bay (R399 to R402). -/
def judgeFob (b te : Nat) (f : List Byte) (rssi : Int) (s : Hub) : Hub :=
  let tok := beNat (f.take 4)
  let ctr := beNat ((f.drop 4).take 4)
  let info : FobInfo := { ctr := ctr, buttons := fld f 8 1, lf := fld f 9 1 }
  let s := countAuth b (fun c => { c with started := satAdd c.started 1 }) s
  match findCred s .f tok with
  | none => endAuth b .f .unknown info true (modDlg b .f (fun d => { d with slot := noSlot }) s)
  | some i =>
    let c := s.cred i
    let s := modDlg b .f (fun d => { d with slot := i, fleet := c.fleet, hostRef := c.hostRef }) s
    if (bytes16 (Config.aesCmac c.key (0x31 :: f.take 10))).take 4 ≠ (f.drop 10).take 4 then endAuth b .f .macFail info true s
    else
      let d := (ctr + 2 ^ 32 - c.fobCounter) % 2 ^ 32
      let w := (Tab.get {} s.nv.fleets c.fleet).fobW
      let resynced := match pendingOf s i with
        | some (p, t) => decide (ctr = (p + 1) % 2 ^ 32) && decide (s.now ≤ t + sec 2)
        | none => false
      if d = 0 ∨ 32768 < d then endAuth b .f .replay info true s
      else if w < d ∧ !resynced then
        let first := (pendingOf s i).map (·.1) != some ctr
        endAuth b .f .resync info first (if first then setPending i (some (ctr, s.now)) s else s)
      else
        let by_ := decide (w < d)
        let s := if by_ then countAuth b (fun c => { c with fobResync := satAdd c.fobResync 1 }) s else s
        let s := acceptCounter i ctr s
        match judgeCred s c with
        | some r => endAuth b .f r info true s
        | none =>
          let started := (((s.bay b).dlgF).map (fun d => decide (d.auth.phase = .done))).getD true
          let s := endAuth b .f .ok { info with resynced := by_ } true s
          let s := if started then s else startVerdict b .f s
          if (((s.bay b).dlgF).map (inSession (s.bay b))).getD true then s
          else countFobFrame b te (fld f 9 1) ctr rssi s

/-- FOB_FRAME (R398, R399): CRC, the bay it belongs to, engagement elsewhere, back-off, and its judgement. -/
def execFobFrame (f : FobHeard) : State → Turn := onHub fun s =>
  .next (
    let l := fobHeard f s
    let tok := beNat (f.frame.take 4)
    if l = [] ∨ f.frame.length ≠ 16 then s
    else if crc16 (f.frame.take 14) ≠ beNat (f.frame.drop 14) then
      l.foldl (fun s p => countAuth p.1 (fun c => { c with fobCrcErr := satAdd c.fobCrcErr 1 }) s) s
    else
      match fobBay l with
      | none => l.foldl (fun s p => countBind p.1 (fun c => { c with fobAmbig := satAdd c.fobAmbig 1 }) s) s
      | some (b, rssi) =>
        let more : List Fld := [⟨34, 1, fld f.frame 9 1⟩, ⟨35, 1, unsigned 8 (openDiv rssi 1000000)⟩]
        if s.creds.loading then s
        else
          match engagedAt s .f tok with
          | some e =>
            if e = b then
              if inBackoff s .f tok then countBackoff b s else judgeFob b ((uhfWindow s b).getD 0) f.frame rssi s
            else heardElsewhere b .f 3 tok more (modDlg e .f (fun d => { d with fobTe := none }) s)
          | none =>
            if inBackoff s .f tok then countBackoff b s
            else
              let e := engage b .f 3 tok more s
              if e.1 then judgeFob b ((uhfWindow s b).getD 0) f.frame rssi e.2 else e.2)

end Sys2Proof.Machine
end

