-- ==== Sys2Proof/Machine/Fix.lean ====
section
/-! DEFINITION. The position fix of a take (R327 to R330): its measurements, the loop of R329 with the rejection of listeners, and the masses of
the bays. The linear algebra itself is Config's. -/

namespace Sys2Proof.Machine

open Config (FixMeas HeadPose Point Spread)

def GeoHead.pose (h : GeoHead) : HeadPose := { pos := h.pos, orient := h.orient }

/-- Antenna `a` of a head in its own frame. -/
def GeoHead.antenna (h : GeoHead) (a : Nat) : List Int := (h.ant.drop (3 * a)).take 3

/-- The angle of a direction from boresight in 2π/65,536 (R286): from the elevation, with one axis from the azimuth. -/
def offBoresight (az el : Nat) (axis1 : Bool) : Nat :=
  if axis1 then (signed 16 az).natAbs else ((16384 : Int) - signed 16 el).natAbs

/-- Deviation in degrees of an angle of arrival (R327): 3° within 60° of boresight, 8° to 80°, none beyond. -/
def aoaDeg (az el : Nat) (axis1 : Bool) : Option Nat :=
  let o := 360 * offBoresight az el axis1
  if o ≤ 60 * 65536 then some 3 else if o ≤ 80 * 65536 then some 8 else none

def aoaMeas (h : GeoHead) (az el : Nat) (axis1 : Bool) : List FixMeas :=
  if az = 0x8000 then []
  else
    match aoaDeg az el axis1 with
    | some d => [.aoa h.pose az el axis1 d]
    | none => []

/-- This hub's clapper is LOCKED: that of the master always is (R355). -/
def clapLocked (s : Hub) : Bool := decide (s.hubIndex = s.masterHub) || decide (s.casc.clap = .locked)

/-- Listeners a fix uses (R328): a sighting without FP_SUSPECT, from a head the geometry knows, with the clapper LOCKED. -/
def usedListeners (s : Hub) (g : Geometry) (t : Take) : List (Listener × GeoHead) :=
  if clapLocked s then
    (t.sights.filter (fun l => !l.suspect)).filterMap (fun l => (g.head l.hub l.bay).map (fun h => (l, h)))
  else []

/-- The measurements of one listener: all of them go when it is rejected (R329). -/
def listenerMeas (s : Hub) (t : Take) (own : GeoHead) (p : Listener × GeoHead) : List FixMeas :=
  let l := p.1
  let d : Int := ((l.toa : Int) - t.meas.toa) * 256 + ((l.toaFrac : Int) - t.meas.toaFrac)
  .tdoa p.2.pose own.pose d (if l.hub = s.hubIndex then 40 else 80) l.fpq :: aoaMeas p.2 l.az l.el l.axis1

def rangeMeas (t : Take) (c : RangeCfg) (own : GeoHead) : FixMeas :=
  .range own.pose (own.antenna (t.txAnt c)) t.meas.rangeMm t.meas.fpq (if t.meas.suspect || t.meas.edge then 4 else 1)

/-- Own range, own angles and height. -/
def ownMeas (t : Take) (c : RangeCfg) (own : GeoHead) (r : GeoBay) : List FixMeas :=
  [rangeMeas t c own] ++ (if t.meas.aoaValid then aoaMeas own t.meas.az t.meas.el t.meas.axis1 else []) ++ [.height r.zToken r.zSigma]

/-- Twice the signed area of a polygon, and six times its first moments. -/
def polygonSums (v : List (Int × Int)) : Int × Int × Int :=
  (List.zip v (v.drop 1 ++ v.take 1)).foldl (fun a e =>
    let c := e.1.1 * e.2.2 - e.2.1 * e.1.2
    (a.1 + c, a.2.1 + (e.1.1 + e.2.1) * c, a.2.2 + (e.1.2 + e.2.2) * c)) (0, 0, 0)

/-- The centroid of a polygon at a height, in µm. -/
def centroid (r : GeoBay) : Point :=
  let m := polygonSums r.verts
  let d := (3 * m.1).toNat
  { x := openDiv (1000 * m.2.1) d, y := openDiv (1000 * m.2.2) d, z := 1000 * (r.zToken : Int) }

/-- The point the loop begins at. -/
def fixFrom (t : Take) (own : GeoHead) (r : GeoBay) : Point :=
  if t.meas.aoaValid then Config.fixStart own.pose t.meas.rangeMm t.meas.az t.meas.el t.meas.axis1 else centroid r

/-- The loop of R329: at most `n` steps, until one is shorter than 1 mm. -/
def fixLoop : Nat → List FixMeas → Point → Option Point
  | 0, _, _ => none
  | n + 1, ms, p =>
    match Config.fixStep ms p with
    | none => none
    | some d =>
      let q : Point := { x := p.x + d.x, y := p.y + d.y, z := p.z + d.z }
      if d.x ^ 2 + d.y ^ 2 + d.z ^ 2 < 1000000 ^ 2 then some q else fixLoop n ms q

/-- A fix with the masses before they are cut down to notice fields. -/
structure FixEval where
  fix : Fix := {}
  own : Nat := 0
  comp : Nat := 0
  /-- Another hub's sighting was used. -/
  cascade : Bool := false
  deriving DecidableEq, Repr

/-- A mass as the notices carry it: floor(P × 65,536), saturated. -/
def massField (m : Nat) : Nat := min 65535 (m * 65536 / 1000000000)

/-- P ≥ 0.99, P ≤ 0.005 and the other bounds of R331 are read from masses in 10^-9. -/
def massOf (p : Point) (c : Spread) (r : GeoBay) : Nat := Config.polygonMass p c r.verts

/-- The bay record with the largest mass of a list. -/
def heaviest (p : Point) (c : Spread) : List GeoBay → Option (GeoBay × Nat)
  | [] => none
  | r :: l =>
    match heaviest p c l with
    | none => some (r, massOf p c r)
    | some (q, m) => if m ≤ massOf p c r then some (r, massOf p c r) else some (q, m)

/-- The fix of a take, once its loop has converged at `p` on the listeners kept. -/
def fixFinish (s : Hub) (b : Nat) (g : Geometry) (t : Take) (c : RangeCfg) (own : GeoHead) (r : GeoBay) (kept : List (Listener × GeoHead))
    (nrej : Nat) (p : Point) : Option FixEval :=
  let sp := Config.fixSpread (ownMeas t c own r ++ kept.flatMap (listenerMeas s t own)) p
  if 2000000 < sp.major then none
  else
    let others := g.bays.filter (fun x => !(x.hub == s.hubIndex && x.bay == b))
    let best := heaviest p sp others
    let mo := massOf p sp r
    let mc := (best.map (·.2)).getD 0
    some
      { own := mo, comp := mc, cascade := kept.any (fun l => l.1.hub != s.hubIndex)
        fix :=
          { ok := true, disagree := decide (1 < nrej) || Config.fixOutlier (rangeMeas t c own) p, nrej := nrej, nsight := kept.length
            pOwn := massField mo, pComp := massField mc
            compBay := match best with
              | some (x, m) => if m = 0 then 0xFFFF else x.hub * 256 + x.bay
              | none => 0xFFFF
            other99 := (others.find? (fun x => x.hub == s.hubIndex && decide (990000000 ≤ massOf p sp x))).map (·.bay)
            x := openDiv p.x 1000, y := openDiv p.y 1000, z := openDiv p.z 1000
            sigMaj := min 65535 (openDiv sp.major 1000).toNat, sigMin := min 65535 (openDiv sp.minor 1000).toNat, axis := sp.axis } }

/-- The fix of R329 on the evidence of a take; and how many listeners were rejected. -/
def takeFix (s : Hub) (b : Nat) (t : Take) (c : RangeCfg) : Option FixEval × Nat :=
  match t.geom with
  | none => (none, 0)
  | some g =>
    match g.head s.hubIndex b, g.bayRec s.hubIndex b with
    | some own, some r =>
      let ls := usedListeners s g t
      let all := fun (k : List (Listener × GeoHead)) => ownMeas t c own r ++ k.flatMap (listenerMeas s t own)
      (match fixLoop 10 (all ls) (fixFrom t own r) with
       | none => (none, 0)
       | some p =>
         let kept := ls.filter (fun l => !(listenerMeas s t own l).any (fun m => Config.fixOutlier m p))
         let nrej := ls.length - kept.length
         if nrej = 0 then (fixFinish s b g t c own r kept 0 p, 0)
         else
           match fixLoop 10 (all kept) p with
           | none => (none, nrej)
           | some q => (fixFinish s b g t c own r kept nrej q, nrej))
    | _, _ => (none, 0)

end Sys2Proof.Machine
end

