-- ==== Sys2Proof/Machine/TakePlan.lean ====
section
/-! DEFINITION. Planning a take and its listens (R41, R68, R263, R268, R326, R779): candidates, listen requests, and the listening region's side. -/

namespace Sys2Proof.Machine

/-! ## Cascade evidence (R351) -/

/-- The first 8 bytes of a digest, as GEOM_TAG carries them. -/
def geomTag (g : Geometry) : Nat := leNat ((toLe 32 g.digest.toNat).reverse.take 8)

/-- Cascade evidence with a hub is in use: the side toward it UP, the geometries alike, and this clapper LOCKED. -/
def evidenceWith (s : Hub) (hub : Nat) : Bool :=
  let x := sideAt s (sideToward s hub)
  match s.geom with
  | some g => decide (x.state = .up) && decide (x.geomVersion = g.version) && decide (x.geomTag = geomTag g) && clapLocked s
  | none => false

/-! ## Candidates (R326) -/

/-- A bay's own takes and sightings count: calibrated, or its policy lets it (R117, R779). -/
def calibrationOk (s : Hub) (b : Nat) : Bool := calibrated s b || (s.bay b).bindCfg.allowUncal

/-- A head of this hub can be asked to listen. -/
def headServes (s : Hub) (b : Nat) : Bool :=
  s.bayPresent b && decide ((s.bay b).st ≠ .offline) && decide ((s.bay b).st ≠ .fault) && decide ((s.region (regionOf b)).st = .active) &&
    calibrationOk s b

/-- A head that is asked to listen does not decline at once (R68). -/
def listenServes (s : Hub) (b : Nat) : Bool :=
  let r := (s.region (regionOf b)).st
  s.bayPresent b && decide ((s.bay b).st ≠ .offline) && decide ((s.bay b).st ≠ .fault) && decide (r ≠ .quarantined) && decide (r ≠ .off)

/-- The listeners of a take: the first four candidates that are not excluded; none without a geometry (R323). -/
def chooseListeners (s : Hub) (b : Nat) : List Listener :=
  match s.geom with
  | none => []
  | some g =>
    match g.bayRec s.hubIndex b with
    | none => []
    | some r =>
      ((r.cand.filter (fun c => if c.1 = s.hubIndex then headServes s c.2 else evidenceWith s c.1)).take 4).map
        (fun c => { hub := c.1, bay := c.2 })

/-! ## The listening side -/

/-- A slot number of a packet, taken modulo 2^32, as the model counts slots (R47). -/
def unwrapSlot (s : Hub) (v : Nat) : Nat := ((s.slot : Int) + signed 32 ((v + 2 ^ 32 - s.slot % 2 ^ 32) % 2 ^ 32)).toNat

/-- A listen that this region plans for a take. -/
def listenOf (p : Packet) (cal : Option (List Byte)) : ListenReq :=
  { ownHub := p.ownHub, ownHandle := p.ownHandle, sweep := p.sweep, bay := p.lisBay, cal := cal }

/-- A listen request reaches this hub (R68, R268): it plans a parked listen, or names the window of one that is planned; a head that cannot
serve it declines at once. -/
def receiveListen (p : Packet) (s : Hub) : Hub :=
  let b := p.lisBay
  let r := regionOf b
  let from_ := unwrapSlot s (p.toa / 2 ^ 32)
  let upto := unwrapSlot s (p.toa % 2 ^ 32)
  let l := listenOf p (calEntry s b)
  match (s.items r).find? (fun i => decide (i.what = .listen p.ownHub p.ownHandle) && i.bay == b) with
  | some i =>
    let s := s.setRegion r (fun x => { x with listens := x.listens.map (fun m =>
      if m.ownHub = p.ownHub ∧ m.ownHandle = p.ownHandle ∧ m.bay = b then l else m) })
    modItem r i.q (fun i => { i with earliest := from_, latest := upto, parked := false }) s
  | none =>
    let s := s.setRegion r (fun x => { x with listens := x.listens ++ [l] })
    if listenServes s b then
      let e := enqueue false { q := 0, kind := .take, cls := .ranging, bay := b, what := .listen p.ownHub p.ownHandle, parked := true,
                               link := p.ownHandle, earliest := from_, latest := upto, order := s.slot } s
      if e.1.isSome then e.2 else declineListen l (countRefused b e.2)
    else declineListen l s

/-- One listen request goes out; to a head of this hub the ring brings it at once. -/
def requestListen (ownHandle sweep from_ upto : Nat) (l : Listener) (s : Hub) : Hub :=
  let p : Packet := { ptype := ptListen, ownHub := s.hubIndex, ownHandle := ownHandle, lisHub := l.hub, lisBay := l.bay, sweep := sweep
                      toa := from_ % 2 ^ 32 * 2 ^ 32 + upto % 2 ^ 32 }
  let s := sendPacket p s
  if l.hub = s.hubIndex then receiveListen p s else s

/-- Listen requests of a bay's take with a window. -/
def requestListens (b from_ upto : Nat) (s : Hub) : Hub :=
  match (s.bay b).take with
  | none => s
  | some t =>
    t.listeners.foldl (fun s l => if l.state = 0 then requestListen (handle (regionOf b) t.q) (t.takeNo % 65536) from_ upto l s else s) s

/-! ## Enqueueing a take -/

/-- What a take is planned with. -/
structure TakeAsk where
  due : Nat
  latest : Nat
  continuity : Bool := false
  rapid : Bool := false
  noListen : Bool := false
  ref : Option CmdRef := none
  room : Nat := 0
  deriving DecidableEq, Repr

/-- A take enters the call sheet with its listens (R268); no queue: not started. -/
def planTake (b : Nat) (a : TakeAsk) (s : Hub) : Bool × Hub :=
  match (s.bay b).dlgV with
  | none => (false, s)
  | some d =>
    let r := regionOf b
    let e := enqueue (inSession (s.bay b) d)
      { q := 0, kind := if a.continuity then .continuity else .take, cls := .ranging, bay := b, what := .take, earliest := a.due, latest := a.latest
        cred := d.slot, tclass := 0, session := sessionId s b, hostTag := (a.ref.map (·.tag)).getD 0, ref := a.ref, order := s.slot } s
    match e.1 with
    | none => (false, e.2)
    | some q =>
      let s := e.2
      let t : Take := { takeNo := d.takeNo + 1, due := a.due, latest := a.latest, q := q, continuity := a.continuity, rapid := a.rapid
                        noListen := a.noListen, listeners := if a.noListen then [] else chooseListeners s b, ref := a.ref, room := a.room }
      let s := requestListens b a.due a.latest (s.setBay b (fun x => { x with take := some t, rapid := none }))
      let link := ((s.bay b).take.map (fun t => t.listeners)).getD []
      let first := (link.find? (fun l => l.hub == s.hubIndex)).bind (fun l =>
        ((s.items (regionOf l.bay)).find? (fun i => decide (i.what = .listen s.hubIndex (handle r q)) && i.bay == l.bay)).map
          (fun i => handle (regionOf l.bay) i.q))
      (true, modItem r q (fun i => { i with link := first.getD 0xFFFFF }) s)

/-- R298: does a take carry RAPID? `want` says that R297 or the first BOUND's rule asks for it. -/
def rapidSelected (d : Dialogue) (want : Bool) : Bool := want && d.cfg.rapidMode != .off && d.dTok.isSome

end Sys2Proof.Machine
end

