-- ==== Sys2Proof/Machine/Bind.lean ====
section
/-! DEFINITION. Evaluating takes and moving class V verdicts (R331 to R341), continuity (R297, R333, R626, R734) and the verdict timers. -/

namespace Sys2Proof.Machine

/-! ## Evaluation (R331) -/

/-- The exchange holds the distance bound. -/
def Rapid.within (x : Rapid) (mm : Nat) : Bool := x.outcome == some .rapidOk && decide (x.maxD ≤ mm)
def Rapid.exceeds (x : Rapid) (mm : Nat) : Bool := x.outcome == some .rapidOk && decide (mm < x.maxD)

/-- A CONFLICT, with its reason. -/
def conflictOf (t : Take) (x : Option Rapid) (d : Dialogue) (f : Option FixEval) : Option BindReason :=
  let o := t.outcome
  let ro := x.bind (·.outcome)
  if o = some .stsMismatch ∨ o = some .reportBad ∨ o = some .clockOdd ∨ ro = some .early ∨ ro = some .wrongBit then some .authenticity
  else if (x.map (fun x => x.exceeds d.cfg.boundMm)).getD false then some .overBound
  else if (f.map (fun f => decide (200000000 ≤ f.comp))).getD false then some .competitor
  else none

/-- The result of a take and its exchange, by the first row of R331 that applies. -/
def evalTake (t : Take) (x : Option Rapid) (d : Dialogue) (f : Option FixEval) : TakeEval :=
  let rapidFine := !t.rapid || (x.map (fun x => x.within d.cfg.boundMm)).getD false
  if (conflictOf t x d f).isSome then .conflict
  else
    match t.ok, f with
    | true, some f =>
      if !t.meas.suspect && !t.meas.edge && !f.fix.disagree && decide (990000000 ≤ f.own) && decide (f.comp ≤ 5000000) && rapidFine then
        .qualifying
      else if decide (900000000 ≤ f.own) && decide (f.comp < 200000000) && rapidFine then .holding
      else if 500000000 ≤ f.own then .weak else .miss
    | _, _ => .miss

/-- What the notices of an evaluation carry (R347, R454). -/
def evidenceOf (t : Take) (x : Option Rapid) (f : Option FixEval) : BindEvidence :=
  let counted := (x.map (fun x => x.outcome == some .rapidOk)).getD false
  { flags := 4 * b2n counted + 8 * b2n t.meas.suspect + 16 * b2n ((f.map (·.cascade)).getD false), evidence := t.number
    boundMm := if counted then x.bind (·.bound) else none, fix := (f.map (·.fix)).getD {} }

/-! ## Gates (R334) -/

def closedGate (s : Hub) (b : Nat) (d : Dialogue) : Option BindReason :=
  if s.geom.isNone then some .noGeometry
  else if !calibrated s b && !d.bcfg.allowUncal then some .uncalibrated
  else if d.cfg.rapidMode = .required ∧ d.dTok.isNone then some .rapidRequired
  else none

/-- A move into BOUND, where every gate is open; a closed one is told once. At the first BOUND the continuity grid is anchored (R333), and
verdicts that REQUIRE_V held back count as BOUND (R346). -/
def tryBound (b : Nat) (t : Take) (ev : BindEvidence) (s : Hub) : Hub :=
  match (s.bay b).dlgV with
  | none => s
  | some d =>
    match closedGate s b d with
    | some g =>
      if d.gateTold = some g then s
      else bindNotice b .v d d.verdict d.verdict g t.number ev (modDlg b .v (fun d => { d with gateTold := some g }) s)
    | none =>
      let s := if d.everBound then s
        else modDlg b .v (fun d => { d with gridAnchor := t.pollSlot, gridCount := 0, nextDue := some (t.pollSlot + 20000) }) s
      releaseRequireV b (moveVerdict b .v .bound .takesAgree t.number ev s)

/-- The pair of R334: whether this QUALIFYING take completes it, and the take it runs from. -/
def pairStep (d : Dialogue) (t : Take) (e : TakeEval) : Bool × Option Nat :=
  if e = .qualifying then
    match d.pairFrom with
    | some p => (decide (p + ticksUs 500000 ≤ t.tPoll), some p)
    | none => (false, some t.tPoll)
  else (false, none)

/-- The class V verdict moves on a result (R335). -/
def moveOnResult (b : Nat) (t : Take) (e : TakeEval) (why : BindReason) (ev : BindEvidence) (s : Hub) : Hub :=
  match (s.bay b).dlgV with
  | none => s
  | some d =>
    let p := pairStep d t e
    let miss := if e = .miss then d.missRun + 1 else 0
    let bad := if e = .miss ∨ e = .weak then d.badRun + 1 else 0
    let s := modDlg b .v (fun d => { d with pairFrom := p.2, missRun := miss, badRun := bad }) s
    let go := fun (v : Verdict) (r : BindReason) => moveVerdict b .v v r t.number ev
    match d.verdict, e with
    | .unseen, .conflict => go .contested why s
    | .unseen, .miss => s
    | .unseen, _ => go .candidate .lowMass s
    | .candidate, .conflict => go .contested why s
    | .candidate, .miss => if 3 ≤ miss then go .unseen .misses s else s
    | .candidate, .qualifying => if p.1 then tryBound b t ev s else s
    | .candidate, _ => s
    | .bound, .conflict => go .contested why s
    | .bound, .miss => if 2 ≤ bad then go .lost .misses s else s
    | .bound, .weak => if 2 ≤ bad then go .lost .misses s else s
    | .bound, _ => s
    | .contested, .qualifying => if p.1 then tryBound b t ev s else s
    | .contested, _ => s
    | .lost, .qualifying => tryBound b t ev s
    | .lost, .conflict => go .contested why s
    | .lost, _ => s

/-! ## The end of a take -/

/-- The slot in which the next take of a dialogue not yet BOUND falls due (R333). -/
def nextAfter (t : Take) : Nat := (if t.tPoll = 0 then t.due else t.pollSlot) + 5000

/-- TAKE completes with its records (R543). -/
def finishTake (b : Nat) (t : Take) (x : Option Rapid) (d : Dialogue) (e : TakeEval) (s : Hub) : Hub :=
  match t.ref with
  | none => s
  | some c =>
    let v := (((s.bay b).dlgV).map (·.verdict)).getD .unseen
    finish c (takeFinal t x) (takeResult s b t x d e v) (takeData s b t x d) s

/-- The bay another take shows the token to stand in, where the dialogue is handed over (R341). -/
def handoverTo (s : Hub) (b : Nat) (f : Option FixEval) (d : Dialogue) : Option Nat :=
  if inSession (s.bay b) d then none
  else
    match f.bind (fun f => f.fix.other99) with
    | some o => if o < 128 ∧ (s.bay o).st = .watch then some o else none
    | none => none

/-- Discovery at the bay a token is handed to: authenticated afresh, with the probe of a blink. -/
def discover (b : Nat) (tok : Nat) (s : Hub) : Hub := engageAuth b .v 0 tok [] s

/-- A take and its exchange are evaluated (R331, R332): counters, the verdict, the next take, the host command that ran it. -/
def evaluate (b : Nat) (s : Hub) : Hub :=
  match (s.bay b).take, (s.bay b).dlgV with
  | some t, some d =>
    let x := if t.ok then (s.bay b).rapid else none
    let fx := if t.ok then takeFix s b t d.cfg else (none, 0)
    let f := fx.1
    let e := evalTake t x d f
    let s := s.setBay b (fun y => { y with take := none, rapid := none })
    let s := if t.ok then countBind b (fun c =>
        { c with fixOk := satAdd c.fixOk (b2n f.isSome), fixFail := satAdd c.fixFail (b2n f.isNone), listenReject := satAdd c.listenReject fx.2 }) s
      else s
    let s := countBind b (fun c => { c with qualifying := satAdd c.qualifying (b2n (e == .qualifying)), conflict := satAdd c.conflict (b2n (e == .conflict)) }) s
    match handoverTo s b f d with
    | some o =>
      let s := countBind b (fun c => { c with handedOver := satAdd c.handedOver 1 }) s
      let s := endDialogue b .v .tokenElsewhere s
      discover o d.token (finishTake b t x d e s)
    | none =>
      let s := if d.everBound then s else modDlg b .v (fun d => { d with nextDue := some (nextAfter t) }) s
      finishTake b t x d e (moveOnResult b t e ((conflictOf t x d f).getD .none_) (evidenceOf t x f) s)
  | _, _ => s

/-- A take that the hub would have started gets no queue (R44): it is evaluated as a MISS. -/
def missTake (b : Nat) (due : Nat) (continuity : Bool) (s : Hub) : Hub :=
  match (s.bay b).dlgV with
  | none => s
  | some d =>
    let t : Take := { takeNo := 0, due := due, latest := due, q := queuesTotal, continuity := continuity, outcome := some .notRun, status := .noResource }
    let s := countRefused b s
    let s := if d.everBound then s else modDlg b .v (fun d => { d with nextDue := some (nextAfter t) }) s
    moveOnResult b t .miss .none_ (evidenceOf t none none) s

/-! ## Takes that fall due -/

/-- A take after an arrival that has fallen due by slot `n` is enqueued (R49, R298, R333). -/
def arrivalTake (b n : Nat) (s : Hub) : Hub :=
  match (s.bay b).dlgV with
  | none => s
  | some d =>
    match d.nextDue with
    | none => s
    | some due =>
      if d.everBound || d.auth.phase != .done || decide (n < due) || (s.bay b).take.isSome then s
      else
        let p := planTake b { due := due, latest := due + 500, rapid := rapidSelected d true } s
        if p.1 then modDlg b .v (fun d => { d with nextDue := none }) p.2 else missTake b due false p.2

/-- The bay's continuity takes are held back (R626, R637). -/
def takesHeld (s : Hub) (b : Nat) : Bool := !bayPlans s b

/-- Does R297 select this continuity take, the `n`-th, or R734 owe one? -/
def rechecks (d : Dialogue) (n : Nat) : Bool := d.rapidOwed || (d.cfg.rapidRecheck != 0 && n % d.cfg.rapidRecheck == 0)

/-- CONTINUITY_TAKE_DUE (R333, R626, R734): the take is enqueued and the grid goes on; while the bay's takes are held back it only waits. -/
def continuityDue (b : Nat) (s : Hub) : Hub :=
  match (s.bay b).dlgV with
  | none => s
  | some d =>
    match d.nextDue with
    | none => s
    | some due =>
      if !d.everBound || decide (s.slot < due) || (s.bay b).take.isSome then s
      else if takesHeld s b then modDlg b .v (fun d => { d with contHeld := true }) s
      else
        let at_ := if d.contHeld then firstOpenSlot s (regionOf b) else due
        let n := d.gridCount + 1
        let want := rechecks d n && d.cfg.rapidMode != .off && d.dTok.isSome
        let rng := s.rng.available && !s.rng.rawActive
        let s := modDlg b .v (fun d =>
          { d with contHeld := false, gridCount := n, nextDue := some (at_ + 20000), gridAnchor := if d.contHeld then at_ else d.gridAnchor
                   rapidOwed := want && !rng }) s
        let p := planTake b { due := at_, latest := at_ + 2000, continuity := true, rapid := rapidSelected d (want && rng) } s
        if p.1 then p.2 else missTake b at_ true p.2

def execContinuityTakeDue (b : Nat) : State → Turn := onHub fun s => atBay b s (continuityDue b)

/-! ## Timers (R335 to R337) -/

/-- LOST_TIMEOUT (R336): more than 10 s LOST. -/
def execLostTimeout (b : Nat) (k : TokenClass) : State → Turn := onHub fun s =>
  atBay b s (fun s =>
    match (s.bay b).dlg k with
    | none => s
    | some d =>
      if d.verdict = .lost ∧ s.passed d.since (sec 10) then
        if inSession (s.bay b) d then trigger b cTokenLost s else endDialogue b k .dialogueEnd s
      else s)

/-- CONTESTED_TIMEOUT (R335): in an open session, 10 s without a return to BOUND. -/
def execContestedTimeout (b : Nat) (k : TokenClass) : State → Turn := onHub fun s =>
  atBay b s (fun s =>
    match (s.bay b).dlg k with
    | none => s
    | some d =>
      if k = .v ∧ d.verdict = .contested ∧ s.passed d.since (sec 10) ∧ inSession (s.bay b) d then
        moveVerdict b k .lost .competitor 0 {} s
      else s)

/-- ENGAGE_LIMIT_EXPIRY (R337, R346): without a first BOUND, or without SESSION_AUTHORIZE after it. -/
def execEngageLimitExpiry (b : Nat) (k : TokenClass) : State → Turn := onHub fun s =>
  atBay b s (fun s =>
    match (s.bay b).dlg k with
    | none => s
    | some d =>
      match d.limitFrom with
      | none => s
      | some t => if s.passed t (sec d.bcfg.engageLimit) && !inSession (s.bay b) d then endDialogue b k .dialogueEnd s else s)

end Sys2Proof.Machine
end

