-- ==== Sys2Proof/Machine/Release.lean ====
section
/-! DEFINITION. The release controller (R408 to R447): interval boundaries, handover of ownership, frames from a BPC, meter readings, bus-off,
and the host commands on a session's release (R550 to R554). -/

namespace Sys2Proof.Machine

/-! ## Boundaries -/

/-- Does release run at a bay: enabled, its region not OFF and not power-gated (R421), the hub in service? -/
def relRuns (s : Hub) (b : Nat) : Bool :=
  let r := s.region (regionOf b)
  (s.rel b).cfg.enable && s.bayPresent b && s.fwReady && decide (s.pwr.chip ≠ .s3) &&
  (match r.st with | .active => true | .draining => true | .splicing => true | .quarantined => true | .off => false) &&
  (match r.power with | .s0 => true | .s1 => true | .s2 => false | .off => false)

/-- Is the running slot a boundary of the bay that has not been taken (R421, R422)? Back from a TPLL coast, only at least half an interval
after the last message (R656). -/
def boundaryDue (s : Hub) (b : Nat) : Bool :=
  let r := s.rel b
  relRuns s b && !s.clk.tpll.coast && isBoundary s.slot (localBay b) r.period && decide (r.lastBoundary ≠ s.slot + 1) &&
  (match s.clk.tpllBack with
   | none => true
   | some t => decide (t < r.lastBoundaryAt) || s.passed r.lastBoundaryAt (ms r.cfg.interval / 2))

/-- While the TPLL coasts: one interval after the last boundary (R656). -/
def coastBoundaryDue (s : Hub) (b : Nat) : Bool :=
  relRuns s b && s.clk.tpll.coast && s.passed (s.rel b).lastBoundaryAt (ms (s.rel b).cfg.interval)

/-- The supervisor is to take the release of a region's bays: the drain of a splice is over, or the region is QUARANTINED (R445, R638). -/
def takesOver (s : Hub) (r : Nat) : Bool :=
  let x := s.region r
  match x.restart with
  | some y => (match y.phase with | .takeover => true | .restarting => true | .draining => false | .handback => false)
  | none => decide (x.st = .quarantined)

/-- The sequencer is to take the release back (R640). -/
def givesBack (s : Hub) (r : Nat) : Bool :=
  let x := s.region r
  match x.restart with
  | some y => (match y.phase with | .handback => true | .draining => false | .takeover => false | .restarting => false)
  | none => decide (x.st = .active)

/-- The region sequencer hands frames over: it runs and has not halted (R624). -/
def sequencerRuns (s : Hub) (r : Nat) : Bool := (s.region r).seqRuns && !(s.region r).halted && !bit s.boot.regHeld r

/-- The result of a SESSION_AUTHORIZE that ends OK (R549). -/
def authResult (s : Hub) (b : Nat) (x : Session) : List Fld :=
  [⟨8, 8, x.id⟩, ⟨16, 8, x.seqOpen⟩, ⟨24, 8, x.eStart.getD 0⟩, ⟨32, 4, relSeq s b⟩, ⟨36, 1, b2n x.permitWas⟩]

/-- The first RELEASE of a session (R20 step 4, R548, R549): its authorisation completes, the bay is CHARGING, and held triggers act. -/
def firstRelease (b : Nat) (x : Session) (s : Hub) : Hub :=
  let s := finishOpt x.ref .ok (authResult s b x) s
  let s := setSess b (fun y => { y with phase := .charging, ref := none }) s
  let s := s.setBay b (fun y => { y with st := if y.st = .engaged then .charging else y.st })
  let s := setRel b (fun r => { r with want := .release, cause := .authorisation, lastStatus := s.now, lastMeter := s.now }) s
  let s := sendRelease b .release .authorisation s
  releaseHeld b s

/-- A boundary in the wrap after the CUT (R425): the end reading is asked for after three intervals. -/
def cutBoundary (b : Nat) (s : Hub) : Hub :=
  let s := setSess b (fun x => { x with cutIntervals := x.cutIntervals + 1 }) s
  match (s.bay b).sess with
  | some x => if x.phase = .cutting ∧ 3 ≤ x.cutIntervals ∧ !wrapHeld s b then endReading b s else s
  | none => s

/-- What the region sequencer sends at a boundary, by the course of the session (R421, R424, R425). -/
def sequencerBoundary (b : Nat) (s : Hub) : Hub :=
  match (s.bay b).sess with
  | none => sendRelease b .cut (s.rel b).cause s
  | some x =>
    match x.phase with
    | .opening => sendRelease b .cut (s.rel b).cause s
    | .reading => sendRelease b .cut (s.rel b).cause s
    | .starting => sendRelease b .cut (s.rel b).cause s
    | .aborting => sendRelease b .cut (s.rel b).cause s
    | .permitted => firstRelease b x s
    | .charging => sendRelease b (s.rel b).want (s.rel b).cause s
    | .holding =>
      (match x.holdAt with
       | none => setSess b (fun y => { y with holdAt := some s.now }) (sendRelease b .hold .wrap s)
       | some t =>
         if x.cutDue || s.passed t (ms (100 * x.holdTime)) then enterCutting b (sendRelease b .cut .wrap s)
         else sendRelease b .hold .wrap s)
    | .cutting => cutBoundary b (sendRelease b .cut .wrap s)
    | .ending => sendRelease b .cut .wrap s
    | .sealing => sendRelease b .cut .wrap s

/-- What the supervisor sends (R444, R445): the state and class of the handover; CUT throughout in a region quarantined with CUT. -/
def supervisorBoundary (b : Nat) (s : Hub) : Hub :=
  let r := s.region (regionOf b)
  let st : RelState := if r.st = .quarantined ∧ r.quarMode = .cut then .cut else (s.rel b).state
  sendRelease b st .quarCut s

/-- A boundary at which nothing can be sent (R418, R419, R425, R834). -/
def stalledBoundary (b : Nat) (s : Hub) : Hub :=
  let first := !(s.rel b).stallTold
  let s := if first then
      setRel b (fun r => { r with stallTold := true }) (relNotice b .cut (s.rel b).state .seqUnavailable (lastRelSeq s b) s)
    else s
  match (s.bay b).sess with
  | none => s
  | some x =>
    let s := if x.charging || x.authorizing || (first && x.wrapping) then trigger b cRelSeq s else s
    if x.phase = .cutting then cutBoundary b s
    else if ((s.bay b).sess.map (·.phase)) = some .holding then enterCutting b s
    else s

/-- Handback of a bay (R640): what was held takes effect; a wrap that stood still goes on. -/
def handedBack (b : Nat) (s : Hub) : Hub := resumeMeter b (releaseHeld b s)

/-- Ownership changes at this boundary (R76, R638, R640, R447). -/
def takeOwnership (b : Nat) (sup : Bool) (s : Hub) : Hub :=
  let s := setRel b (fun r => { r with supervisor := sup }) s
  let s := if sup then
      (setSess b (fun x => { x with proxyUsed := true }) s).setRegion (regionOf b) (fun x => { x with ownFrom := some (x.ownFrom.getD s.now) })
    else s
  relNotice b (s.rel b).state (s.rel b).state .ownerChange (relSeq s b) s

/-- An interval boundary of a bay (R421 to R425, R76). -/
def boundary (b : Nat) (s : Hub) : Hub :=
  let r := regionOf b
  let s := setRel b (fun x => { x with lastBoundary := s.slot + 1, lastBoundaryAt := s.now, period := 10 * x.cfg.interval }) s
  let own := (s.rel b).supervisor
  let back := own && givesBack s r
  let s := if !own && takesOver s r then takeOwnership b true s else if back then takeOwnership b false s else s
  let sup := (s.rel b).supervisor
  if !sup && !sequencerRuns s r then s
  else
    let s := match (s.rel b).syncFor with
      | some n => if busSends s r then sendSync b n s else s
      | none => s
    let s := if !canSend s b then stalledBoundary b s
      else
        let s := setRel b (fun x => { x with stallTold := false }) s
        if sup then supervisorBoundary b s else sequencerBoundary b s
    if back then handedBack b s else s

/-- RELEASE_FRAME_LATE (R423): a frame not complete 5 ms after its boundary is counted, and still sent. -/
def execReleaseFrameLate (b : Nat) : State → Turn := onHub fun s =>
  atBay b s (fun s =>
    match (s.rel b).txSince with
    | some t =>
      if s.passed t (ms 5) && !(s.rel b).txLate then
        setRel b (fun r => { r with txLate := true, cnt := { r.cnt with txLate := satAdd r.cnt.txLate 1 } }) s
      else s
    | none => s)

/-- SAFETY_CUT_SEND (R426): safety-cut frames that waited for a bay's controller go out ahead of its other traffic. -/
def execSafetyCutSend (b : Nat) : State → Turn := onHub fun s =>
  atBay b s (fun s =>
    let r := regionOf b
    if busSends s r && ((s.region r).bus.cutFrames.any (fun c => c.1 == b)) then busDrain r s else s)

/-- HOLD_TIME_EXPIRY (R425): the next boundary sends CUT. -/
def execHoldTimeExpiry (b : Nat) : State → Turn := onHub fun s =>
  atBay b s (fun s =>
    match (s.bay b).sess with
    | some x =>
      (match x.phase, x.holdAt with
       | .holding, some t => if s.passed t (ms (100 * x.holdTime)) then setSess b (fun y => { y with cutDue := true }) s else s
       | _, _ => s)
    | none => s)

/-! ## Frames from the bus -/

/-- A frame is discarded and counted (R409, R411, R412). -/
def foreign (r : Nat) (s : Hub) : Hub := setBus r (fun u => { u with foreign := satAdd u.foreign 1 }) s

/-- The controller of a region receives: its region is powered and the hub is in service. -/
def busHears (s : Hub) (r : Nat) : Bool := s.regionPresent r && !(s.region r).bus.stbyHigh && s.fwReady

/-- Payload length of a frame type (R411). -/
def frameBytes (typ : Nat) : Nat := if typ = 0x28 then 64 else if typ = 0x29 then 48 else if typ = 0x08 ∨ typ = 0x30 then 32 else 0

/-- A BPC frame of the type expected, for the bay its identifier names; any other is foreign. -/
def bpcFrame (typ r ident : Nat) (f : List Byte) (k : Nat → Hub → Hub) (s : Hub) : Hub :=
  if !busHears s r then s
  else if ident / 16 ≠ typ ∨ f.length ≠ frameBytes typ then foreign r s
  else k (16 * r + ident % 16) s

/-- BPC status flags. -/
def fPlugged : Nat := 0
def fZeroCurrent : Nat := 2
def fBpcFault : Nat := 4
def fSyncReq : Nat := 5

/-- What an accepted status does to a running wrap (R425). -/
def statusWrap (b : Nat) (applied fl : Nat) (s : Hub) : Hub :=
  match (s.bay b).sess with
  | none => s
  | some x =>
    match x.phase with
    | .holding =>
      if x.holdAt.isSome && applied == 1 && bit fl fZeroCurrent then setSess b (fun y => { y with cutDue := true }) s else s
    | .cutting => if applied = 0 ∧ !wrapHeld s b then endReading b s else s
    | .opening => s | .reading => s | .starting => s | .permitted => s | .charging => s | .ending => s | .sealing => s | .aborting => s

/-- Acceptance of a status or urgent frame (R432 to R435). -/
def bpcAccept (b : Nat) (f : List Byte) (s : Hub) : Hub :=
  let old := (s.rel b).bpc
  let fl := fld f 19 1
  let st : BpcStatus :=
    { bseq := some (fld f 2 4), flags := fl, applied := fld f 18 1, current := fld f 20 2, lastSeq := fld f 14 4, faultCode := fld f 22 2 }
  let s := setRel b (fun r => { r with bpc := st, lastStatus := s.now }) s
  let s := if bit old.flags fPlugged && !bit fl fPlugged && isCharging s b then trigger b cUnplug s else s
  let fresh := match (s.bay b).sess with
    | some x => bit fl fBpcFault && (isCharging s b || isWrapping s b) && (!x.bpcFaultTaken || !bit old.flags fBpcFault)
    | none => false
  let s := if fresh then trigger b cBayFault (setSess b (fun x => { x with bpcFaultTaken := true }) s) else s
  let s := statusWrap b (fld f 18 1) fl s
  if bit fl fSyncReq then
    if busSends s (regionOf b) then sendSync b (fld f 6 8) s else setRel b (fun r => { r with syncFor := some (fld f 6 8) }) s
  else s

/-- A status or urgent frame of a bay: MAC and BSEQ are judged (R433). -/
def bpcStatus (b : Nat) (f : List Byte) (s : Hub) : Hub :=
  if fld f 1 1 ≠ b then foreign (regionOf b) s
  else
    let newer := match (s.rel b).bpc.bseq with
      | none => true
      | some n => decide (n < fld f 2 4)
    if (vaultKey s 0x04 b).present && (f.drop 24).take 8 == mac8 (kUp s b) (f.take 24) && newer then bpcAccept b f s
    else setRel b (fun r => { r with cnt := { r.cnt with statusBad := satAdd r.cnt.statusBad 1 } }) s

/-- BPC_STATUS (R433). -/
def execBpcStatus (r ident : Nat) (f : List Byte) : State → Turn := onHub fun s => atRegion r s (bpcFrame 0x30 r ident f (fun b => bpcStatus b f))

/-- BPC_URGENT (R433). -/
def execBpcUrgent (r ident : Nat) (f : List Byte) : State → Turn := onHub fun s => atRegion r s (bpcFrame 0x08 r ident f (fun b => bpcStatus b f))

/-- FOREIGN_FRAME (R409, R411): a frame of a wrong kind, of an unknown identifier, or of a type only the hub sends. -/
def execForeignFrame (r ident : Nat) (f : List Byte) : State → Turn := onHub fun s =>
  atRegion r s (fun s =>
    let t := ident / 16
    let known := decide (ident < 2048) && (t == 0x08 || t == 0x28 || t == 0x29 || t == 0x30) && f.length == frameBytes t
    if busHears s r && !known then foreign r s else s)

/-- BPC_SILENT (R433). -/
def execBpcSilent (b : Nat) : State → Turn := onHub fun s =>
  atBay b s (fun s =>
    if isCharging s b && s.passed (s.rel b).lastStatus (sec 3) then
      trigger b cBayFault (setRel b (fun r => { r with cnt := { r.cnt with silent := satAdd r.cnt.silent 1 } }) s)
    else s)

/-! ## Meter readings (R437 to R443, R476) -/

def meterBad (b : Nat) (s : Hub) : Hub := setRel b (fun r => { r with cnt := { r.cnt with meterBad := satAdd r.cnt.meterBad 1 } }) s

/-- METER_A (R438): held for its METER_B; one that replaces another discards it. -/
def meterA (b : Nat) (f : List Byte) (s : Hub) : Hub :=
  if fld f 0 1 ≠ 0 ∨ fld f 1 1 ≠ 0 then meterBad b s
  else
    let s := if (s.rel b).meterA.isSome then meterBad b s else s
    setRel b (fun r => { r with meterA := some (f, s.now) }) s

def execMeterA (r ident : Nat) (f : List Byte) : State → Turn := onHub fun s => atRegion r s (bpcFrame 0x28 r ident f (fun b => meterA b f))

/-- Fields of a meter record. -/
def recEnergy (r : Reading) : Nat := fld r.record 16 8
def recReadNo (r : Reading) : Nat := fld r.record 24 4
def recKind (r : Reading) : Nat := fld r.record 40 1
def recStatus (r : Reading) : Nat := fld r.record 41 1

/-- The signature of a reading verifies under the bay's meter key. -/
def meterSigned (s : Hub) (b : Nat) (r : Reading) : Bool :=
  (vaultKey s 0x05 b).present &&
  Config.ecdsaVerify (BitVec.ofNat 512 (vaultKey s 0x05 b).val) (Config.sha256 r.record) (sigOf r.sig)

/-- Does the reading answer the request in progress, or is it a periodic one (R440)? -/
def meterMatches (s : Hub) (b : Nat) (r : Reading) : Bool :=
  if recKind r = 3 then fld r.record 32 8 == 0
  else match (s.rel b).req with
    | some q => q.deadline != 0 && fld r.record 32 8 == q.nonce
    | none => false

/-- The rule of acceptance (R440). -/
def meterAcceptable (s : Hub) (b : Nat) (r : Reading) : Bool :=
  let x := s.rel b
  fld r.record 0 8 == x.cfg.meterId && meterSigned s b r &&
  (match x.lastReadNo with | some n => decide (n < recReadNo r) | none => true) &&
  (match x.lastEnergy with | some n => decide (n ≤ recEnergy r) | none => true) && meterMatches s b r

/-- METER_REPORT notice (R563). -/
def meterNotice (b : Nat) (r : Reading) (fl seq : Nat) (s : Hub) : Hub :=
  notice 0x0106 b
    [⟨16, 1, recKind r⟩, ⟨17, 1, recStatus r⟩, ⟨18, 1, fl⟩, ⟨20, 8, sessionId s b⟩, ⟨28, 8, recEnergy r⟩, ⟨36, 4, recReadNo r⟩,
     ⟨40, 4, fld r.record 28 4⟩, ⟨44, 8, seq⟩, ⟨52, 2, (s.rel b).bpc.current⟩] s

/-- The end of METER_READ with its reading (R554). -/
def spotDone (b : Nat) (r : Reading) (logged : Bool) (s : Hub) : Hub :=
  match (s.rel b).req with
  | some q =>
    let s := setRel b (fun x => { x with req := none }) s
    (match q.ref with
     | some c => finish c .ok [⟨8, 8, recEnergy r⟩, ⟨16, 4, recReadNo r⟩, ⟨20, 4, fld r.record 28 4⟩, ⟨24, 1, recStatus r⟩, ⟨25, 1, b2n logged⟩]
         (if 108 ≤ q.room then r.record ++ r.sig else []) s
     | none => s)
  | none => s

/-- An accepted reading that R476 keeps off the reel. -/
def meterThinned (b : Nat) (r : Reading) (s : Hub) : Hub :=
  let s := s.setEng (fun e => { e with cnt := { e.cnt with thinned := satAdd e.cnt.thinned 1 } })
  let s := meterNotice b r 2 0 (setSess b (fun x => { x with thinned := true }) s)
  if recKind r = 3 then s else spotDone b r false s

/-- A SPOT or PERIODIC reading of an open session goes to the reel, subject to R476; otherwise it is posted at once. -/
def meterReport (b : Nat) (r : Reading) (s : Hub) : Hub :=
  let live := isCharging s b || isWrapping s b
  let lvl := fillLevel s
  let recent := match ((s.bay b).sess.bind (·.thinAt)) with
    | some t => decide (s.aon.rtc < t + 900)
    | none => false
  if !live then
    let s := meterNotice b r 0 0 s
    if recKind r = 3 then s else spotDone b r false s
  else if decide (4 ≤ lvl) || (decide (3 ≤ lvl) && recent) then meterThinned b r s
  else request (.meterReport b r (recKind r)) s

/-- An accepted reading (R440 to R443). -/
def meterAccept (b : Nat) (r : Reading) (s : Hub) : Hub :=
  let s := setRel b (fun x =>
    { x with lastReadNo := some (recReadNo r), lastEnergy := some (recEnergy r), lastMeter := s.now
             cnt := { x.cnt with meterOk := satAdd x.cnt.meterOk 1 } }) s
  let s := setSess b (fun x => if x.opened then { x with lastReading := some r } else x) s
  let s :=
    if recKind r = 3 then meterReport b r s
    else match (s.rel b).req with
      | none => s
      | some q =>
        (match q.kind with
         | .start => request (.meterStart b r) (setSess b (fun x => { x with phase := .starting }) (setRel b (fun x => { x with req := none }) s))
         | .end_ => requestSeal b (setSess b (fun x => { x with endReading := some r }) (setRel b (fun x => { x with req := none }) s))
         | .spot => meterReport b r (setRel b (fun x => { x with req := some { q with deadline := 0 } }) s)
         | .periodic => s)
  if recStatus r ≠ 0 then trigger b cBayFault s else s

/-- METER_B (R438, R440): completes a reading, which is verified. -/
def meterB (b : Nat) (f : List Byte) (s : Hub) : Hub :=
  match (s.rel b).meterA with
  | none => meterBad b s
  | some (a, t) =>
    let s := setRel b (fun r => { r with meterA := none }) s
    if fld f 0 1 ≠ 1 ∨ fld f 1 1 ≠ 0 ∨ s.passed t (ms 10) then meterBad b s
    else
      let r : Reading :=
        { record := (a.drop 2).take 44, sig := (a.drop 46).take 18 ++ (f.drop 2).take 46, rtc := s.aon.rtc, clap := s.ticks % 2 ^ 48 }
      let s := if recKind r = 3 then s
        else setRel b (fun x => { x with req := x.req.map (fun q => { q with badSig := !meterSigned s b r }) }) s
      if meterAcceptable s b r then meterAccept b r s else meterBad b s

def execMeterB (r ident : Nat) (f : List Byte) : State → Turn := onHub fun s => atRegion r s (bpcFrame 0x29 r ident f (fun b => meterB b f))

/-- METER_B_TIMEOUT (R438). -/
def execMeterBTimeout (b : Nat) : State → Turn := onHub fun s =>
  atBay b s (fun s =>
    match (s.rel b).meterA with
    | some (_, t) => if s.passed t (ms 10) then meterBad b (setRel b (fun r => { r with meterA := none }) s) else s
    | none => s)

/-- METER_REQ_TIMEOUT (R439): 200 ms without a reading. -/
def execMeterReqTimeout (b : Nat) : State → Turn := onHub fun s =>
  atBay b s (fun s =>
    match (s.rel b).req with
    | some q => if q.deadline ≠ 0 ∧ q.deadline ≤ s.now then meterFailed b s else s
    | none => s)

/-- METER_TIMEOUT (R442). -/
def execMeterTimeout (b : Nat) : State → Turn := onHub fun s =>
  atBay b s (fun s =>
    if isCharging s b && s.passed (s.rel b).lastMeter (sec 30) then
      trigger b cBayFault (setRel b (fun r => { r with lastMeter := s.now, cnt := { r.cnt with meterTimeout := satAdd r.cnt.meterTimeout 1 } }) s)
    else s)

/-! ## Bus-off (R428) -/

/-- BUS_OFF (R428). -/
def execBusOff (r : Nat) : State → Turn := onHub fun s =>
  atRegion r s (fun s =>
    if !busHears s r || (s.region r).bus.busOff.isSome then s
    else setBus r (fun u => { u with busOff := some s.now, busOffTold := false, busOffCnt := satAdd u.busOffCnt 1 }) s)

/-- The shortest REL_INTERVAL of a region's CHARGING bays. -/
def shortestInterval (s : Hub) (r : Nat) : Option Nat := (((baysOf r).filter (isCharging s)).map (fun b => (s.rel b).cfg.interval)).min?

/-- BUS_OFF_PERSIST (R428): a wrap as for a fault at every CHARGING bay. A controller stopped with the CPLL counts as bus-off (R655). -/
def execBusOffPersist (r : Nat) : State → Turn := onHub fun s =>
  atRegion r s (fun s =>
    let since := match (s.region r).bus.busOff with
      | some t => some t
      | none => if s.clk.cpll.coast then some s.clk.cpll.since else none
    match since, shortestInterval s r with
    | some t, some i =>
      if s.passed t (ms i + 1) && !(s.region r).bus.busOffTold then
        let l := (baysOf r).filter (isCharging s)
        l.foldl (fun s b => trigger b cBusOff s) (setBus r (fun u => { u with busOffTold := true }) s)
      else s
    | _, _ => s)

/-- BUS_OFF_RECOVERY (R428): the controller is back, and frames that waited go out. -/
def execBusOffRecovery (r : Nat) : State → Turn := onHub fun s =>
  atRegion r s (fun s =>
    if (s.region r).bus.busOff.isNone then s
    else
      let s := setBus r (fun u => { u with busOff := none, busOffTold := false }) s
      if busSends s r then busDrain r s else s)

/-! ## PWRPERMIT (R429, R430, R553) -/

def setPermit (r : Nat) (v : Bool) (s : Hub) : Hub := s.setRegion r (fun x => { x with permit := v })

/-- The line falls once no safety cut of the region is open, and a PERMIT_DROP that waited completes when none of its regions waits. -/
def dropLines (r : Nat) (s : Hub) : Hub :=
  let u := (s.region r).bus
  if !u.dropAfter || u.cutsOpen ≠ [] || u.cutFrames ≠ [] then s
  else
    let s := setPermit r false (setBus r (fun u => { u with dropAfter := false }) s)
    match u.dropRef with
    | none => s
    | some c =>
      let waits := (List.range 8).any (fun k => (s.region k).bus.dropAfter && (s.region k).bus.dropRef == some c)
      let mask := flags ((List.range 8).map (fun k => (s.region k).bus.dropRef == some c))
      if waits then s
      else
        let s := forRegions (fun k s => setBus k (fun u => if u.dropRef = some c then { u with dropRef := none } else u) s) s
        finish c .ok [⟨8, 1, mask⟩] [] s

/-- BUS_FRAME_COMPLETE (R553): a safety cut's frame of the bay is complete on its bus. -/
def execBusFrameComplete (b : Nat) : State → Turn := onHub fun s =>
  atBay b s (fun s =>
    let r := regionOf b
    if (s.region r).bus.cutsOpen.contains b then dropLines r (setBus r (fun u => { u with cutsOpen := u.cutsOpen.filter (· ≠ b) }) s)
    else s)

/-! ## Host commands -/

/-- The session a command names is the bay's (R550, R551). -/
def sessNamed (q : Req) (s : Hub) (b : Nat) : Bool := fld q.payload 4 8 == sessionId s b

/-- Held for the handback (R444) as the kind given. -/
def hold (b kind cls : Nat) (c : CmdRef) (s : Hub) : Reply × Hub :=
  (.later, s.setBay b (fun x => { x with held := x.held ++ [{ kind := kind, cls := cls, ref := some c }] }))

/-- SESSION_WRAP (R550). -/
def sessionWrap (q : Req) (c : CmdRef) (s : Hub) : Reply × Hub :=
  let b := fld q.payload 0 2
  if isAuthorizing s b then hold b 0 0 c s
  else if !sessNamed q s b then fail .badParam s
  else if (s.rel b).supervisor && isCharging s b then hold b 0 0 c s
  else
    let s := if (s.bay b).sess.isSome then trigger b cHostWrap s else endDialogues b .dialogueEnd s
    (.done .ok (wrapResult s b) [], s)

/-- The command table's row of SESSION_WRAP. -/
def specSessionWrap : Spec :=
  { op := 0x0202, urgent := true, lc := lcCF, len := len 12, target := bayAt0, quar := true, reserved := [2, 3]
    states := fun _ _ x => x.st == .engaged || x.st == .charging || x.st == .wrapping }

def execSessionWrap (q : Req) : State → Turn := onHub fun s =>
  .next (hostCommand specSessionWrap sessionWrap q s)

/-- RELEASE_HOLD, RELEASE_RESUME and RELEASE_CLASS (R551). -/
def relCommand (kind : Nat) (q : Req) (c : CmdRef) (s : Hub) : Reply × Hub :=
  let b := fld q.payload 0 2
  let cls := fld q.payload 2 1
  if !sessNamed q s b then fail .badParam s
  else if (kind = 3 ∧ cls = 0) ∨ (kind ≠ 3 ∧ cls ≠ 0) then fail .badParam s
  else if (s.rel b).supervisor then hold b kind cls c s
  else
    let s :=
      if kind = 1 then (if (s.rel b).want = .hold then s else setRel b (fun r => { r with want := .hold, cause := .hostHold }) s)
      else if kind = 2 then (if (s.rel b).want = .release then s else setRel b (fun r => { r with want := .release, cause := .hostResume }) s)
      else setRel b (fun r => { r with cls := cls }) s
    (.done .ok [] [], s)

/-- Their row of R533. -/
def relSpec (op : Nat) : Spec :=
  { op := op, urgent := true, lc := lcCF, len := len 12, target := bayAt0, quar := true, reserved := [3]
    states := fun _ _ x => x.st == .charging }

/-- The command table's row of RELEASE_HOLD. -/
def specReleaseHold : Spec := relSpec 0x0203

def execReleaseHold (q : Req) : State → Turn := onHub fun s => .next (hostCommand specReleaseHold (relCommand 1) q s)
/-- The command table's row of RELEASE_RESUME. -/
def specReleaseResume : Spec := relSpec 0x0204

def execReleaseResume (q : Req) : State → Turn := onHub fun s => .next (hostCommand specReleaseResume (relCommand 2) q s)
/-- The command table's row of RELEASE_CLASS. -/
def specReleaseClass : Spec := relSpec 0x0205

def execReleaseClass (q : Req) : State → Turn := onHub fun s => .next (hostCommand specReleaseClass (relCommand 3) q s)

/-- The command table's row of SAFETY_CUT. -/
def specSafetyCut : Spec :=
  { op := 0x0206, urgent := true, smbus := true, act := false, lc := lcAll, len := len 4, target := bayAt0, quar := true, reserved := [2, 3] }

/-- SAFETY_CUT (R552). -/
def execSafetyCut (q : Req) : State → Turn := onHub fun s =>
  .next (hostCommand specSafetyCut (fun q _ s => (.done .ok [] [], hostSafetyCut (fld q.payload 0 2) s)) q s)

/-- The regions a REGION byte names. -/
def namedRegions (n : Nat) (s : Hub) : List Nat := if n = 0xFF then (List.range 8).filter s.regionPresent else [n]

/-- PERMIT_DROP (R553). -/
def permitDrop (q : Req) (c : CmdRef) (s : Hub) : Reply × Hub :=
  let l := namedRegions (fld q.payload 0 1) s
  let s := l.foldl (fun s r => (liveBays s r).foldl (fun s b => hostSafetyCut b s) s) s
  let open_ := l.filter (fun r => (s.region r).bus.cutsOpen ≠ [] || (s.region r).bus.cutFrames ≠ [])
  let s := l.foldl (fun s r =>
    if open_.contains r then setBus r (fun u => { u with dropAfter := true, dropRef := some c }) s
    else setPermit r false (if open_ = [] then s else setBus r (fun u => { u with dropRef := some c }) s)) s
  if open_ = [] then (.done .ok [⟨8, 1, flags ((List.range 8).map (fun r => l.contains r))⟩] [], s) else (.later, s)

/-- The command table's row of PERMIT_DROP. -/
def specPermitDrop : Spec :=
  { op := 0x0207, urgent := true, smbus := true, act := false, lc := lcAll, len := len 4, target := fun l => .regions (fld l 0 1), quar := true
    reserved := [1, 2, 3] }

def execPermitDrop (q : Req) : State → Turn := onHub fun s =>
  .next (hostCommand specPermitDrop permitDrop q s)

/-- METER_READ (R554). -/
def meterRead (q : Req) (c : CmdRef) (s : Hub) : Reply × Hub :=
  let b := fld q.payload 0 2
  if !sessNamed q s b then fail .badParam s
  else if !bayPlans s b then fail .wrongState s
  else if (s.rel b).req.isSome then fail .busy s
  else if !s.rng.available || s.rng.rawActive then fail .rngUnavailable s
  else (.later, startMeter b .spot (some c) q.room s)

/-- The command table's row of METER_READ. -/
def specMeterRead : Spec :=
  { op := 0x0208, lc := lcCF, len := len 12, target := bayAt0, reserved := [2, 3]
    states := fun _ _ x => x.st == .charging }

def execMeterRead (q : Req) : State → Turn := onHub fun s =>
  .next (hostCommand specMeterRead meterRead q s)

/-- REL_RANGE_RETRY (R418): a refused advance is asked for again. -/
def execRelRangeRetry (b : Nat) : State → Turn := onHub fun s =>
  atBay b s (fun s =>
    match s.eng.retry.find? (fun p => p.1 == .relRange b) with
    | some p =>
      if s.passed p.2 (ms 100) && s.eng.mainPresent then
        request (.relRange b) (s.setEng (fun e => { e with retry := e.retry.filter (fun x => x.1 != .relRange b) }))
      else s
    | none => s)

/-- SEAL_RETRY (R462): a refused seal is asked for again every 100 ms while main power is present. -/
def execSealRetry (b : Nat) : State → Turn := onHub fun s =>
  atBay b s (fun s =>
    let mine := fun (w : NvWhat) => match w with
      | .seal k => k == b
      | .interrupted k _ => k == b
      | _ => false
    match s.eng.retry.find? (fun p => mine p.1) with
    | some p =>
      if s.passed p.2 (ms 100) && s.eng.mainPresent && !s.eng.mainLost then
        request p.1 (s.setEng (fun e => { e with retry := e.retry.filter (fun x => !mine x.1) }))
      else s
    | none => s)

end Sys2Proof.Machine
end

