-- ==== Sys2Proof/Machine/Serve.lean ====
section
/-! DEFINITION. The NV commit engine's requests (R64, R453 to R464, R481 to R490): what each burst writes, and what follows when it is committed, refused
or stalled; main power loss (R487 to R489); dailies (R465, R466); the journal's copies forward (R480). -/

namespace Sys2Proof.Machine

/-! ## Bodies -/

/-- The session ID of the next session at a bay (R22, R460). -/
def nextSessionId (s : Hub) (b : Nat) : Nat := b * 2 ^ 56 + s.hubIndex * 2 ^ 48 + (cellVal s cellSession + 1) % 2 ^ 48

/-- The dialogues a session rests on: its own, and under REQUIRE_V the class V one beside it (R346, R454). -/
def sessionDialogues (x : Bay) (y : Session) : List (TokenClass × Dialogue) := x.dialogues.filter (fun p => y.slots.contains p.2.slot)

/-- POLICY of SESSION_OPEN (R453). -/
def policyByte (x : Bay) : Nat := flags [x.bindCfg.requireV, x.bindCfg.allowUncal, x.range.rapidMode == .required]

/-- SESSION_OPEN (R453). -/
def openEnt (s : Hub) (b id : Nat) (y : Session) : Ent :=
  let slot := y.slots.headD 0
  let c := s.cred slot
  { typ := 1, bay := b
    body := render 64
      [⟨0, 8, id⟩, ⟨8, 4, slot⟩, ⟨12, 1, classNo y.cls⟩, ⟨13, 1, (s.rel b).cls⟩, ⟨14, 2, c.fleet⟩, ⟨16, 8, c.tokenId⟩, ⟨24, 8, c.hostRef⟩,
       ⟨32, 8, y.rtcOpen⟩, ⟨40, 8, y.tOpen⟩, ⟨48, 8, y.contract⟩, ⟨56, 2, (s.rel b).cfg.interval⟩, ⟨58, 1, policyByte (s.bay b)⟩] }

/-- BIND (R454). -/
def bindEnt (s : Hub) (b id : Nat) (k : TokenClass) (d : Dialogue) : Ent :=
  let e := d.bindEv
  let v := k == .v
  { typ := 2, bay := b
    body := render 32
        ([⟨0, 8, id⟩, ⟨8, 1, classNo k⟩, ⟨9, 1, reasonCode e.reason⟩, ⟨11, 1, e.flags⟩, ⟨12, 4, e.evidence⟩,
          ⟨20, 2, (e.boundMm.map (fun m => min m 0xFFFE)).getD 0xFFFF⟩] ++
         (if v then [⟨10, 1, e.fix.nsight⟩, ⟨16, 2, e.fix.pOwn⟩, ⟨18, 2, e.fix.pComp⟩, ⟨22, 2, e.fix.sigMaj⟩,
           ⟨24, 4, unsigned 32 e.fix.x⟩, ⟨28, 4, unsigned 32 e.fix.y⟩] else [])) ++
      (match v, s.geom with
       | true, some g => hashBytes g.digest
       | _, _ => List.replicate 32 0) }

/-- METER_START, METER_REPORT, METER_END (R455). -/
def readingEnt (typ b fl : Nat) (r : Reading) : Ent :=
  { typ := typ, bay := b, fl := fl, body := r.record ++ r.sig ++ toLe 8 r.rtc ++ toLe 6 r.clap ++ List.replicate 6 0 }

/-- The first 64 bytes of SESSION_SEALED (R456). -/
def sealEnt (s : Hub) (b : Nat) (y : Session) (r : Option Reading) (seqRead : Nat) : Ent :=
  { typ := 6, bay := b
    body := render 64
      [⟨0, 8, y.id⟩, ⟨8, 8, y.eStart.getD 0⟩, ⟨16, 8, (r.map recEnergy).getD y.eLast⟩, ⟨24, 8, s.aon.rtc⟩, ⟨32, 8, y.seqOpen⟩,
       ⟨40, 8, seqRead⟩, ⟨48, 4, y.causes⟩, ⟨52, 1, y.firstCause⟩,
       ⟨53, 1, flags [r.isNone, y.safetyCut, y.proxyUsed, y.thinned]⟩, ⟨56, 4, lastRelSeq s b⟩] }

/-- All ones in 8 bytes: no METER_START. -/
def noEnergy : Nat := 0xFFFFFFFFFFFFFFFF

/-- The first 64 bytes of INTERRUPTED (R456). -/
def interruptedEnt (b id eStart eLast rtc seqOpen seqRead causes kind fl lastRel rtcMarker : Nat) : Ent :=
  { typ := 7, bay := b
    body := render 64
      [⟨0, 8, id⟩, ⟨8, 8, eStart⟩, ⟨16, 8, eLast⟩, ⟨24, 8, rtc⟩, ⟨32, 8, seqOpen⟩, ⟨40, 8, seqRead⟩, ⟨48, 4, causes⟩, ⟨52, 1, kind⟩,
       ⟨53, 1, fl⟩, ⟨56, 4, lastRel⟩, ⟨60, 4, rtcMarker⟩] }

/-- DAILIES (R458). -/
def dailiesEnt (s : Hub) : Ent :=
  let l := s.nv.reel
  { typ := 9, bay := 0xFF
    body := render 64
      [⟨0, 8, s.aon.rtc⟩, ⟨8, 8, l.lastDailiesSeq⟩, ⟨16, 8, cellVal s cellReelAck⟩, ⟨24, 8, cellVal s cellSession⟩, ⟨32, 4, l.sealedSince⟩,
       ⟨36, 4, l.interruptedSince⟩, ⟨40, 4, s.aon.outages⟩, ⟨44, 4, l.voidedSince⟩] }

/-! ## Requests that wait -/

/-- A refused request waits for its retry. -/
def retryLater (w : NvWhat) (s : Hub) : Hub := s.setEng (fun e => { e with retry := e.retry ++ [(w, s.now)] })

/-- A request that stays: it goes to the end of the queue. -/
def requeue (w : NvWhat) (s : Hub) : Hub := request w s

/-- A request whose entry does not fit is counted as it begins to wait (R475, R492). -/
def countStall (w : NvWhat) (s : Hub) : Hub :=
  s.setEng (fun e => if e.stalled.contains w then e
    else { e with stalled := e.stalled ++ [w], cnt := { e.cnt with stall := satAdd e.cnt.stall 1 } })

/-- Those of the requests counted that still wait. -/
def stillStalled (s : Hub) : Hub :=
  s.setEng (fun e => { e with stalled := e.stalled.filter (fun w => e.queue.contains w || e.retry.any (fun p => p.1 == w)) })

/-! ## Opening a session (R20, R460, R462) -/

def serveOpen (b : Nat) (s : Hub) : Hub :=
  match (s.bay b).sess with
  | none => s
  | some y =>
    let id := nextSessionId s b
    let ds := sessionDialogues (s.bay b) y
    let u : Burst_ :=
      { ents := openEnt s b id y :: ds.map (fun p => bindEnt s b id p.1 p.2)
        js := [.open_ id (y.slots.headD 0) b y.cls s.nv.reel.nextSeq none], cells := [(cellSession, cellVal s cellSession + 1)] }
    match commit u s with
    | (.done seq, s) =>
      let s := setSess b (fun y => { y with id := id, opened := true, seqOpen := seq, phase := .reading }) s
      let s := y.slots.foldl (fun s i => setCred i (fun c => { c with inSession := true }) s) s
      startMeter b .start none 0 s
    | (.stalled, s) => requeue (.sessOpen b) (countStall (.sessOpen b) s)
    | (c, s) => abortAuth b c.status s

def serveStart (b : Nat) (r : Reading) (s : Hub) : Hub :=
  match (s.bay b).sess with
  | none => s
  | some y =>
    let u : Burst_ :=
      { ents := [readingEnt 3 b 0 r], js := [.open_ y.id (y.slots.headD 0) b y.cls y.seqOpen (some (recEnergy r))] }
    match commit u s with
    | (.done seq, s) =>
      let rg := s.region (regionOf b)
      let s := setSess b (fun y => { y with eStart := some (recEnergy r), seqReading := seq, eLast := recEnergy r, phase := .permitted
                                            permitWas := rg.permit }) s
      setPermit (regionOf b) true (meterNotice b r 1 seq s)
    | (.stalled, s) => requeue (.meterStart b r) (countStall (.meterStart b r) s)
    | (c, s) => abortAuth b c.status s

/-- A METER_REPORT of an open session (R462, R475, R476, R563): one that does not fit waits, one that the fill level keeps out is thinned, a refused
one is given up. -/
def serveReport (b : Nat) (r : Reading) (s : Hub) : Hub :=
  let thin := decide (3 ≤ fillLevel s)
  match commit { ents := [readingEnt 4 b (4 * b2n thin) r] } s with
  | (.done seq, s) =>
    let s := setSess b (fun y =>
      { y with seqReading := seq, eLast := recEnergy r, thinned := y.thinned || thin, thinAt := if thin then some s.aon.rtc else y.thinAt }) s
    let s := meterNotice b r 1 seq s
    if recKind r = 3 then s else spotDone b r true s
  | (.stalled, s) => requeue (.meterReport b r (recKind r)) (countStall (.meterReport b r (recKind r)) s)
  | (.floored, s) => meterThinned b r s
  | (.refused, s) =>
    let s := meterNotice b r 0 0 s
    if recKind r = 3 then s else spotDone b r false s

/-! ## Closing a session (R443, R462, R463, R485, R487) -/

/-- The torn-session marker: a burst of 1. -/
def markerBurst (s : Hub) (b : Nat) (y : Session) : Burst_ :=
  { js := [.torn y.id b y.causes s.aon.rtc (lastRelSeq s b) y.lastReading], inLoss := true }

def serveMarker (b : Nat) (s : Hub) : Commit × Hub :=
  match (s.bay b).sess with
  | none => (.done 0, s)
  | some y =>
    match commit (markerBurst s b y) s with
    | (.done n, s) => (.done n, setSess b (fun y => { y with marker := true }) s)
    | x => x

/-- The seal: with its METER_END in one burst where the reading of R443 is there. -/
def sealBurst (b : Nat) (y : Session) (s : Hub) : Commit × Hub :=
  let r := if s.eng.mainLost then none else y.endReading
  let n := s.nv.reel.nextSeq
  let seqRead := if r.isSome then n else y.seqReading
  let seqSeal := if r.isSome then n + 4 else n
  let se := sealEnt s b y r seqRead
  let u : Burst_ := { ents := (r.map (readingEnt 5 b 0)).toList ++ [se], js := [.close y.id seqSeal], inLoss := true }
  match commit u s with
  | (.done k, s) =>
    let s := match r with
      | some r => meterNotice b r 1 n s
      | none => s
    (.done k, closeSession b 0 (fld se.body 53 1) y.firstCause seqSeal (y.eStart.getD 0) (fld se.body 16 8) s)
  | x => x

/-- The INTERRUPTED entry of an authorisation that failed (R463). -/
def abortedBurst (b : Nat) (y : Session) (s : Hub) : Commit × Hub :=
  let e := y.eStart.getD noEnergy
  let fl := b2n y.eStart.isNone
  let seq := s.nv.reel.nextSeq
  let u : Burst_ :=
    { ents := [interruptedEnt b y.id e e s.aon.rtc y.seqOpen (if y.eStart.isSome then y.seqReading else 0) y.causes 2 fl 0 0]
      js := [.close y.id seq], inLoss := true }
  match commit u s with
  | (.done k, s) => (.done k, closeSession b 1 fl 2 seq e e s)
  | x => x

/-- The closing entry of a bay's session, by how far it came. -/
def closingBurst (b : Nat) (s : Hub) : Commit × Hub :=
  match (s.bay b).sess with
  | none => (.done 0, s)
  | some y => if y.phase = .aborting then abortedBurst b y s else sealBurst b y s

/-- A seal that is not admitted asks at once for its marker, where it has none, and waits for its retry (R462, R485). -/
def serveClosing (w : NvWhat) (b : Nat) (s : Hub) : Hub :=
  match closingBurst b s with
  | (.done _, s) => s
  | (.refused, s) =>
    let need := match w, (s.bay b).sess with
      | .seal _, some y => !y.marker
      | _, _ => false
    retryLater w (if need then request (.marker b) s else s)
  | (.stalled, s) => retryLater w (countStall w s)
  | (.floored, s) => retryLater w s

/-! ## Other requests -/

/-- What a store block holds, as flash keeps it: IN_SESSION is written as 0 (R380). -/
def atRest (c : Cred) : Cred := { c with inSession := false }

/-- Slots of block `k`. -/
def blockSlots (k : Nat) : List Nat := (List.range 32).map (32 * k + ·)

/-- A block commit (R366): the spare sector is erased, then 13 page programs with LOAD_ID 0; the slots given take their new contents in flash and in
SRAM. -/
def commitBlock (k : Nat) (new : List (Nat × Cred)) (s : Hub) : Commit × Hub :=
  match pageBurst 13 (eraseSpare k s) with
  | (.done n, s) =>
    let s := new.foldl (fun s p => setCred p.1 (fun _ => p.2) s) s
    let s := programSpare k 0 ((blockSlots k).map (fun i => atRest (nextCred s i))) s
    (.done n, { s with creds := { s.creds with fobDirty := s.creds.fobDirty.filter (fun i => i / 32 ≠ k) } })
  | x => x

/-- The bays' last detection times are saved (R200): one page of flash. -/
def saveTimes (s : Hub) : Hub :=
  siteWritten (s.setNv (fun v => { v with detect := (List.range 128).foldl (fun t b => Tab.put 0 b (s.bay b).poll.lastDetect t) v.detect }))

/-- DAILIES is committed and posted (R465, R466). -/
def serveDailies (s : Hub) : Hub :=
  let e := dailiesEnt s
  let rtc := s.aon.rtc
  let ap := fun (p : Nat) (l : Reel) => appendRec 9 p 4 0xFF 0 (partOf e.body p) l
  -- H_m, the chain value of part 1 of the entry (R459)
  let h := (ap 1 (ap 0 s.nv.reel)).h
  match commit { ents := [e] } s with
  | (.done seq, s) =>
    let s := s.setReel (fun l =>
      { l with lastDailiesSeq := seq, lastDailiesRtc := some rtc, lastDailiesH := h, sealedSince := 0, interruptedSince := 0, voidedSince := 0 })
    notice 0x0402 chipSrc [⟨16, 8, seq⟩, bytesFld 24 (hashBytes h), ⟨56, 8, rtc⟩] s
  | (c, s) =>
    let s := if c = .stalled then countStall .dailies s else s
    if s.eng.recovering then retryLater .dailies s else requeue .dailies s

/-! ## Recovery (R490) -/

/-- Does the reel hold a closing entry of session `id`? -/
def reelCloses (s : Hub) (id : Nat) : Option Nat :=
  (s.nv.reel.recs.find? (fun r => (r.typ == 6 || r.typ == 7) && r.part == 0 && fld r.body 0 8 == id)).map (·.seq)

/-- The last reading on the reel of a bay from SEQ `n` on: its SEQ and energy. -/
def lastOnReel (s : Hub) (b n : Nat) : Option (Nat × Nat) :=
  ((s.nv.reel.recs.reverse.find? (fun r => (r.typ == 3 || r.typ == 4) && r.part == 0 && r.bay == b && decide (n < r.seq))).map
    (fun r => (r.seq, fld r.body 16 8)))

/-- Chip fault, where the hub restarts after one (R634). -/
def recoveryCauses (s : Hub) : Nat := if s.kept.cause = .fault then 2 ^ cChipFault else 0

/-- SESSION_SEALED notice of a session that recovery closes (R464). -/
def recoveredNotice (b fl kind id seq eStart eEnd causes : Nat) (s : Hub) : Hub :=
  notice 0x0107 b
    [⟨16, 1, 1⟩, ⟨17, 1, fl⟩, ⟨18, 1, kind⟩, ⟨20, 8, id⟩, ⟨28, 8, seq⟩, ⟨36, 8, eStart⟩, ⟨44, 8, eEnd⟩, ⟨52, 4, causes⟩] s

/-- A recovery burst that is not written waits for its retry. -/
def recoverLater (id : Nat) (c : Commit) (s : Hub) : Hub :=
  retryLater (.recover id) (if c = .stalled then countStall (.recover id) s else s)

/-- One open session of the journal is closed. -/
def serveRecover (id : Nat) (s : Hub) : Hub :=
  let j := s.nv.journal
  match jLast j (fun e => match e with | .open_ n .. => n == id | _ => false) with
  | some (.open_ _ _ b _ seqOpen eStart) =>
    (match reelCloses s id with
     | some seq =>
       (match commit { js := [.close id seq], inLoss := true } s with
        | (.done _, s) => s
        | (_, s) => retryLater (.recover id) s)
     | none =>
       let e0 := eStart.getD noEnergy
       let n := s.nv.reel.nextSeq
       match jLast j (fun e => match e with | .torn m .. => m == id | _ => false) with
       | some (.torn _ _ causes rtc lastRel reading) =>
         let rep := reading.map (fun r => readingEnt 4 b 2 { r with rtc := rtc, clap := 0 })
         let seqRead := if rep.isSome then n else ((lastOnReel s b seqOpen).map (·.1)).getD 0
         let eLast := (reading.map recEnergy).getD (((lastOnReel s b seqOpen).map (·.2)).getD e0)
         let seq := if rep.isSome then n + 4 else n
         let cs := causes ||| recoveryCauses s
         let fl := b2n eStart.isNone + 2
         (match commit { ents := rep.toList ++ [interruptedEnt b id e0 eLast s.aon.rtc seqOpen seqRead cs 1 fl lastRel (rtc % 2 ^ 32)]
                         js := [.close id seq], inLoss := true } s with
          | (.done _, s) => recoveredNotice b fl 1 id seq e0 eLast cs s
          | (c, s) => recoverLater id c s)
       | _ =>
         let l := lastOnReel s b seqOpen
         let eLast := (l.map (·.2)).getD e0
         let kind := if eStart.isNone then 2 else 0
         let cs := recoveryCauses s
         let fl := b2n eStart.isNone
         match commit { ents := [interruptedEnt b id e0 eLast s.aon.rtc seqOpen ((l.map (·.1)).getD 0) cs kind fl 0 0]
                        js := [.close id n], inLoss := true } s with
         | (.done _, s) => recoveredNotice b fl kind id n e0 eLast cs s
         | (c, s) => recoverLater id c s)
  | _ => s

/-- Slots that power-up finds RETIRING are cleared once every session is closed (R380); their blocks are committed. -/
def clearRetiring (s : Hub) : Hub :=
  let l := (s.creds.slots.filter (fun p => p.2.retiring)).map (·.1)
  let s := l.foldl (fun s i => setCred i (fun _ => {}) s) s
  (l.map (· / 32)).eraseDups.foldl (fun s k => request (.credBlock k) s) s

/-- A request of recovery that waits for its retry. -/
def ofRecovery : NvWhat → Bool
  | .recover _ => true | .event .. => true | .dailies => true | .recoverDone => true
  | .sessOpen _ => false | .meterStart _ _ => false | .meterReport _ _ _ => false | .seal _ => false | .interrupted _ _ => false
  | .marker _ => false | .fobCounter _ _ => false | .credBlock _ => false | .relRange _ => false | .detectTimes => false
  | .journalCopy => false

/-- The end of recovery: every entry is written, and the backup buffer is cleared (R692). -/
def serveRecoverDone (s : Hub) : Hub :=
  if (openSessions s.nv.journal).isEmpty ∧ s.eng.retry.all (fun p => !ofRecovery p.1) then
    let s := { s.setEng (fun e => { e with recovering := false }) with aon := { s.aon with buffer := [], dropped := 0 } }
    if s.creds.loading then s else clearRetiring s
  else requeue .recoverDone s

/-- TAMPER (R520). -/
def tamperNotice (kind inputs level rtc : Nat) (s : Hub) : Hub :=
  notice 0x0601 chipSrc [⟨16, 1, kind⟩, ⟨17, 1, inputs⟩, ⟨18, 1, level⟩, ⟨20, 8, rtc⟩] s

/-- A tamper event recorded on backup is told once it is on the reel (R520, R692). -/
def backupTold (kind rtc : Nat) (d : List Fld) (bk : Bool) (s : Hub) : Hub :=
  if bk ∧ kind = 5 then
    let i := fld (render 2 d) 0 1
    tamperNotice 2 (2 ^ i) (fld (render 2 d) 1 1 * 2 ^ i) rtc s
  else s

/-! ## One request -/

/-- Order of R64: seals, journal commits, the rest. A session that recovery closes takes a closing entry, or its journal CLOSE alone. -/
def nvRank (s : Hub) : NvWhat → Nat
  | .seal _ => 0 | .interrupted _ _ => 0 | .recover id => if (reelCloses s id).isSome then 1 else 0
  | .marker _ => 1 | .fobCounter _ _ => 1 | .journalCopy => 1
  | .sessOpen _ => 2 | .meterStart _ _ => 2 | .meterReport _ _ _ => 2 | .event .. => 2 | .dailies => 2 | .recoverDone => 2
  | .credBlock _ => 2 | .relRange _ => 2 | .detectTimes => 2

/-- A request the engine grants while MAIN_LOST is set. -/
def nvInLoss (s : Hub) (w : NvWhat) : Bool := decide (nvRank s w < 2)

/-- The first request of the lowest rank, and the others. -/
def nvPick (s : Hub) (l : List NvWhat) : Option (NvWhat × List NvWhat) :=
  let k := l.foldl (fun k w => min k (nvRank s w)) 9
  match l.find? (fun w => nvRank s w == k) with
  | none => none
  | some w => some (w, l.takeWhile (fun x => nvRank s x ≠ k) ++ (l.dropWhile (fun x => nvRank s x ≠ k)).drop 1)

/-! ## The journal's copies forward (R480) -/

/-- The oldest journal sector's live entries are copied forward, and it is erased. -/
def copyForward (s : Hub) : Commit × Hub :=
  let j := s.nv.journal
  if j.used < j.freed + 64 then (.done 0, s)
  else
    let old := j.entries.filter (fun r => decide (r.slot < j.freed + 64))
    let live := (old.filter (jLive s)).map (·.e)
    match commit { js := live, inLoss := true } s with
    | (.done n, s) =>
      let s := s.setJournal (fun k => { k with entries := k.entries.filter (fun r => decide (j.freed + 64 ≤ r.slot)), freed := k.freed + 64 })
      (.done n, s.setEng (fun e => { e with cnt := { e.cnt with copies := satAdd e.cnt.copies live.length } }))
    | x => x

/-- A copy that is not admitted waits for its retry. -/
def serveCopy (s : Hub) : Hub :=
  match copyForward s with
  | (.done _, s) => s
  | (_, s) => retryLater .journalCopy s

/-- A copy is asked for: the engine takes it at once, unless a request that goes first waits (R64). -/
def askCopy (s : Hub) : Hub :=
  if s.eng.queue.any (fun w => decide (nvRank s w < 2)) then (if s.eng.queue.contains .journalCopy then s else request .journalCopy s) else serveCopy s

def serve (w : NvWhat) (s : Hub) : Hub :=
  match w with
  | .sessOpen b => serveOpen b s
  | .meterStart b r => serveStart b r s
  | .meterReport b r _ => serveReport b r s
  | .seal b => serveClosing w b s
  | .interrupted b _ => serveClosing w b s
  | .marker b => (serveMarker b s).2
  | .event k src c rtc d bk =>
    (match commit { ents := [eventEnt k src c rtc d bk] } s with
     | (.done _, s) => backupTold k rtc d bk s
     | (c, s) =>
       let s := if c = .stalled then countStall w s else s
       if s.eng.recovering then retryLater w s else requeue w s)
  | .dailies => serveDailies s
  | .fobCounter slot ctr =>
    (match commit { js := [.fobCounter slot ctr], inLoss := true } s with
     | (.done _, s) => s
     | (_, s) =>
       forAllBays (fun b s =>
         match (s.bay b).sess with
         | some y => if y.phase = .opening ∧ y.slots.contains slot then abortAuth b .holdupLow s else s
         | none => s) (requeue w s))
  | .recover id => serveRecover id s
  | .recoverDone => serveRecoverDone s
  | .credBlock k =>
    (match commitBlock k [] s with
     | (.done _, s) => s
     | (_, s) => retryLater w s)
  | .relRange b =>
    (match cellAdvance (cellRelRange b) (cellVal s (cellRelRange b) + 1) s with
     | (.done _, s) => setRel b (fun r => { r with advPending := false }) s
     | (_, s) => retryLater w s)
  | .detectTimes =>
    (match pageBurst 1 s with
     | (.done _, s) => saveTimes s
     | (_, s) => requeue w s)
  | .journalCopy => serveCopy s

/-- R487: while MAIN_LOST is set, the open sessions are closed in bay order; a refused closing tries its marker, and a refused marker
stops the engine's requests. -/
def serveLoss (s : Hub) : Hub :=
  match s.eng.closing with
  | [] => s
  | b :: rest =>
    let next := s.setEng (fun e => { e with closing := rest })
    match closingBurst b next with
    | (.done _, s) => s
    | (_, s) =>
      match serveMarker b s with
      | (.done _, s) => s
      | (_, s) => s.setEng (fun e => { e with closing := [], stopped := true })

/-- COMMIT_BURST (R64, R481, R482, R487): the engine takes its next request. -/
def execCommitBurst : State → Turn := onHub fun s =>
  .next (
    if !(s.fwReady || s.romRecovery) || decide (s.pwr.chip = .s3) then s
    else if s.eng.mainLost && s.eng.closing != [] then serveLoss s
    else
      let l := if s.eng.mainLost then s.eng.queue.filter (nvInLoss s) else s.eng.queue
      let keep := if s.eng.mainLost then s.eng.queue.filter (fun w => !nvInLoss s w) else []
      match nvPick s l with
      | none => s
      | some (w, rest) => stillStalled (serve w (s.setEng (fun e => { e with queue := rest ++ keep }))))

/-- RECOVERY_BURST_RETRY (R490): bursts of recovery that were not admitted, and block commits, are asked for again after 100 ms. -/
def execRecoveryBurstRetry : State → Turn := onHub fun s =>
  .next (
    let due := fun (p : NvWhat × Nat) => s.passed p.2 (ms 100) && ofRecovery p.1
    if s.eng.mainPresent && s.eng.retry.any due then
      s.setEng (fun e => { e with queue := e.queue ++ (e.retry.filter due).map (·.1), retry := e.retry.filter (fun p => !due p) })
    else s)

/-- RETIRING_COMMIT_RETRY (R380): the block commit of a RETIRING slot that was cleared is asked for again. -/
def execRetiringCommitRetry (slot : Nat) : State → Turn := onHub fun s =>
  atUnit 262144 slot s (fun s =>
    let mine := fun (w : NvWhat) => w == .credBlock (slot / 32)
    match s.eng.retry.find? (fun p => mine p.1) with
    | some p =>
      if s.passed p.2 (ms 100) && s.eng.mainPresent then
        request p.1 (s.setEng (fun e => { e with retry := e.retry.filter (fun x => !mine x.1) }))
      else s
    | none => s)

/-- VHOLD_SAMPLE (R483): every 100 µs. -/
def execVholdSample (code : Nat) : State → Turn := onHub fun s =>
  .next (if s.boot.phase = .held ∨ s.pwr.chip = .s3 then s else s.setEng (fun e => { e with codes := (code % 4096 :: e.codes).take 8 }))

/-! ## Main power (R487 to R489) -/

/-- One bay at the declaration of MAIN_LOST. -/
def mainLostBay (b : Nat) (s : Hub) : Hub :=
  match (s.bay b).sess with
  | none => s
  | some y =>
    if y.authorizing then abortAuth b .holdupLow s
    else if y.charging then requestSealLoss b (beginWrap b cMainLost true s)
    else if y.wrapping then
      let was := (s.rel b).state
      let s := safetyCut b .safetyCut s
      let s := setSess b (fun y => { y with causes := y.causes ||| 2 ^ cMainLost, safetyCut := y.safetyCut || decide (was ≠ .cut) }) s
      requestSealLoss b s
    else s
where
  /-- The seal waits for its turn in the order of R487, with no end reading. -/
  requestSealLoss (b : Nat) (s : Hub) : Hub :=
    setSess b (fun y => { y with phase := .sealing, endReading := none }) (dropMeterItem b (setRel b (fun r => { r with req := none }) s))

/-- Requests that close sessions, which R487 and R489 make anew. -/
def isClosing : NvWhat → Bool
  | .seal _ => true | .interrupted _ _ => true | .marker _ => true
  | .sessOpen _ => false | .meterStart _ _ => false | .meterReport _ _ _ => false | .event .. => false | .dailies => false
  | .fobCounter _ _ => false | .recover _ => false | .recoverDone => false | .credBlock _ => false | .relRange _ => false
  | .detectTimes => false | .journalCopy => false

/-- Bays with an open session (R488), in order. -/
def openBays (s : Hub) : List Nat := (List.range 128).filter (fun b => (((s.bay b).sess).map (·.opened)).getD false)

/-- MAIN_LOST (R487). -/
def mainLost (s : Hub) : Hub :=
  let s := s.setEng (fun e => { e with mainLost := true, mainPresent := false, mainLostFlag := true, stopped := false })
  let s := forAllBays mainLostBay s
  let s := s.setEng (fun e =>
    { e with queue := e.queue.filter (fun w => !isClosing w), retry := e.retry.filter (fun p => !isClosing p.1) })
  s.setEng (fun e => { e with closing := openBays s })

def execMainLost : State → Turn := onHub fun s => .next (if s.fwReady && !s.eng.mainLost then mainLost s else s)

/-- MAIN_LOST_CLEAR (R489): every session that has no closing entry is sealed, or closed as OPEN_ABORTED (R488). -/
def mainClear (s : Hub) : Hub :=
  let s := s.setEng (fun e => { e with mainLost := false, mainPresent := true, stopped := false, closing := [] })
  (openBays s).foldl (fun s b =>
    match (s.bay b).sess with
    | some y => if y.phase = .aborting then request (.interrupted b 2) s else requestSeal b s
    | none => s) s

def execMainLostClear : State → Turn := onHub fun s =>
  .next (if !s.fwReady then s else if s.eng.mainLost then mainClear s else s.setEng (fun e => { e with mainPresent := true }))

/-! ## Dailies and the journal -/

/-- The next dailies instant after RTC `t` (R465). -/
def nextDailies (t ofs : Nat) : Nat := (t + 86400 - ofs) / 86400 * 86400 + ofs

/-- JOURNAL_COPY_FORWARD (R480): whenever fewer than 8 journal sectors are erased, and as the retry of a copy that was not admitted, every 100 ms while
main power is present. -/
def execJournalCopyForward : State → Turn := onHub fun s =>
  .next (
    let waits := s.eng.retry.any (fun p => p.1 == .journalCopy)
    let due := s.eng.mainPresent && s.eng.retry.any (fun p => p.1 == .journalCopy && s.passed p.2 (ms 100))
    if (s.fwReady || s.romRecovery) && (due || (!waits && decide (jErased s.nv.journal < 8))) then
      askCopy (s.setEng (fun e => { e with retry := e.retry.filter (fun p => p.1 != .journalCopy) }))
    else s)

/-- DAILIES (R465, R466, R200, R403): the dailies instant. -/
def execDailies : State → Turn := onHub fun s =>
  .next (
    if s.fwReady && decide (s.eng.dailiesAt ≤ s.aon.rtc) then
      let s := s.setEng (fun e => { e with dailiesAt := nextDailies s.aon.rtc s.nv.reel.dailiesOfs })
      let s := request .detectTimes (request .dailies s)
      let s := ((s.creds.fobDirty.map (· / 32)).eraseDups).foldl (fun s k => request (.credBlock k) s) s
      askCopy s
    else s)

end Sys2Proof.Machine
end

