-- ==== Sys2Proof/Machine/Authorize.lean ====
section
/-! DEFINITION. SESSION_AUTHORIZE (R20, R21, R402, R546 to R549). -/

namespace Sys2Proof.Machine

def classOf (n : Nat) : TokenClass := if n = 0 then .v else if n = 1 then .c else .f

/-- The dialogue that SESSION_AUTHORIZE relies on: of its class and token, BOUND, with no REQUIRE_V pending. -/
def boundDialogue (s : Hub) (b : Nat) (k : TokenClass) (tok : Nat) : Option Dialogue :=
  match (s.bay b).dlg k with
  | some d => if d.token = tok ∧ d.verdict = .bound ∧ d.requireV = false then some d else none
  | none => none

/-- Checks 1 to 8 of R546. -/
def authorizeStatus (s : Hub) (b : Nat) (k : TokenClass) (tok : Nat) : Option Status :=
  let r := (s.region (regionOf b)).st
  if s.eng.recovering || s.creds.loading then some .busy
  else if r = .draining ∨ r = .splicing ∨ r = .off then some .wrongState
  else if (s.rel b).cfg.enable = false ∨ (vaultKey s 0x05 b).present = false then some .wrongState
  else if (boundDialogue s b k tok).isNone then some .wrongState
  else if (s.bay b).sess.isSome then some .busy
  else if s.eng.mainLost || (decide (s.boot.cal.cHold = 0) && decide (s.lc = fielded)) then some .holdupLow
  else if 3 ≤ fillLevel s then some .logFull
  else if !s.rng.available || s.rng.rawActive then some .rngUnavailable
  else none

/-- Is a request the FOB_COUNTER entry of a slot? -/
def isFobEntry (slot : Nat) (w : NvWhat) : Bool :=
  match w with
  | .fobCounter i _ => i == slot
  | _ => false

/-- FOB_COUNTER entries of a slot not yet committed, oldest first (R402). -/
def fobOwed (s : Hub) (slot : Nat) : List NvWhat := (s.eng.queue ++ s.eng.retry.map (·.1)).filter (isFobEntry slot)

/-- They leave the queue and are committed before step 1 of R20. -/
def commitFob (slot : Nat) (s : Hub) : Option Status × Hub :=
  let l := fobOwed s slot
  let s := s.setEng (fun e => { e with queue := e.queue.filter (fun w => !isFobEntry slot w), retry := e.retry.filter (fun w => !isFobEntry slot w.1) })
  l.foldl (fun a w =>
    match a.1, w with
    | none, .fobCounter i c =>
      (match commit { js := [.fobCounter i c], inLoss := true } a.2 with
       | (.done _, s) => (none, s)
       | (_, s) => (some .holdupLow, request w s))
    | some st, w => (some st, request w a.2)
    | none, _ => a) (none, s)

/-- ENGAGE_LIMIT runs anew after a failure (R547). -/
def restartLimit (b : Nat) (k : TokenClass) (s : Hub) : Hub :=
  modDlg b k (fun d => { d with limitFrom := d.limitFrom.map (fun _ => s.now) }) s

/-- The credential slots a session rests on: under REQUIRE_V the class V token's too (R380). -/
def sessionSlots (s : Hub) (b : Nat) (k : TokenClass) (d : Dialogue) : List Nat :=
  if k ≠ .v ∧ d.bcfg.requireV then d.slot :: (((s.bay b).dlgV).map (·.slot)).toList else [d.slot]

/-- The session begins: step 1 of R20 is asked for. -/
def openSession (b : Nat) (k : TokenClass) (d : Dialogue) (cls contract : Nat) (c : CmdRef) (s : Hub) : Hub :=
  let slots := sessionSlots s b k d
  let y : Session := { id := 0, phase := .opening, cls := k, ref := some c, contract := contract, rtcOpen := s.aon.rtc, tOpen := s.ticks, slots := slots }
  let s := s.setBay b (fun x => { x with sess := some y })
  let s := setRel b (fun r => { r with cls := cls }) s
  let s := [TokenClass.v, .c, .f].foldl (fun s k => modDlg b k (fun d => if slots.contains d.slot then { d with limitFrom := none } else d) s) s
  request (.sessOpen b) s

def sessionAuthorize (q : Req) (c : CmdRef) (s : Hub) : Reply × Hub :=
  let b := fld q.payload 0 2
  let n := fld q.payload 2 1
  let k := classOf n
  let tok := fld q.payload 4 8
  if 2 < n ∨ fld q.payload 3 1 = 0 then fail .badParam s
  else
    match authorizeStatus s b k tok, boundDialogue s b k tok with
    | some st, _ => (.async st [] [], restartLimit b k s)
    | none, none => (.async .wrongState [] [], s)
    | none, some d =>
      match (if k = .f then commitFob d.slot s else (none, s)) with
      | (some st, s) => (.async st [] [], restartLimit b k s)
      | (none, s) => (.later, openSession b k d (fld q.payload 3 1) (fld q.payload 12 8) c s)

/-- The command table's row of SESSION_AUTHORIZE. -/
def specSessionAuthorize : Spec :=
  { op := 0x0201, lc := lcCF, len := len 20, target := bayAt0, states := fun _ _ x => x.st == .engaged }

def execSessionAuthorize (q : Req) : State → Turn := onHub fun s =>
  .next (hostCommand specSessionAuthorize sessionAuthorize q s)

end Sys2Proof.Machine
end

