-- ==== Sys2Proof/Machine/Ranging.lean ====
section
/-! DEFINITION. Takes, listens and rapid exchanges as they run (R40, R41, R66 to R70, R257 to R320). -/

namespace Sys2Proof.Machine

def modTake (b : Nat) (f : Take → Take) (s : Hub) : Hub := s.setBay b (fun x => { x with take := x.take.map f })
def modRapid (b : Nat) (f : Rapid → Rapid) (s : Hub) : Hub := s.setBay b (fun x => { x with rapid := x.rapid.map f })
def countRange (b : Nat) (f : RangeCnt → RangeCnt) (s : Hub) : Hub := s.setBay b (fun x => { x with rangeCnt := f x.rangeCnt })
def countRapid (b : Nat) (f : RapidCnt → RapidCnt) (s : Hub) : Hub := s.setBay b (fun x => { x with rapidCnt := f x.rapidCnt })

/-! ## A take starts -/

/-- The POLL slot of a take granted in slot `g` (R264). -/
def pollSlotOf (s : Hub) (t : Take) (g : Nat) : Nat := if t.listeners.any (fun l => l.hub != s.hubIndex) then g + 8 else g + 4

def pollTick (p : Nat) : Nat := p * slotTicks + ticksUs 50

/-- STS_UNITS as SETUP codes it (R258). -/
def stsCode (u : Nat) : Nat := if u = 32 then 0 else if u = 64 then 1 else 2

/-- POLL_OFS: 300 µs in token units. -/
def pollOfs : Nat := 19169280

/-- The SETUP payload (R258). -/
def setupPayload (t : Take) (d : Dialogue) : List Byte :=
  toLe 4 t.takeNo ++ toLe 4 pollOfs ++ toLe 1 (stsCode d.cfg.stsUnits) ++ toLe 1 (if d.spc3 then 3 else 1) ++ toLe 1 (b2n t.rapid) ++ [0]

/-- POLL and FINAL: STS, and in configuration 1 a payload of TAKE_NO [15:0] (R257). -/
def pollBurst (s : Hub) (b : Nat) (k : BurstKind) (rm : Nat) (t : Take) (d : Dialogue) : Burst :=
  mkBurst s b t.q k rm d.cfg.stsUnits (!d.spc3) (if d.spc3 then [] else toLe 2 t.takeNo) (if d.spc3 then 0 else 2)

/-- A take is dispatched in its slot (R263 to R265, R268): TAKE_NO, T_P, the listens' window, SETUP. It is counted once its grant is known
(R160). -/
def dispatchTake (b q : Nat) (t : Take) (d : Dialogue) (s : Hub) : Hub :=
  let r := regionOf b
  let p := pollSlotOf s t s.slot
  let n := d.takeNo + 1
  let w := ((s.item r q).map (·.width)).getD 0
  let s := modDlg b .v (fun d => { d with takeNo := n }) s
  let s := if (s.region r).coex.enabled then s else countRange b (fun c => { c with takes := satAdd c.takes 1 }) s
  let s := modTake b (fun t =>
    { t with takeNo := n, dispatched := true, stage := .granted, pollSlot := p, tPoll := pollTick p, width := w, geom := s.geom, cal := calEntry s b }) s
  let s := requestListens b p p s
  let l := Config.ccmSeal (kTake (d.sk.getD 0) b) (takeNonce false b n 0x01) (setupPayload { t with takeNo := n } d)
  toRx b q (needChannel b (stage b (mkBurst s b q .setup (pollTick p - ticksUs 300) 0 true l 20) s).2)

/-! ## A take ends -/

/-- The counter of an outcome (R294). -/
def takeCount (o : TakeOutcome) (c : RangeCnt) : RangeCnt :=
  match o with
  | .takeOk => { c with takeOk := satAdd c.takeOk 1 }
  | .noResponse => { c with noResponse := satAdd c.noResponse 1 }
  | .stsLow => { c with stsLow := satAdd c.stsLow 1 }
  | .stsMismatch => { c with stsMismatch := satAdd c.stsMismatch 1 }
  | .reportBad => { c with reportBad := satAdd c.reportBad 1 }
  | .clockOdd => { c with clockOdd := satAdd c.clockOdd 1 }
  | .notRun => c | .stopped => c | .evidenceInvalid => c | .noReport => c | .negRange => c

/-- The item of a take or an exchange leaves, and the chain goes to STANDBY (R306). -/
def leaveChain (b q : Nat) (s : Hub) : Hub := sendStandby b (dropItem (regionOf b) q (unstage b q s))

/-- A take whose own-bay evidence is invalid is dispatched once more while its latest start lies ahead (R41). -/
def redispatch (b : Nat) (t : Take) (s : Hub) : Option Hub :=
  if t.again || decide (t.latest < firstOpenSlot s (regionOf b)) then none
  else
    let p := planTake b { due := s.slot, latest := t.latest, continuity := t.continuity, rapid := t.rapid, noListen := t.noListen, ref := t.ref, room := t.room } s
    if p.1 then
      let q := ((p.2.bay b).take.map (·.q)).getD t.q
      some (modItem (regionOf b) q (fun i => { i with retries := 1, outcome := Status.internal.code }) (modTake b (fun n => { n with again := true, due := t.due }) p.2))
    else none

/-- A take ends with an outcome other than TAKE_OK (R70, R288, R289): its listens are cancelled, and it is evaluated. -/
def failTake (b : Nat) (o : TakeOutcome) (st : Status) (s : Hub) : Hub :=
  match (s.bay b).take with
  | none => s
  | some t =>
    let s := cancelListens b t (leaveChain b t.q (countRange b (takeCount o) s))
    match (if o = .evidenceInvalid then redispatch b t s else none) with
    | some s => s
    | none => evaluate b (modTake b (fun t => { t with stage := .done, outcome := some o, status := st }) s)

/-- A take holds its groups: it is granted, or has begun. -/
def takeGranted (s : Hub) (b : Nat) (t : Take) : Bool :=
  match t.stage with
  | .planned => ((s.item (regionOf b) t.q).map (·.granted)).getD false
  | .done => false
  | .granted => true | .announced => true | .polled => true | .responded => true | .finished => true

/-- A take that holds its groups loses its evidence (R40, R96, R110, R121). -/
def invalidateTake (b : Nat) (s : Hub) : Hub :=
  match (s.bay b).take with
  | some t => if takeGranted s b t then failTake b .evidenceInvalid .internal s else s
  | none => s

/-- A take starts in its slot; while the port's timing is unsettled its evidence is invalid (R110). -/
def startTake (b q : Nat) (s : Hub) : Hub :=
  match (s.bay b).take, (s.bay b).dlgV with
  | some t, some d =>
    let s := dispatchTake b q t d s
    if (s.bay b).sl.timing.settled then s else invalidateTake b s
  | _, _ => dropItem (regionOf b) q s

/-! ## Rapid exchanges: planning and ending (R302 to R317) -/

/-- The first and last start slots of an exchange (R303, R304). -/
def rapidFirst (t : Take) : Nat := t.pollSlot + 10
def rapidLast (t : Take) : Nat := t.pollSlot + 100

/-- LATEST of an exchange (R49): 100 slots after the end of its take, whose last slot is P + 9. -/
def rapidLatest (t : Take) : Nat := t.pollSlot + 109

def rapidCount (o : RapidOutcome) (above : Bool) (c : RapidCnt) : RapidCnt :=
  match o with
  | .rapidOk => { c with ok := satAdd c.ok 1, overBound := satAdd c.overBound (b2n above) }
  | .noReply => { c with noReply := satAdd c.noReply 1 }
  | .wrongBit => { c with wrongBit := satAdd c.wrongBit 1 }
  | .early => { c with early := satAdd c.early 1 }
  | .suspect => { c with suspect := satAdd c.suspect 1 }
  | .periodShort => { c with periodShort := satAdd c.periodShort 1 }
  | .notRun => { c with notRun := satAdd c.notRun 1 }
  | .stopped => c | .evidenceInvalid => c

/-- The record of an exchange is delivered (R317); the take is evaluated once its window has closed too (R332). -/
def deliverRapid (b : Nat) (o : RapidOutcome) (st : Status) (s : Hub) : Hub :=
  let above := match (s.bay b).rapid, (s.bay b).dlgV with
    | some x, some d => decide (d.cfg.boundMm < x.maxD)
    | _, _ => false
  let s := countRapid b (rapidCount o above) (modRapid b (fun x => { x with outcome := some o, status := st }) s)
  match (s.bay b).take with
  | some t => if t.closed then evaluate b s else s
  | none => s

/-- An exchange's item enters the call sheet; no queue: NOT_RUN. -/
def enqueueRapid (b from_ : Nat) (s : Hub) : Hub :=
  match (s.bay b).take, (s.bay b).dlgV with
  | some t, some d =>
    let again := ((s.bay b).rapid.map (·.repeated)).getD false
    let e := enqueue (inSession (s.bay b) d)
      { q := 0, kind := .rapid, cls := .ranging, bay := b, what := .rapid, earliest := from_, latest := rapidLatest t, cred := d.slot, tclass := 0
        session := sessionId s b, hostTag := (t.ref.map (·.tag)).getD 0, order := s.slot, retries := b2n again
        outcome := if again then Status.internal.code else 0 } s
    match e.1 with
    | some q => modRapid b (fun x => { x with q := q }) e.2
    | none => deliverRapid b .notRun .noResource (countRefused b e.2)
  | _, _ => s

/-- The exchange that follows a take (R302): 32 challenge bits are drawn when it is staged, or wait for the reseed that is due
(R728); without the RNG it is not run. -/
def planRapid (b from_ : Nat) (again : Bool) (s : Hub) : Hub :=
  match (s.bay b).take with
  | none => s
  | some t =>
    let s := s.setBay b (fun x => { x with rapid := some { takeNo := t.takeNo, repeated := again } })
    match drawRandom 4 s with
    | none => if s.rng.serves then drawLater (.challenge b from_ again) s else deliverRapid b .notRun .rngUnavailable s
    | some (c, s) => enqueueRapid b from_ (modRapid b (fun x => { x with chal := c }) s)

/-- An exchange ends: chain, groups and turn are given back at once (R306). -/
def endRapid (b : Nat) (o : RapidOutcome) (st : Status) (s : Hub) : Hub :=
  match (s.bay b).rapid with
  | none => s
  | some x => deliverRapid b o st (leaveChain b x.q s)

/-- The first start slot of an exchange from slot `n` on (R303). -/
def rapidSlotFrom (t : Take) (n : Nat) : Nat := if n ≤ rapidFirst t then rapidFirst t else rapidFirst t + 10 * ((n - rapidFirst t + 9) / 10)

/-- An exchange has been granted its slot. -/
def rapidGranted (s : Hub) (b : Nat) (x : Rapid) : Bool := x.started || ((s.item (regionOf b) x.q).map (fun i => i.granted && decide (i.what = .rapid))).getD false

/-- An exchange, planned or running, ends EVIDENCE_INVALID: it is run again at the next opportunity ahead, with fresh challenge bits (R315). -/
def rapidInvalid (b : Nat) (s : Hub) : Hub :=
  match (s.bay b).take, (s.bay b).rapid with
  | some t, some x =>
    if x.outcome.isSome then s
    else
      let n := rapidSlotFrom t (firstOpenSlot s (regionOf b))
      if n ≤ rapidLast t then planRapid b n true (leaveChain b x.q s) else endRapid b .evidenceInvalid .internal s
  | _, _ => s

/-- An exchange that holds its groups loses its evidence (R40, R96, R121). -/
def invalidateRapid (b : Nat) (s : Hub) : Hub :=
  match (s.bay b).rapid with
  | some x => if rapidGranted s b x then rapidInvalid b s else s
  | none => s

/-! ## RESPONSE and REPORT -/

/-- Raw samples around the coarse peak go into the capture ring, one block for each group of the item, in logical group order (R275): what the
antennas received is a free value. -/
def captureItem (r q : Nat) (s : Hub) : Hub :=
  match s.item r q with
  | none => s
  | some i =>
    let at_ := (s.region r).capNext
    let n := i.groups.length
    let s := s.setRegion r (fun x =>
      { x with capture := (List.range n).foldl (fun t k => Tab.put 0 ((at_ + k) % 1024) (s.draws + k + 1) t) x.capture
               capNext := (at_ + n) % 1024 })
    modItem r q (fun i => { i with capoff := 4096 * at_ }) { s with draws := s.draws + n }

/-- The angles and TOA of the own head from a RESPONSE. -/
def respMeas (s : Hub) (b : Nat) (t : Take) (d : Dialogue) (m : RespMeas) : TakeMeas :=
  let ch := d.cfg.uwbCh
  let raw := m.sts.getD 0
  let toa := (headToa t.cal ch t.width m.ants).getD 0
  let a := headAngles (t.geom.bind (fun g => g.head s.hubIndex b)) t.cal ch t.width m.ants m.phases
  { tResp := (raw : Int) - gdRx t.cal ch (t.txAnt d.cfg), fpq := m.fpq, edge := m.edge, toa := wholeTicks toa, toaFrac := fracTick toa
    aoaValid := a.valid, az := a.az, el := a.el, axis1 := decide (t.width = 12)
    suspect := (m.ants.filterMap id).any (inSuspect (s.bay b).sl.suspect) }

/-- What a RESPONSE that fails its checks leaves in the record (R276, R281, R291). -/
def failMeas (s : Hub) (b : Nat) (t : Take) (m : RespMeas) : TakeMeas :=
  { fpq := m.fpq, edge := m.edge, axis1 := decide (t.width = 12), suspect := (m.ants.filterMap id).any (inSuspect (s.bay b).sl.suspect) }

/-- RESPONSE (R253, R266, R280, R281): FINAL is staged only if the checks pass. -/
def execResponse (b : Nat) (c : RespCir) : State → Turn := onHub fun s =>
  atBay b s (fun s =>
    if c.badMode then countModeErr b s
    else
      match (s.bay b).take, (s.bay b).dlgV with
      | some t, some d =>
        if t.stage ≠ .polled ∨ s.ticks < t.tPoll + replyTicks - ticksUs 1 then s
        else
          let s := captureItem (regionOf b) t.q s
          let m := respSeen t.tPoll t.width (t.txAnt d.cfg) c
          let o := respFails d.cfg.stsUnits m
          let x := if o.isSome then failMeas s b t m else respMeas s b t d m
          let s := countRange b (fun c => { c with fpSuspect := satAdd c.fpSuspect (b2n x.suspect) }) s
          let s := modTake b (fun t => { t with meas := x }) s
          match o with
          | some o => failTake b o (takeStatus o .internal) s
          | none =>
            let s := modTake b (fun t => { t with stage := .responded }) s
            (stage b (pollBurst s b .final (t.tPoll + roundTicks) t d) s).2
      | _, _ => s)

/-- The slot at whose end the collection window closes (R69, R352): the REPORT ends in slot P + 9. -/
def closeSlotOf (s : Hub) (t : Take) : Nat := t.pollSlot + 9 + (if t.listeners.any (fun l => l.hub != s.hubIndex) then 3 else 1)

/-- A take is TAKE_OK: its record is complete, its resources are free, and its exchange is planned. -/
def completeTake (b : Nat) (i : Intervals) (s : Hub) : Hub :=
  match (s.bay b).take with
  | none => s
  | some t =>
    let s := countRange b (takeCount .takeOk) s
    let s := modTake b (fun t =>
      { t with stage := .done, outcome := some .takeOk, closeSlot := closeSlotOf s t
               meas := { t.meas with tof256 := i.tof, rangeMm := i.rangeMm, clkOfs := i.clkOfs } }) s
    let s := leaveChain b t.q s
    if t.rapid then planRapid b (rapidFirst t) false s else s

/-- The REPORT of a take opened and read (R259, R260): TAKE_NO, DB_TOK, RB_TOK. -/
def readReport (d : Dialogue) (b : Nat) (t : Take) (c : List Byte) : Option (Nat × Nat) :=
  match d.sk with
  | none => none
  | some sk =>
    match Config.ccmOpen (kTake sk b) (takeNonce true b t.takeNo 0x05) c with
    | none => none
    | some l => if l.length = 14 ∧ fld l 0 4 = t.takeNo then some (fld l 4 5, fld l 9 5) else none

/-- REPORT (R253, R267, R282 to R284). -/
def execReport (b : Nat) (m : ReportMeas) : State → Turn := onHub fun s =>
  atBay b s (fun s =>
    if m.badMode then countModeErr b s
    else
    match (s.bay b).take, (s.bay b).dlgV with
    | some t, some d =>
      let late := (m.rmarker : Int) - (t.meas.tResp + (roundTicks : Int) * 256)
      if t.stage ≠ .finished ∨ 256 * ticksUs 1 < late.natAbs then s
      else
        match readReport d b t m.cipher with
        | none => modTake b (fun t => { t with reportSeen := true }) s
        | some (db, rb) =>
          let i := intervals t d.cfg.uwbCh db rb
          if i.clockOdd then failTake b .clockOdd .authFail s
          else if i.negative then failTake b .negRange .internal s
          else completeTake b i s
    | _, _ => s)

/-- REPORT_WINDOW_CLOSE (R288): NO_REPORT, or REPORT_BAD where a frame of the interval failed. -/
def execReportWindowClose (b : Nat) : State → Turn := onHub fun s =>
  atBay b s (fun s =>
    match (s.bay b).take with
    | some t =>
      if t.stage = .finished ∧ t.tPoll + ticksUs 900 ≤ s.ticks then
        (if t.reportSeen then failTake b .reportBad .authFail s else failTake b .noReport .wrongState s)
      else s
    | none => s)

/-- COLLECTION_WINDOW_CLOSE (R69, R332): the take is evaluated, at once or when its exchange has delivered its record. -/
def execCollectionWindowClose (b : Nat) : State → Turn := onHub fun s =>
  atBay b s (fun s =>
    match (s.bay b).take with
    | some t =>
      if t.ok ∧ t.closed = false ∧ t.closeSlot < s.slot then
        let s := modTake b (fun t => { t with closed := true }) s
        if t.rapid && ((s.bay b).rapid.map (fun x => x.outcome.isNone)).getD false then s else evaluate b s
      else s
    | none => s)

/-! ## Listens (R68 to R70, R268 to R270) -/

/-- Channel of the take a listen serves: the owning bay's. A listen request carries no channel (R67), so that of another hub's take is not known here:
the listening bay's own is taken (DESIGN CHOICE, log entry 177). -/
def listenChannel (s : Hub) (b ownHub ownHandle : Nat) : Nat :=
  let r := ownHandle / 131072
  let q := ownHandle % 131072
  if ownHub = s.hubIndex then
    match (baysOf r).find? (fun o => match (s.bay o).take with
      | some t => t.q == q
      | none => false) with
    | some o => (burstCfg s o).uwbCh
    | none => (s.bay b).range.uwbCh
  else (s.bay b).range.uwbCh

/-- A listen starts in slot P (R255, R269). -/
def startListen (b q ownHub ownHandle : Nat) (s : Hub) : Hub :=
  toRx b q (sendChannel b (listenChannel s b ownHub ownHandle) (s.bay b).range.txPower s)

/-- A listen's reception is over: its item leaves, and the bay's own channel is restored (R255). -/
def endListen (l : ListenReq) (q : Nat) (s : Hub) : Hub :=
  let r := regionOf l.bay
  leaveChain l.bay q (s.setRegion r (fun x => { x with listens := x.listens.filter (· ≠ l) }))

/-- A sighting reaches the owner of a take (R69): held, or discarded and counted when its window has closed or its SWEEP is another's. -/
def receiveSighting (p : Packet) (s : Hub) : Hub :=
  let r := p.ownHandle / 131072
  let q := p.ownHandle % 131072
  let fits := (baysOf r).any (fun b => match (s.bay b).take with
    | some t => decide (t.q = q) && decide (t.takeNo % 65536 = p.sweep) && !t.closed &&
        t.listeners.any (fun l => l.hub == p.lisHub && l.bay == p.lisBay && l.state == 0)
    | none => false)
  if fits then
    noteListener p.ownHandle p.sweep p.lisHub p.lisBay (fun l =>
      { l with state := 1, toa := p.toa, toaFrac := p.frac, az := p.az, el := p.el, fpq := p.fpq, suspect := p.suspect, axis1 := p.axis1 }) s
  else s.setRegion r (fun x => { x with sightLate := satAdd x.sightLate 1 })

/-- The listen an item serves. -/
def listenFor (s : Hub) (i : Item) : Option ListenReq :=
  match i.what with
  | .listen h q => (s.region (regionOf i.bay)).listens.find? (fun l => l.ownHub == h && l.ownHandle == q && l.bay == i.bay)
  | _ => none

/-- The listen of an item ends in a decline (R68); an item that serves none leaves. -/
def declineItem (i : Item) (s : Hub) : Hub :=
  match listenFor s i with
  | some l => declineListen l s
  | none => dropItem (regionOf i.bay) i.q s

/-- T_P of the take a listen hears: it starts in its POLL slot (R264, R269). -/
def listenPoll (i : Item) : Nat := pollTick i.start

/-- A listen ends with the sighting of its measurement (R67, R270). -/
def sendSighting (l : ListenReq) (i : Item) (m : ListenMeas) (toa : Int) (s : Hub) : Hub :=
  let b := l.bay
  let ch := listenChannel s b l.ownHub l.ownHandle
  let a := headAngles (s.geom.bind (fun g => g.head s.hubIndex b)) l.cal ch i.width m.ants m.phases
  let sus := (m.ants.filterMap id).any (inSuspect (s.bay b).sl.suspect)
  let p : Packet :=
    { ptype := ptSighting, ownHub := l.ownHub, ownHandle := l.ownHandle, lisHub := s.hubIndex, lisBay := b, sweep := l.sweep
      toa := wholeTicks toa, frac := fracTick toa, az := a.az, el := a.el, fpq := m.fpq, suspect := sus, axis1 := decide (i.width = 12) }
  let s := countRange b (fun c => { c with listens := satAdd c.listens 1, fpSuspect := satAdd c.fpSuspect (b2n sus) }) s
  let s := sendPacket p (endListen l i.q s)
  if l.ownHub = s.hubIndex then receiveSighting p s else s

/-- LISTEN_RECEPTION_END (R253, R269): from T_P + 260 µs on a listen ends in one sighting or one decline. `i` is the listen's queue. -/
def execListenReceptionEnd (r i : Nat) (c : ListenCir) : State → Turn := onHub fun s =>
  atRegion r s (fun s =>
    match s.item r i with
    | none => s
    | some it =>
      match listenFor s it with
      | none => s
      | some l =>
        if !it.granted || decide (s.slot < it.start) || decide (s.ticks < listenPoll it + ticksUs 260) then s
        else if c.badMode then sendStandby l.bay (declineListen l (countModeErr l.bay s))
        else
          let s := captureItem r i s
          let m := listenSeen (listenPoll it) it.width c
          match headToa l.cal (listenChannel s l.bay l.ownHub l.ownHandle) it.width m.ants with
          | some toa =>
            if c.lost || !(s.bay l.bay).sl.timing.settled || !calibrationOk s l.bay then sendStandby l.bay (declineListen l s)
            else sendSighting l it m toa s
          | none => sendStandby l.bay (declineListen l s))

/-- A packet that arrives (R351): taken in, forwarded toward its hub, or, with cascade evidence not in use, not used. -/
def routed (m : SightMsg) (pt : Nat) (take : Packet → Hub → Hub) (s : Hub) : Hub :=
  let p := Packet.ofBytes m.body
  if m.body.length ≠ 32 ∨ p.ptype ≠ pt ∨ s.fwReady = false then s
  else if p.dest ≠ s.hubIndex then sendPacket p s
  else take p s

/-- The hub a packet came from. -/
def Packet.src (p : Packet) : Nat := if p.ptype = ptListen ∨ p.ptype = ptCancel then p.ownHub else p.lisHub

def usable (p : Packet) (s : Hub) : Bool := p.src == s.hubIndex || evidenceWith s p.src

/-- LISTEN_REQUEST (R68). -/
def execListenRequest (m : SightMsg) : State → Turn := onHub fun s =>
  .next (routed m ptListen (fun p s => if usable p s then receiveListen p s else declineListen (listenOf p none) s) s)

/-- SIGHTING (R69). -/
def execSighting (m : SightMsg) : State → Turn := onHub fun s =>
  .next (routed m ptSighting (fun p s => if usable p s then receiveSighting p s else s) s)

/-- DECLINE (R68). -/
def execDecline (m : SightMsg) : State → Turn := onHub fun s =>
  .next (routed m ptDecline (fun p s => noteListener p.ownHandle p.sweep p.lisHub p.lisBay (fun l => if l.state = 0 then { l with state := 2 } else l) s) s)

/-- CANCEL (R70). -/
def execCancel (m : SightMsg) : State → Turn := onHub fun s =>
  .next (routed m ptCancel (fun p s => cancelListen p.ownHub p.ownHandle p.lisBay s) s)

/-! ## The rapid exchange as it runs (R305 to R311) -/

/-- T_R in clapper ticks, in tenths: 0.5 µs is 7,987.2 ticks; instants are rounded down to whole ticks. -/
def roundTick (rx i : Nat) : Nat := i * rx * 79872 / 10

/-- T_S of an exchange that starts in slot `n` (R303). -/
def rapidTick (t : Take) (n : Nat) : Nat := t.tPoll + ticksUs 1000 + ticksUs (100 * (n - rapidFirst t))

/-- The tick at which challenge `i` of an exchange from tick `ts` on is radiated. -/
def challengeTick (ts rx i : Nat) : Nat := ts + roundTick rx i

/-- The whole exchange keeps the limits (R153, R305): 32 challenges from tick `ts` on, each one frame and 64 pulses. -/
def rapidAllowed (s : Hub) (b q ts rx : Nat) : Bool :=
  let l := limits s
  let x := (s.bay b).radio
  let us_ := (List.range 32).map (fun i => mkChallenge s b q i (challengeTick ts rx i))
  l.channel x.channel x.power && us_.all (fun u => decide (u.slates ≤ l.burst)) && pulsesAllowed l x (us_.map (fun u => (u.first, u.pulses))) &&
    us_.zipIdx.all (fun p => framesAllowed l x p.1.first (p.2 + 1))

/-- A later challenge goes out (R306): its UWB_TX with WIN 0 and ARG[18] = 1, and its frame and pulses in the counts. -/
def sendChallenge (b i : Nat) (s : Hub) : Hub :=
  match (s.bay b).rapid, (s.bay b).dlgV with
  | some x, some d =>
    let u := mkChallenge s b x.q i (challengeTick x.tStart d.rxPeriod i)
    let s := setRadio b (fun r => { r.countBurst u with running := some u, playing := some u }) s
    cueAt b 0x16 (u.slates + u.antenna * 2 ^ 16 + 2 ^ 18) u.first 0 .burst (some x.q) s
  | _, _ => s

/-- The exchange's slot does not serve: it waits for its next start, or has none left. -/
def rapidNext (b : Nat) (t : Take) (q : Nat) (st : Status) (s : Hub) : Hub :=
  let r := regionOf b
  let n := rapidSlotFrom t (firstOpenSlot s r)
  let s := modRapid b (fun x => { x with ready := false }) (unstage b q s)
  if n ≤ rapidLast t then modItem r q (fun i => { i with earliest := n }) (ungrant r q s)
  else endRapid b .notRun st s

/-- RAPID_START (R305): from the freeze that granted the slot. `w` says that all 32 challenges are staged; challenge 0 then waits for the deadline of
its slate. -/
def execRapidStart (b : Nat) (w : Bool) : State → Turn := onHub fun s =>
  atBay b s (fun s =>
    match (s.bay b).take, (s.bay b).rapid, (s.bay b).dlgV with
    | some t, some x, some d =>
      match s.item (regionOf b) x.q with
      | none => s
      | some i =>
        if !i.granted || x.ready || x.outcome.isSome then s
        else
          let ts := rapidTick t i.start
          if !rapidAllowed s b x.q ts d.rxPeriod then endRapid b .notRun .regLimit (regRefused b s)
          else if !(s.bay b).sl.timing.settled then rapidInvalid b s
          else if d.rxPeriod < roundPeriod s b then endRapid b .periodShort .wrongState s
          else if !w then rapidNext b t x.q .txLate s
          else
            let own := reservedEngine s (regionOf b)
            let s := modRapid b (fun x => { x with ready := true, tStart := ts, k := (i.start - rapidFirst t) / 10, engine := i.engine.getD 0
                                                   reserved := own.isSome && decide (i.engine = own) }) s
            (stage b (mkChallenge s b x.q 0 ts) s).2
    | _, _, _ => s)

/-- An exchange that has not begun when its three slots are over waits for its next start (R304). -/
def rapidOver (b q : Nat) (s : Hub) : Hub :=
  match (s.bay b).take, (s.bay b).rapid with
  | some t, some x => if x.started then s else rapidNext b t q .txLate s
  | _, _ => s

/-- The instant at which the last chip of the round's challenge is radiated (R278, R307), in 1/256 tick. -/
def challengeEnd (t : Take) (x : Rapid) (d : Dialogue) : Int :=
  radiatedAt t.cal d.cfg.uwbCh (challengeTick x.tStart d.rxPeriod x.round) + 63 * 32 * 256

/-- The zero-distance arrival t_0 of a round (R307). -/
def zeroArrival (t : Take) (x : Rapid) (d : Dialogue) : Int := challengeEnd t x d + ((16000 + d.dTok.getD 0 : Nat) : Int) * 256

/-- Instants from tick `a` to `z` meet the running round's window of 44 lags and the reply that begins at the last of them (R307, R314). -/
def rapidWindowMeets (s : Hub) (b a z : Nat) : Bool :=
  match (s.bay b).take, (s.bay b).rapid, (s.bay b).dlgV with
  | some t, some x, some d =>
    let t0 := zeroArrival t x d / 256
    x.started && x.outcome.isNone && decide ((a : Int) < t0 + 41 * 16 + 20 * 32) && decide (t0 - 2 * 16 < z)
  | _, _, _ => false

/-- The distance of a round in mm (R308). -/
def roundDistance (s : Hub) (b : Nat) (t : Take) (x : Rapid) (d : Dialogue) (raw : Nat) : Nat :=
  let ch := d.cfg.uwbCh
  let rf := (raw : Int) - gdRx t.cal ch (t.txAnt d.cfg) - headFix t.cal ch
  let v := rf - zeroArrival t x d
  if s.bayPresent b ∧ 0 < v then (nearDiv (18767 * v) 512000).toNat else 0

/-- The reply bit of a round that is decoded, and the outcome that ends the exchange, if any (R308). -/
def judgeRound (s : Hub) (b : Nat) (x : Rapid) (d : Dialogue) (m : RoundMeas) : Option Bool × Option RapidOutcome :=
  if !m.peakOk then (none, some .noReply)
  else if m.lag = 0 then (none, some .early)
  else if inSuspect (s.bay b).sl.suspect m.raw then (none, some .suspect)
  else if 16 * m.x ^ 2 < (m.refPow : Int) * m.datPow then (none, some .wrongBit)
  else
    let bit_ := decide (¬ 0 < m.x)
    let want := x.chal.testBit x.round ^^ maskBit (kRapid (d.sk.getD 0) b x.takeNo) x.round
    (some bit_, if bit_ = want then none else some .wrongBit)

/-- The launch deadline of the next challenge's slate (R91, R145): D + 256.4 ns before it. -/
def nextDeadline (s : Hub) (b : Nat) (x : Rapid) (d : Dialogue) : Nat :=
  let m := delaySum (s.bay b).sl.timing.meas
  let next := chipAt (takeCal s b) d.cfg.uwbCh (challengeTick x.tStart d.rxPeriod (x.round + 1))
  next / slateTicks * slateTicks - (m.1 / max m.2 1 + 4096)

/-- What a round leaves before its verdict counts: the lowest peak quality of the rounds judged, and the answered bit (R308, R317). -/
def roundHeard (b : Nat) (m : RoundMeas) (v : Option Bool) (s : Hub) : Hub :=
  modRapid b (fun x =>
    { x with resp := x.resp + (if v = some true then 2 ^ x.round else 0), minPq := some (min (x.minPq.getD m.pq) m.pq) }) s

/-- A round that passed counts its distance (R311). -/
def Rapid.passedAt (dist : Nat) (x : Rapid) : Rapid :=
  { x with round := x.round + 1, maxD := max x.maxD dist, minD := some (min (x.minD.getD dist) dist) }

/-- RAPID_ROUND_VERDICT (R308 to R311). -/
def execRapidRoundVerdict (b : Nat) (c : RoundCorr) : State → Turn := onHub fun s =>
  atBay b s (fun s =>
    match (s.bay b).take, (s.bay b).rapid, (s.bay b).dlgV with
    | some t, some x, some d =>
      if !x.started || x.outcome.isSome then s
      else
        let m := roundSeen (zeroArrival t x d).toNat c
        let j := judgeRound s b x d m
        let s := roundHeard b m j.1 s
        match j.2 with
        | some o => endRapid b o (rapidStatus o .internal) (modRapid b (fun x => { x with failRound := some x.round }) s)
        | none =>
          let dist := roundDistance s b t x d m.raw
          let s := modRapid b (Rapid.passedAt dist) s
          if x.round + 1 = 32 then endRapid b .rapidOk .ok s
          else if nextDeadline s b x d < s.ticks then invalidateRapid b s
          else sendChallenge b (x.round + 1) s
    | _, _, _ => s)

/-! ## What a launched or refused burst means for its item -/

/-- A burst has started (R146). -/
def burstStarted (b : Nat) (u : Burst) (s : Hub) : Hub :=
  match u.kind with
  | .setup =>
    (match (s.bay b).take, (s.bay b).dlgV with
     | some t, some d => (stage b (pollBurst s b .poll t.tPoll t d) (modTake b (fun t => { t with stage := .announced }) s)).2
     | _, _ => s)
  | .poll => modTake b (fun t => { t with stage := .polled }) s
  | .final => modTake b (fun t => { t with stage := .finished }) s
  | .auth => s
  | .challenge i =>
    if i = 0 then countRapid b (fun c => { c with run := satAdd c.run 1 }) (modRapid b (fun x => { x with started := true }) s) else s

/-- A burst was not started: the step's item ends with a status. A pass counts as unanswered at the end of its window (R394); a take that has
not polled is NOT_RUN; one whose FINAL was not sent gets no REPORT. -/
def burstRefused (b : Nat) (u : Burst) (st : Status) (s : Hub) : Hub :=
  match u.kind with
  | .setup => failTake b .notRun st s
  | .poll => failTake b .notRun st s
  | .final => modTake b (fun t => { t with stage := .finished }) s
  | .auth => s
  | .challenge _ => endRapid b .notRun st s

/-- A running burst was cancelled by a SAFETY item or a regulatory cue (R288, R314). -/
def burstStopped (b : Nat) (u : Burst) (s : Hub) : Hub :=
  match u.kind with
  | .setup => failTake b .stopped .internal s
  | .poll => failTake b .stopped .internal s
  | .final => failTake b .stopped .internal s
  | .auth => s
  | .challenge _ => endRapid b .stopped .internal s

end Sys2Proof.Machine
end

