-- ==== Sys2Proof/Machine/Radio.lean ====
section
/-! DEFINITION. The radio of a bay: the bay block's copy of the state machine (R130 to R133), calibration runs (R134 to R136), what an echo
means for its step (R94, R96), burst launches (R144 to R146), emitter cuts (R48, R55, R102), coexistence (R157 to R166) and compliance tests
as they run (R164, R167 to R170). -/

namespace Sys2Proof.Machine

def countRadio (b : Nat) (f : RadioCnt → RadioCnt) (s : Hub) : Hub := setRadio b (fun r => { r with cnt := f r.cnt }) s

/-- The current mean link delay D of a port (R107), the mean of up to 16 measurements rounded down to a whole tick (DESIGN CHOICE, log entry 10). -/
def linkDelay (s : Hub) (b : Nat) : Nat :=
  let m := delaySum (s.bay b).sl.timing.meas
  m.1 / max m.2 1

/-- The launch lead D + 256.4 ns of a slate (R91). -/
def launchLead (s : Hub) (b : Nat) : Nat := linkDelay s b + 4096

/-! ## The copy of the state machine (R130, R133) -/

/-- RADIO of the upstream header. -/
def radioOf (n : Nat) : Option RadioState :=
  match n with
  | 0 => some .off | 1 => some .sleep | 2 => some .standby | 3 => some .settle | 4 => some .cal | 5 => some .rx | 6 => some .tx | _ => none

/-- The limits of the changes of R130 out of OFF and SLEEP. -/
def radioGrace (s : RadioState) (opc : Nat) : Nat :=
  match s with
  | .off => if opc = 0x11 then ms 1 else us 1100
  | .sleep => us 100
  | .standby => us 1 | .settle => us 1 | .cal => us 1 | .rx => us 1 | .tx => us 1

/-- REG_BAR bars the channel in use. -/
def barsChannel (arg ch : Nat) : Bool := if ch = 5 then bit arg 0 else bit arg 1

/-- The copy after a cue takes effect (R126, R129, R130). -/
def Radio.cue (x : Radio) (opc arg now : Nat) : Radio :=
  let go := fun (n : RadioState) => { x with copy := n, graceTo := now + radioGrace x.copy opc }
  match opc with
  | 0x10 => go .off
  | 0x11 => go .sleep
  | 0x12 => go .standby
  | 0x13 => if x.copy = .rx ∨ x.copy = .settle then { x with copy := .settle, settleForTx := decide (x.copy = .settle) && x.settleForTx } else x
  | 0x14 => if x.copy = .standby then { x with copy := .cal } else x
  | 0x15 => if x.copy = .standby then { x with copy := .settle, settleForTx := false } else x
  | 0x16 =>
    if x.copy = .standby then { x with copy := .settle, settleForTx := true }
    else if x.copy = .settle then { x with settleForTx := true }
    else if x.copy = .rx then { x with copy := .tx } else x
  | 0x17 => { x with gainAuto := bit arg 8, gainStep := arg % 256 }
  | 0x20 => { x with uhfOn := true }
  | 0x21 => { x with uhfOn := false }
  | 0x22 => { x with uhfGainAuto := bit arg 8, uhfGainStep := arg % 256 }
  | 0x30 => if x.copy = .tx then go .standby else x
  | 0x31 => if x.copy = .tx ∧ barsChannel arg x.channel then { go .standby with bar := arg } else { x with bar := arg }
  | _ => x

/-- A change the chain makes of itself (R130): lock, no lock, the end of a calibration, the turnaround of a UWB_TX that is out, and the end of a
burst: to RX as its ARG[18] asked, otherwise, or cut, to STANDBY. -/
def Radio.itself (x : Radio) (txOut : Bool) (n : RadioState) : Bool :=
  match x.copy, n with
  | .settle, .rx => !x.settleForTx
  | .settle, .tx => x.settleForTx
  | .settle, .standby => true
  | .cal, .standby => true
  | .rx, .tx => txOut
  | .tx, .rx => x.playing.any (·.backToRx)
  | .tx, .standby => !x.playing.any (·.backToRx)
  | _, _ => false

/-- Cues whose EXEC a slate has reached take effect in the copy, in CSEQ order. -/
def applyCues (b time : Nat) (s : Hub) : Hub :=
  let l := (s.bay b).sl.outstanding
  let hit := fun (c : Cue) => !c.applied && decide (c.exec ≤ time)
  let s := (l.filter hit).foldl (fun s c => setRadio b (fun r => r.cue c.opc c.arg s.now) s) s
  setSl b (fun x => { x with outstanding := x.outstanding.map (fun c => if hit c then { c with applied := true } else c) }) s

/-- The chain did not lock (R130, R171). -/
def lockFailed (b : Nat) (s : Hub) : Hub :=
  setRadio b (fun r => { r with lockFailRun := r.lockFailRun + 1, cnt := { r.cnt with lockFail := satAdd r.cnt.lockFail 1 } }) s

/-! ## Bay states OFFLINE, IDLE and WATCH (R203) -/

/-- The moves of R203 that follow of themselves: OFFLINE to IDLE, and IDLE to WATCH. -/
def advanceBay (b : Nat) (s : Hub) : Hub :=
  let x := s.bay b
  let act := decide ((s.region (regionOf b)).st = .active)
  let s :=
    if x.st = .offline ∧ act ∧ x.link.enabled ∧ isUp s b ∧ x.radio.calOk ∧ x.sess = none then
      s.setBay b (fun y => { y with st := .idle })
    else s
  let x := s.bay b
  if x.st = .idle ∧ act ∧ x.radio.test = none ∧ (effectivePolicy x = .continuous ∨ x.poll.touchPending ∨ x.poll.wakePending) then
    let s := if x.poll.touchPending then setPoll b (fun p => { p with cnt := { p.cnt with capWake := satAdd p.cnt.capWake 1 } }) s else s
    toWatch b s
  else s

/-! ## Calibration runs (R134 to R136) -/

/-- An occasion for RF_CAL. -/
def calNeeded (s : Hub) (b : Nat) : Bool :=
  let x := s.bay b
  let r := x.radio
  let serving := decide (x.st = .watch ∨ x.st = .engaged ∨ x.st = .charging ∨ x.st = .wrapping)
  if r.calTry = 1 then true
  else
    match r.calTemp with
    | none => true
    | some t => decide (10 ≤ (x.sl.rep.temp - t).natAbs) || decide (3 ≤ r.lockFailRun) || (serving && s.passed r.calAt (sec 600))

/-- CALIBRATION_RUN (R134, R135): the run enters the call sheet as a HOUSEKEEPING item. -/
def execCalibrationRun (b : Nat) : State → Turn := onHub fun s =>
  atBay b s (fun s =>
    let r := (s.bay b).radio
    if isUp s b && !r.calDue && calNeeded s b && decide ((s.region (regionOf b)).st = .active) && decide (r.copy = .standby) then
      let e := enqueue false { q := 0, kind := .poll, cls := .housekeeping, bay := b, what := .calibrate, earliest := s.slot, latest := s.slot + 250, order := s.slot } s
      if e.1.isSome then setRadio b (fun r => { r with calDue := true }) e.2 else countRefused b e.2
    else s)

/-- A granted calibration run starts (R134, R190): RF_CAL; the LF and HF measurements drive the coils from now on, each where the limits allow
it (R153). -/
def startCal (b q : Nat) (s : Hub) : Hub :=
  let l := limits s
  let c := (s.bay b).poll.cfg
  let lf := [(s.slot * slotTicks, ticksUs 256)]
  let lfOk := l.coil false c.lfDrive && dutyAllowed l (s.bay b).radio lf
  let s := if lfOk then setRadio b (fun r => { r with lfLog := lf ++ r.lfLog }) s else regRefused b s
  let s := if l.coil true c.hfField then s else regRefused b s
  let s := modItem (regionOf b) q (fun i => { i with noLf := !lfOk }) s
  cueAt b 0x14 0 (s.slot * slotTicks + ticksUs 5) 0 .calibrate (some q) s

/-- Calibration items of a bay that wait leave the call sheet. -/
def dropWaitingCal (b : Nat) (s : Hub) : Hub :=
  ((s.bayItems b).filter (fun i => decide (i.what = .calibrate) && !i.granted)).foldl (fun s i => dropItem (regionOf b) i.q s) s

/-- The RF_CAL of a run has ended: on success the bay may leave OFFLINE (R203); a run that failed is made once more (R136), and after the second the
occasions of R134 count from it. The head is tuned and given its channel after each run (R175, R255). -/
def calEnded (b : Nat) (ok failEcho : Bool) (s : Hub) : Hub :=
  let s := dropWaitingCal b s
  let s := setRadio b (fun r =>
    { r with calDue := false, calTemp := some (s.bay b).sl.rep.temp, calAt := s.now, calOk := r.calOk || ok
             lockFailRun := if ok ∨ r.calTry = 1 then 0 else r.lockFailRun, calTry := if ok then 0 else 1 - r.calTry
             cnt := { r.cnt with calFail := satAdd r.cnt.calFail (b2n failEcho) } }) s
  advanceBay b (ownChannel b (tuneCues b s))

/-- A HOUSEKEEPING item whose LATEST has passed (R54). -/
def skipItem (i : Item) (s : Hub) : Hub := countSkipped i.bay (dropItem (regionOf i.bay) i.q s)

/-- A calibration run that was not made: its occasion remains. -/
def skipCal (i : Item) (s : Hub) : Hub := setRadio i.bay (fun r => { r with calDue := false }) (skipItem i s)

/-! ## Tests (R158, R164, R167 to R170, R558, R559) -/

/-- A test ends: the bay follows R203 from IDLE. -/
def endTest (b : Nat) (st : Status) (result : Nat) (s : Hub) : Hub :=
  match (s.bay b).radio.test with
  | none => s
  | some t =>
    let ran := match t.started with
      | some a => (s.now - a) / ms 1
      | none => 0
    let s := setRadio b (fun r => { r with test := none }) s
    let k := queuesTotal + b % 16
    let s := s.setRegion (regionOf b) (fun x =>
      { x with coex := { x.coex with covered := x.coex.covered.filter (· ≠ k), clear := x.coex.clear.filter (· ≠ k) } })
    let s := if t.started.isSome then ownChannel b s else s
    advanceBay b (finishOpt t.endRef .ok [] (finish t.ref st [⟨8, 1, result⟩, ⟨12, 4, ran⟩] [] s))

/-- May a waiting test begin: port UP, nothing staged, no item on the radio? -/
def testReady (s : Hub) (b : Nat) : Bool :=
  match (s.bay b).radio.test with
  | some t => t.started.isNone && isUp s b && decide ((s.bay b).st = .idle) && (s.bay b).radio.staged.isNone &&
      !(s.bayItems b).any (fun i => i.granted && i.needs != {})
  | none => false

/-- A test begins: channel and power, then the test cue, at its planned instant where coexistence has fixed one (R158, R167). -/
def beginTest (b : Nat) (s : Hub) : Hub :=
  match (s.bay b).radio.test with
  | none => s
  | some t =>
    let s := setRadio b (fun r => { r with test := some { t with started := some s.now } }) s
    let s := if t.opc ≤ 0x61 then
        cueNow b 0x13 (t.arg % 256 + t.power * 256) .radio (setRadio b (fun r => { r with channel := t.arg % 256, power := t.power }) s)
      else s
    match t.air with
    | some a => cueAt b t.opc t.arg a 156 .test none s
    | none => cueNow b t.opc t.arg .test s

/-- How far ahead a test's first emission is planned while coexistence is enabled (DESIGN CHOICE, log entry 168). -/
def testLead : Nat := ticksUs 40

/-- A test that may begin: at once where its region's coexistence is disabled (R166); otherwise its instant is fixed, and its grant decides. -/
def tryTest (b : Nat) (s : Hub) : Hub :=
  if !testReady s b then s
  else if !(s.region (regionOf b)).coex.enabled then beginTest b (setRadio b (fun r => { r with test := r.test.map (fun t => { t with air := none }) }) s)
  else setRadio b (fun r => { r with test := r.test.map (fun t => { t with air := t.air <|> some (s.ticks + testLead) }) }) s

/-! ## Echoes (R94, R96) -/

/-- The status the hub reports for the step of a cue. -/
def echoStatus (r : Nat) : Status :=
  match r with
  | 0 => .ok | 1 => .txLate | 2 => .radioBusy | 3 => .regLimit | _ => .internal

/-- Counters of a step that ended with RADIO_BUSY or REG_LIMIT. -/
def countStatus (b : Nat) (st : Status) (s : Hub) : Hub :=
  if st = .radioBusy then radioBusyCount b s else if st = .regLimit then regRefused b s else s

/-! ## Coexistence (R157 to R166) -/

/-- The instant of the first chip a covered item radiates (R157); none for an item that is not covered or whose instant is not fixed yet. A
queue number above the store's names the test at a bay of the region. -/
def airOf (s : Hub) (r q : Nat) : Option Nat :=
  if queuesTotal ≤ q then
    let b := 16 * r + (q - queuesTotal)
    if q < queuesTotal + 16 ∧ testReady s b then (s.bay b).radio.test.bind (·.air) else none
  else
    match s.item r q with
    | none => none
    | some i =>
      if !i.granted then none
      else
        match i.what with
        | .lfTelegram => if bit (s.bay i.bay).poll.cfg.lfCmd 1 then some (i.start * slotTicks) else none
        | .rapid => ((s.bay i.bay).take).map (fun t => rapidTick t i.start)
        | .take => ((s.bay i.bay).radio.staged.filter (fun u => u.q == q && decide (u.kind = .setup))).map (·.first)
        | .authPass => ((s.bay i.bay).radio.staged.filter (fun u => u.q == q && decide (u.kind = .auth))).map (·.first)
        | .hfPing => none | .hfPoll => none | .listenFree => none | .listenLinked _ => none | .calibrate => none | .measure _ => none
        | .listen _ _ => none | .meterReq => none | .tagTxn => none

/-- The bay of a covered item. -/
def airBay (s : Hub) (r q : Nat) : Nat := if queuesTotal ≤ q then 16 * r + (q - queuesTotal) else ((s.item r q).map (·.bay)).getD 0

/-- An item that radiates may begin: not covered, coexistence disabled, or its grant sampled high. -/
def mayAir (s : Hub) (r q : Nat) : Bool :=
  let x := (s.region r).coex
  !x.enabled || x.clear.contains q

/-- COEX_PRI is high for at least one RANGING item (R159). -/
def coexPri (s : Hub) (r : Nat) (l : List Nat) : Bool := l.any (fun q => ((s.item r q).map (fun i => decide (i.cls = .ranging))).getD false)

def setCoex (r : Nat) (f : Coex → Coex) (s : Hub) : Hub := s.setRegion r (fun x => { x with coex := f x.coex })

/-- COEX_REQ_RAISE (R158, R159, R166): 20 µs before t_air. -/
def execCoexReqRaise (r q : Nat) : State → Turn := onHub fun s =>
  atRegion r s (fun s =>
    match airOf s r q with
    | none => s
    | some t =>
      let x := (s.region r).coex
      if !x.enabled || x.covered.contains q || decide (s.ticks + ticksUs 20 < t) then s
      else
        let l := x.covered ++ [q]
        setCoex r (fun x => { x with covered := l, req := true, pri := coexPri s r l }) s)

/-- A deferral counts; the eighth ends the item with COEX_DENIED (R162, R163). A deferred take has not been dispatched: its number is not used up. -/
def coexDefer (r q : Nat) (s : Hub) : Hub :=
  match s.item r q with
  | none => s
  | some i =>
    let b := i.bay
    let s := countRadio b (fun c => { c with coexDefer := satAdd c.coexDefer 1 }) (unstage b q s)
    let last := decide (8 ≤ i.deferrals + 1)
    let s := if last then countRadio b (fun c => { c with coexDenied := satAdd c.coexDenied 1 }) s else s
    let back := fun (s : Hub) => modItem r q (fun i => { i with deferrals := i.deferrals + 1, notBefore := firstOpenSlot s r }) (ungrant r q s)
    match i.what with
    | .take =>
      if last then failTake b .notRun .coexDenied s
      else modDlg b .v (fun d => { d with takeNo := d.takeNo - 1 }) (modTake b (fun t => { t with stage := .planned, dispatched := false }) (back s))
    | .rapid =>
      if last then endRapid b .notRun .coexDenied s
      else
        (match (s.bay b).take with
         | some t => rapidNext b t q .txLate (modItem r q (fun i => { i with deferrals := i.deferrals + 1 }) (modRapid b (fun x => { x with deferrals := x.deferrals + 1 }) s))
         | none => s)
    | .authPass =>
      if last then passUnanswered 3 b .v s else modAuth b .v (fun a => { a with window := 0, passes := a.passes - 1 }) (back s)
    | .lfTelegram => if last then dropItem r q s else back s
    | .hfPing => s | .hfPoll => s | .listenFree => s | .listenLinked _ => s | .calibrate => s | .measure _ => s | .listen _ _ => s
    | .meterReq => s | .tagTxn => s

/-- A covered take that begins has been dispatched. -/
def coexRuns (r q : Nat) (s : Hub) : Hub :=
  let s := setCoex r (fun x => { x with clear := x.clear ++ [q] }) s
  match s.item r q with
  | some i => if i.what = .take then countRange i.bay (fun c => { c with takes := satAdd c.takes 1 }) s else s
  | none => s

/-- How long before t_air the grant is sampled (R160). -/
def grantLead (s : Hub) (b : Nat) : Nat := max (ticksUs 2) (launchLead s b + 1024)

/-- COEX_GRANT_SAMPLE (R160 to R164): `gnt` is the level of COEX_GNT[r] at t_g. -/
def execCoexGrantSample (r q : Nat) (gnt : Bool) : State → Turn := onHub fun s =>
  atRegion r s (fun s =>
    let x := (s.region r).coex
    match airOf s r q with
    | none => s
    | some t =>
      let b := airBay s r q
      if !x.enabled || !x.covered.contains q || x.clear.contains q || decide (s.ticks + grantLead s b < t) then s
      else
        let s := setCoex r (fun x => { x with gnt := gnt }) s
        if gnt then
          let s := coexRuns r q s
          if queuesTotal ≤ q then beginTest b s else s
        else if queuesTotal ≤ q then endTest b .coexDenied 0 (countRadio b (fun c => { c with coexDenied := satAdd c.coexDenied 1 }) s)
        else coexDefer r q s)

/-- A covered interval is still running, or begins within 40 µs (R157, R158). -/
def stillCovered (s : Hub) (r q : Nat) : Bool :=
  if queuesTotal ≤ q then (s.bay (16 * r + (q - queuesTotal))).radio.test.isSome
  else
    match s.item r q with
    | none => false
    | some i =>
      match i.what with
      | .take => ((s.bay i.bay).take.map (fun t => t.stage != .finished || (s.bay i.bay).radio.running.isSome)).getD false
      | .authPass => (s.bay i.bay).radio.staged.isSome || (s.bay i.bay).radio.running.isSome
      | _ => true

/-- COEX_REQ_FALL (R158, R159). -/
def execCoexReqFall (r : Nat) : State → Turn := onHub fun s =>
  atRegion r s (fun s =>
    let x := (s.region r).coex
    let l := x.covered.filter (stillCovered s r)
    let near := ((s.items r).map (·.q) ++ (List.range 16).map (queuesTotal + ·)).any (fun q => match airOf s r q with
      | some t => decide (t < s.ticks + ticksUs 40) && !x.clear.contains q
      | none => false)
    setCoex r (fun x =>
      { x with covered := l, clear := x.clear.filter (fun q => l.contains q)
               req := x.enabled && (!l.isEmpty || (x.req && near)), pri := x.enabled && coexPri s r l }) s)

/-! ## Launching a burst (R144 to R146, R153) -/

/-- A staged burst leaves the buffer and starts: its cue goes into the slate of its first chip. -/
def launchBurst (b : Nat) (u : Burst) (s : Hub) : Hub :=
  let t := u.first
  let s := setRadio b (fun r => { r.countBurst u with staged := none, running := some u, playing := some u }) s
  burstStarted b u (cueAt b 0x16 (u.slates + u.antenna * 2 ^ 16 + b2n u.backToRx * 2 ^ 18) t u.win .burst (some u.q) s)

/-- BURST_LAUNCH_DEADLINE (R145, R150, R153): at the deadline of the slate with its first chip, a staged burst within the limits starts. -/
def execBurstLaunchDeadline (b : Nat) : State → Turn := onHub fun s =>
  atBay b s (fun s =>
    match (s.bay b).radio.staged with
    | none => s
    | some u =>
      if s.ticks + launchLead s b + slateTicks < u.first / slateTicks * slateTicks || !mayAir s (regionOf b) u.q then s
      else
        let out := setRadio b (fun r => { r with staged := none }) s
        if (s.bay b).sl.emitStop then burstStopped b u out
        else if !u.desc || decide (u.stsReady < u.stsChips) then
          burstRefused b u .txLate (countRadio b (fun c => { c with txUnstaged := satAdd c.txUnstaged 1 }) out)
        else if !burstAllowed (limits s) (s.bay b).radio u then burstRefused b u .regLimit (regRefused b out)
        else launchBurst b u s)

end Sys2Proof.Machine
end

