-- ==== Sys2Proof/Machine/Field.lean ====
section
/-! DEFINITION. The coils of a bay: when they are driven and with what (R89, R181, R182, R185, R188), the role of the HF coil (R207, R224),
telegrams, pings, listen windows and measurements as they start and end (R183, R190, R542), what falls due in WATCH (R179, R180), and the ends
of WATCH (R199, R201, R203). -/

namespace Sys2Proof.Machine

def countPoll (b : Nat) (f : PollCnt → PollCnt) (s : Hub) : Hub := setPoll b (fun p => { p with cnt := f p.cnt }) s

/-! ## The LF wake telegram (R181, R182) -/

/-- One bit of CRC-8, polynomial x^8 + x^2 + x + 1. -/
def crc8Bit (c : Nat) : Nat := if 128 ≤ c then (2 * c) % 256 ^^^ 0x07 else 2 * c

def crc8Byte (c : Nat) (x : Byte) : Nat :=
  let c := c ^^^ x.toNat
  crc8Bit (crc8Bit (crc8Bit (crc8Bit (crc8Bit (crc8Bit (crc8Bit (crc8Bit c)))))))

/-- CRC-8 with initial value 0 and no final complement. -/
def crc8 (l : List Byte) : Nat := l.foldl crc8Byte 0

/-- WAKE_ID: site code, hub index, global bay. -/
def wakeId (s : Hub) (b : Nat) : Nat := (s.bay b).poll.cfg.wakeSite * 1024 + s.hubIndex * 128 + b

/-- SYNC, WAKE_ID, CMD and CRC as one number of 48 bits, sent most significant bit first. -/
def telegram (s : Hub) (b : Nat) : Nat :=
  let body := (toLe 4 (wakeId s b * 256 + (s.bay b).poll.cfg.lfCmd)).reverse
  0x96 * 2 ^ 40 + beNat body * 256 + crc8 body

/-- Ticks of the preamble and of one bit. -/
def preambleTicks : Nat := 15974400
def bitTicks : Nat := 1996800

/-- The LF drive bit `e` ticks after the start of a telegram: Manchester coded, a 1 on then off. -/
def telegramBit (code e : Nat) : Bool :=
  if e < preambleTicks then true
  else
    let j := (e - preambleTicks) / bitTicks
    let firstHalf := decide (2 * ((e - preambleTicks) % bitTicks) < bitTicks)
    decide (j < 48) && (code.testBit (47 - j) == firstHalf)

/-! ## What drives the coils -/

/-- The times a telegram drives the coil: its preamble, and half of each bit (R181). -/
def telegramDrive (code t0 : Nat) : List (Nat × Nat) :=
  (t0, preambleTicks) :: (List.range 48).map (fun j =>
    (t0 + preambleTicks + bitTicks * j + (if code.testBit (47 - j) then 0 else bitTicks / 2), bitTicks / 2))

/-- Ticks of an LF measurement and of a ping or HF measurement (R185, R190). -/
def lfMeasTicks : Nat := ticksUs 256
def pingTicks : Nat := 19968 * 16

/-- Does an item drive the LF coil at a tick? -/
def Item.drivesLf (i : Item) (code t : Nat) : Bool :=
  let t0 := i.start * slotTicks
  i.granted && decide (t0 ≤ t) &&
  (match i.what with
   | .lfTelegram => decide (t < t0 + telegramSlots * slotTicks) && telegramBit code (t - t0)
   | .measure hf => !hf && decide (t < t0 + lfMeasTicks)
   | .calibrate => !i.noLf && decide (t < t0 + lfMeasTicks)
   | _ => false)

/-- Does an item drive the HF coil at a tick? A reader poll holds its carrier from its start to its end (R833). -/
def Item.drivesHf (i : Item) (t : Nat) : Bool :=
  let t0 := i.start * slotTicks
  i.granted && decide (t0 ≤ t) &&
  (match i.what with
   | .hfPing => decide (t < t0 + pingTicks)
   | .hfPoll => true
   | .authPass => i.tclass == 1
   | .measure hf => hf && decide (t < t0 + pingTicks)
   | .calibrate => decide (t < t0 + pingTicks)
   | _ => false)

/-- The bay holds its field on under CONTINUOUS_FIELD while it is in WATCH (R188). -/
def continuousOn (s : Hub) (b : Nat) : Bool :=
  let x := s.bay b
  decide (x.st = .watch) && decide (x.poll.cfg.hfMode = .continuousField) && !x.hf.listen && x.radio.test.isNone

/-- The LF coil is driven at a tick, at a code the limits allow (R153). -/
def lfDriven (s : Hub) (b t : Nat) : Bool :=
  !(s.bay b).poll.lfOpen && (limits s).coil false (s.bay b).poll.cfg.lfDrive && (s.bayItems b).any (fun i => i.drivesLf (telegram s b) t)

/-- The class C token tapped at a bay keeps its carrier from the poll to the end of its authentication (R216, R833). -/
def authCarrier (x : Bay) : Bool := x.hf.card.isSome && (x.dlgC.map (fun d => d.auth.phase != .done)).getD false

/-- The HF carrier is on at a tick: never at a code the limits forbid (R153), nor while an external field is present (R211). -/
def hfDriven (s : Hub) (b t : Nat) : Bool :=
  let x := s.bay b
  !x.poll.hfOpen && !x.hf.listen && !x.hf.extField && (limits s).coil true x.poll.cfg.hfField &&
    ((s.bayItems b).any (fun i => i.drivesHf t) || continuousOn s b || authCarrier x || ((x.hf.card.map (·.host)).getD false))

/-- The 64 drive bits of a slate from tick `t`: instant i in bit 63 − i (R89). -/
def driveBits (f : Nat → Bool) (t : Nat) : Nat := (List.range 64).foldl (fun a i => 2 * a + b2n (f (t + 16 * i))) 0

/-! ## The role of the HF coil (R207, R223, R224) -/

/-- HF_ROLE; a coil that leaves READER loses its card. -/
def setRole (b : Nat) (listen : Bool) (s : Hub) : Hub :=
  if (s.bay b).hf.listen = listen then s
  else cueNow b 0x50 (b2n listen) .field (setHf b (fun h => { h with listen := listen, card := if listen then none else h.card }) s)

/-- An item that holds the HF coil as a reader, or for a measurement, runs or a class C authentication runs. -/
def readerBusy (s : Hub) (b : Nat) : Bool :=
  (s.bayItems b).any (fun i => i.granted && i.needs.hf && decide (i.what ≠ .tagTxn)) || (s.bay b).hf.txn.isSome ||
    (((s.bay b).dlgC).map (fun d => d.auth.phase != .done)).getD false || ((s.bay b).hf.card.map (·.host)).getD false

/-- The role the coil is to have: CARD_LISTEN under PING, and under CONTINUOUS_FIELD in a gap or while an external field is present (R211), and from
ENGAGED on, while no reader runs. -/
def wantsListen (s : Hub) (b : Nat) : Bool :=
  let x := s.bay b
  !readerBusy s b &&
  (match x.st with
   | .watch => decide (x.poll.cfg.hfMode = .ping) || x.hf.gapTo.isSome || x.hf.extField
   | .engaged => true | .charging => true | .wrapping => true
   | .offline => false | .idle => false | .dark => false | .fault => false)

/-- The coil takes its role while the port is UP. -/
def settleRole (b : Nat) (s : Hub) : Hub := if isUp s b then setRole b (wantsListen s b) s else s

/-! ## Telegrams, pings and windows as they run -/

/-- First tick of the UHF window's telegram end. -/
def teOf (i : Item) : Nat := (i.start + telegramSlots) * slotTicks

/-- A granted telegram starts (R153, R183): its linked UWB window enters the call sheet. -/
def startTelegram (b q : Nat) (s : Hub) : Hub :=
  let r := regionOf b
  let l := limits s
  let x := s.bay b
  match s.item r q with
  | none => s
  | some i =>
    if x.poll.lfOpen then dropItem r q s
    else if !l.coil false x.poll.cfg.lfDrive || !dutyAllowed l x.radio (telegramDrive (telegram s b) (i.start * slotTicks)) then dropItem r q (regRefused b s)
    else
      let te := teOf i
      let t0 := i.start * slotTicks
      let s := setRadio b (fun r => { r with lfLog := (telegramDrive (telegram s b) t0).reverse ++ r.lfLog.filter (fun p => decide (t0 < p.1 + p.2 + ticksUs 1000000)) }) s
      let e := enqueue false
        { q := 0, kind := .discovery, cls := .housekeeping, bay := b, what := .listenLinked te, earliest := (te + ticksUs 500) / slotTicks
          latest := (te + ticksUs 4500) / slotTicks, order := s.slot } s
      if e.1.isSome then e.2 else countRefused b e.2

/-- TE of a telegram: it has been sent to its end, and the UHF receiver is turned on within 0.5 ms (R183, R206). -/
def telegramSent (b : Nat) (i : Item) (s : Hub) : Hub :=
  let c := (s.bay b).poll.cfg
  let s := countPoll b (fun c => { c with lfTelegrams := satAdd c.lfTelegrams 1 }) s
  if (limits s).band c.uhfBand then cueAt b 0x20 c.uhfBand (teOf i + ticksUs 400) 0 .radio none s else regRefused b s

/-- The UHF window closes. -/
def telegramDone (b q : Nat) (s : Hub) : Hub := cueNow b 0x21 0 .radio (dropItem (regionOf b) q s)

/-- A granted ping starts (R185, R211): the carrier comes on for 20 µs. -/
def startPing (b q : Nat) (s : Hub) : Hub :=
  let x := s.bay b
  if x.poll.hfOpen then dropItem (regionOf b) q s
  else if x.hf.extField then countSkipped b (dropItem (regionOf b) q s)
  else if !(limits s).coil true x.poll.cfg.hfField then dropItem (regionOf b) q (regRefused b s)
  else setRole b false (setHf b (fun h => { h with card := none }) s)

/-- A ping has run. -/
def pingDone (b q : Nat) (s : Hub) : Hub :=
  settleRole b (countPoll b (fun c => { c with hfPings := satAdd c.hfPings 1 }) (dropItem (regionOf b) q s))

/-- A granted UWB listen window starts (R153, R179, R183). -/
def startWindow (b q : Nat) (s : Hub) : Hub :=
  if !(limits s).channel (burstCfg s b).uwbCh 0 then dropItem (regionOf b) q (regRefused b s)
  else toRx b q (needChannel b s)

/-- A listen window closes. -/
def windowDone (b q : Nat) (s : Hub) : Hub := sendStandby b (dropItem (regionOf b) q s)

/-! ## Measurements (R189, R190, R542) -/

/-- A measurement ends with AMP and PHASE. -/
def endMeasure (b : Nat) (st : Status) (amp phase : Nat) (s : Hub) : Hub :=
  match (s.bay b).poll.measure with
  | none => s
  | some m =>
    let s := setPoll b (fun p => { p with measure := none }) s
    let s := ((s.bayItems b).filter (fun i => decide (i.what = .measure m.hf))).foldl (fun s i => dropItem (regionOf b) i.q s) s
    settleRole b (finishOpt m.ref st [⟨8, 1, b2n m.hf⟩, ⟨9, 1, m.code⟩, ⟨10, 2, amp⟩, ⟨12, 2, phase⟩] s)

/-- A granted measurement starts: the coil is driven at the bay's code. -/
def startMeasure (b q : Nat) (hf : Bool) (s : Hub) : Hub :=
  let x := s.bay b
  let l := limits s
  let code := if hf then x.poll.cfg.hfField else x.poll.cfg.lfDrive
  if (if hf then x.poll.hfOpen else x.poll.lfOpen) then endMeasure b .wrongState 0x8000 0x8000 (dropItem (regionOf b) q s)
  else if hf && x.hf.extField then endMeasure b .busy 0x8000 0x8000 (dropItem (regionOf b) q s)
  else if !l.coil hf code || (!hf && !dutyAllowed l x.radio [(s.ticks, lfMeasTicks)]) then
    endMeasure b .regLimit 0x8000 0x8000 (regRefused b (dropItem (regionOf b) q s))
  else
    let s := if hf then setRole b false s else setRadio b (fun r => { r with lfLog := (s.ticks, lfMeasTicks) :: r.lfLog }) s
    setPoll b (fun p => { p with measure := p.measure.map (fun m => { m with code := code }) }) s

/-- BAY_MEASURE (R193, R211, R542). -/
def bayMeasure (q : Req) (c : CmdRef) (s : Hub) : Reply × Hub :=
  let b := fld q.payload 0 2
  let coil := fld q.payload 2 1
  let hf := decide (coil = 1)
  let x := s.bay b
  if 1 < coil then fail .badParam s
  else if !bayPlans s b then fail .wrongState s
  else if (if hf then x.poll.hfOpen else x.poll.lfOpen) then fail .wrongState s
  else if hf && x.hf.extField then fail .busy s
  else if x.poll.measure.isSome then fail .busy s
  else
    let e := enqueue false
      { q := 0, kind := .poll, cls := .auth, bay := b, what := .measure hf, earliest := s.slot, latest := s.slot + 100, hostTag := q.tag,
        ref := some c, order := s.slot } s
    if e.1.isSome then (.later, setPoll b (fun p => { p with measure := some { hf := hf, code := 0, ref := some c } }) e.2)
    else fail .noResource e.2

/-- The command table's row of BAY_MEASURE. -/
def specBayMeasure : Spec :=
  { op := 0x0106, lc := lcFCF, len := len 4, target := bayAt0, reserved := [3]
    states := fun _ _ x => decide (x.st = .watch) || (decide (x.st = .idle) && decide (x.link.state = .up)) }

def execBayMeasure (q : Req) : State → Turn := onHub fun s =>
  .next (hostCommand specBayMeasure bayMeasure q s)

/-! ## What falls due in WATCH (R179, R180) -/

/-- Does an item of period `p` slots fall due in slot `n`? -/
def fallsDue (first : Bool) (n b p : Nat) : Bool := first || isBoundary n (b % 16) p

/-- A polling item enters the call sheet; no queue: dropped (R44). -/
def enqueuePoll (b : Nat) (w : ItemWhat) (from_ upto : Nat) (s : Hub) : Hub :=
  let e := enqueue false { q := 0, kind := .poll, cls := .housekeeping, bay := b, what := w, earliest := from_, latest := upto, order := s.slot } s
  if e.1.isSome then e.2 else countRefused b e.2

/-- The LF telegram. -/
def dueLf (b n : Nat) (s : Hub) : Hub :=
  let p := (s.bay b).poll
  if p.cfg.lfCmd ≠ 0 ∧ !p.lfOpen ∧ fallsDue p.firstLf n b (10 * p.cfg.lfPeriod) then
    enqueuePoll b .lfTelegram n (n + 250) (setPoll b (fun p => { p with firstLf := false }) s)
  else s

/-- The HF ping or reader poll; a poll that falls due in a listen gap runs at its end (R224). -/
def dueHf (b n : Nat) (s : Hub) : Hub :=
  let p := (s.bay b).poll
  let cont := decide (p.cfg.hfMode = .continuousField)
  let d := 10 * (if cont then p.cfg.hfPollPeriod else p.cfg.hfPingPeriod)
  if !p.hfOpen ∧ fallsDue p.firstHf n b d then
    let s := setPoll b (fun p => { p with firstHf := false }) s
    if cont then
      let from_ := match (s.bay b).hf.gapTo with
        | some t => max n (s.slot + (t - s.now) / us 100 + 1)
        | none => n
      enqueuePoll b .hfPoll from_ (from_ + 100) s
    else enqueuePoll b .hfPing n (n + 100) s
  else s

/-- The free-standing listen window. -/
def dueListen (b n : Nat) (s : Hub) : Hub :=
  let p := (s.bay b).poll
  if p.cfg.listenPeriod ≠ 0 ∧ 0 < turnsOf s.pwr.profile ∧ fallsDue p.firstListen n b (10 * p.cfg.listenPeriod) then
    enqueuePoll b .listenFree n (n + 250) (setPoll b (fun p => { p with firstListen := false }) s)
  else s

/-- Polling of a bay for slot `n`. -/
def duePolls (n b : Nat) (s : Hub) : Hub :=
  let x := s.bay b
  if x.st = .watch ∧ isUp s b ∧ (s.region (regionOf b)).st = .active ∧ x.radio.test = none then dueListen b n (dueHf b n (dueLf b n s)) else s

/-! ## The ends of WATCH (R199, R201, R203 to R205) -/

/-- A bay in WATCH may leave it: no dialogue, its region ACTIVE. -/
def watchIdle (s : Hub) (b : Nat) : Bool :=
  decide ((s.bay b).st = .watch) && (s.bay b).dialogues.isEmpty && decide ((s.region (regionOf b)).st = .active)

/-- Polling ends, the chain goes to SLEEP and the UHF receiver off; the link follows to DROWSE (R201). -/
def leaveWatch (b : Nat) (next : BayState) (s : Hub) : Hub :=
  let s := endPolling b s
  cueNow b 0x21 0 .radio (cueNow b 0x11 0 .radio (s.setBay b (fun x => { x with st := next })))

/-- WATCH_HOLD_EXPIRY (R203): under CAPACITIVE. -/
def execWatchHoldExpiry (b : Nat) : State → Turn := onHub fun s =>
  atBay b s (fun s =>
    let x := s.bay b
    if watchIdle s b && decide (effectivePolicy x = .capacitive) && s.passed x.poll.holdFrom (sec x.poll.cfg.watchHold) then leaveWatch b .idle s else s)

/-- DARK_ENTRY (R199, R201): under CONTINUOUS. -/
def execDarkEntry (b : Nat) : State → Turn := onHub fun s =>
  atBay b s (fun s =>
    let x := s.bay b
    let w := x.poll.cfg.darkWeeks
    if watchIdle s b && decide (effectivePolicy x = .continuous) && decide (0 < w) && decide (x.poll.darkFrom + w * 604800 ≤ (s.aon.rtc : Int)) then
      countPoll b (fun c => { c with darkEntry := satAdd c.darkEntry 1 }) (leaveWatch b .dark s)
    else s)

end Sys2Proof.Machine
end

