-- ==== Sys2Proof/Machine/Reader.lean ====
section
/-! DEFINITION. The HF reader (R212 to R222, R833): reader polls, activation, the tap of a class C token, host card exchanges (R544), waiting
times and writes. -/

namespace Sys2Proof.Machine

/-- Code and status of an outcome (R218). -/
def ReaderOutcome.code : ReaderOutcome → Nat
  | .cardOk => 0 | .noCard => 1 | .cardTimeout => 2 | .cardProtocol => 3 | .marginLow => 4 | .coilOpen => 5 | .notIsodep => 6
  | .writeUnknown => 7 | .fieldBusy => 8

def ReaderOutcome.status : ReaderOutcome → Status
  | .cardOk => .ok | .noCard => .wrongState | .cardTimeout => .wrongState | .cardProtocol => .internal | .marginLow => .busy
  | .coilOpen => .wrongState | .notIsodep => .wrongState | .writeUnknown => .internal | .fieldBusy => .busy

/-! ## The end of a transaction -/

/-- After detuning, reader polling goes on for 100 ms; a card that answered ends it, and if none did the baselines take the ping's values
(R187). -/
def afterPoll (b : Nat) (answered : Bool) (s : Hub) : Hub :=
  match (s.bay b).poll.detuneTo with
  | none => s
  | some (t, amp, ph) =>
    if answered then setPoll b (fun p => { p with detuneTo := none }) s
    else if s.now < t then enqueuePoll b .hfPoll (firstOpenSlot s (regionOf b)) (firstOpenSlot s (regionOf b) + 100) s
    else
      countPoll b (fun c => { c with hfFalseWake := satAdd c.hfFalseWake 1 })
        (setPoll b (fun p => { p with detuneTo := none, baseline := some (amp, ph) }) s)

/-- The result of a host exchange (R544). -/
def exchangeResult (s : Hub) (b : Nat) (o : ReaderOutcome) (resp : List Byte) : List Fld :=
  let d := resp.take (resp.length - 2)
  [⟨8, 1, o.code⟩, ⟨9, 1, match (s.bay b).hf.card with
     | some c => b2n c.typeB
     | none => 0xFF⟩,
   ⟨10, 2, beNat (resp.drop (resp.length - 2))⟩, ⟨12, 2, d.length⟩, ⟨14, 1, ((s.bay b).hf.card.map (·.rstr)).getD 0⟩, bytesFld 16 (d.take 32)]

/-- Does the card stay selected after an outcome? -/
def ReaderOutcome.keepsCard : ReaderOutcome → Bool
  | .cardOk => true | .marginLow => true
  | .noCard => false | .cardTimeout => false | .cardProtocol => false | .coilOpen => false | .notIsodep => false | .writeUnknown => false
  | .fieldBusy => true

/-- A reader transaction ends: counted, its item leaves, a host command completes, and the coil takes its role again. -/
def endTxn (b : Nat) (o : ReaderOutcome) (resp : List Byte) (st : Status) (s : Hub) : Hub :=
  match (s.bay b).hf.txn with
  | none => s
  | some t =>
    let data := resp.take (resp.length - 2)
    let res := exchangeResult s b o resp
    let s := countTxn b o s
    let s := if t.deselect && decide (o = .cardOk) then setHf b (fun h => { h with card := none }) (sendToCard b sDeselect s) else s
    let s := if o.keepsCard && t.ref.isSome then s else setHf b (fun h => { h with card := none }) s
    let s := dropItem (regionOf b) t.q (setHf b (fun h => { h with txn := none }) s)
    let s := match t.ref with
      | some c => finish c st res (if 32 < data.length ∧ data.length ≤ t.room then data else []) s
      | none => s
    settleRole b (if t.ref = none ∧ t.kind ≤ 1 then afterPoll b (decide (o ≠ .noCard)) s else s)

/-- A reader transaction that ends from outside the protocol: a pass is over; a write that may have been sent is WRITE_UNKNOWN (R222), anything else
CARD_PROTOCOL, the outcome that reports INTERNAL (R218; log entry 169). -/
def failTxn (b : Nat) (st : Status) (s : Hub) : Hub :=
  match (s.bay b).hf.txn with
  | none => s
  | some t =>
    if t.kind = 2 then endPassTxn b .cardProtocol s
    else endTxn b (if t.kind = 3 ∧ t.write then .writeUnknown else .cardProtocol) [] st s

/-! ## Activation (R212, R215) -/

/-- The waiting time of a command of ISO/IEC 14443-3, and of RATS, PPS and ATTRIB. -/
def activationWait : Nat := ms 1
def startWait : Nat := us 4834

/-- WUPA and REQA, of seven bits, and WUPB with N = 1. -/
def wupa : List Byte := [0x52]
def reqa : List Byte := [0x26]
def wupb : List Byte := [0x05, 0x00, 0x08]

/-- HLTA, and HLTB for a PUPI. -/
def hlta : List Byte := [0x50, 0x00]
def hltb (pupi : List Byte) : List Byte := 0x50 :: pupi

/-- SEL of a cascade level. -/
def selCode (level : Nat) : List Byte := toLe 1 (0x93 + 2 * level)

/-- RATS for frames of 256 bytes with no CID (R212). -/
def rats : List Byte := [0xE0, 0x80]

/-- PPS to one bit rate in both directions. -/
def pps (rate : Nat) : List Byte := [0xD0, 0x11] ++ toLe 1 (5 * rate)

/-- ATTRIB to a PUPI: one bit rate in both directions, frames of 256 bytes, ISO-DEP, no CID. -/
def attrib (pupi : List Byte) (rate : Nat) : List Byte := 0x1D :: (pupi ++ [0x00] ++ toLe 1 (0x50 * rate + 8) ++ [0x01, 0x00])

/-- Bits of a row in the order sent, and bytes of such bits. -/
def rowBits (l : List Byte) : List Bool := l.flatMap (fun x => (List.range 8).map (fun i => x.toNat.testBit i))

def packBits (l : List Bool) : List Byte :=
  (List.range ((l.length + 7) / 8)).map (fun i => BitVec.ofNat 8 (flags ((l.drop (8 * i)).take 8)))

/-- ANTICOLLISION of a level with the bits settled so far. -/
def anticollision (level : Nat) (known : List Bool) : List Byte :=
  selCode level ++ toLe 1 (0x20 + 16 * (known.length / 8) + known.length % 8) ++ packBits known

/-- Whether a command goes to cards of Type B, and whether it carries check bytes. -/
def ActStep.typeB : ActStep → Bool
  | .wupb => true | .attrib => true | .hltb => true
  | .wupa => false | .anti => false | .select => false | .hlta => false | .reqa => false | .rewup => false | .rats => false | .pps => false

def ActStep.crc : ActStep → Bool
  | .wupa => false | .anti => false | .reqa => false | .rewup => false
  | .select => true | .hlta => true | .rats => true | .pps => true | .wupb => true | .attrib => true | .hltb => true

def ActStep.wait : ActStep → Nat
  | .rats => startWait | .pps => startWait | .attrib => startWait
  | .wupa => activationWait | .anti => activationWait | .select => activationWait | .hlta => activationWait | .reqa => activationWait
  | .rewup => activationWait | .wupb => activationWait | .hltb => activationWait

/-- A command of an activation leaves, at 106 kbit/s. -/
def resendAct (b : Nat) (s : Hub) : Hub :=
  match (s.bay b).hf.txn with
  | none => s
  | some t =>
    sendHfAs b t.step.typeB 0 (if t.step.crc then withCrc t.step.typeB t.out else t.out) (modTxn b (fun t => { t with deadline := s.now + t.step.wait }) s)

def sendAct (b : Nat) (st : ActStep) (l : List Byte) (s : Hub) : Hub :=
  resendAct b (modTxn b (fun t => { t with step := st, out := l, retries := 0 }) s)

/-- An activation begins (R215): WUPA first. -/
def startActivation (b : Nat) (t : ReaderTxn) (s : Hub) : Hub :=
  sendAct b .wupa wupa (setHf b (fun h =>
    { h with card := none
             txn := some { t with kind := 0, first := none, known := [], levels := [], clash := false, found := [], target := none
                                  limit := s.now + sec 1 } }) s)

/-! ## Host exchanges and writes (R220, R544) -/

/-- A write waits for a response no more than 5 ms old, and is not begun below FIELD_MARGIN (R220). -/
def beginExchange (b : Nat) (s : Hub) : Hub :=
  match (s.bay b).hf.txn, (s.bay b).hf.card with
  | some t, some c =>
    if !t.write then sendApdu b 3 t.apdu s
    else if s.now ≤ c.lastResp + ms 5 then
      (if c.rstr < (s.bay b).hf.fieldMargin then endTxn b .marginLow [] .busy s else sendApdu b 3 t.apdu s)
    else
      runFwt b (sendToCard b (rNak c.bn) (modTxn b (fun t => { t with kind := 4, out := rNak c.bn, retries := 0, limit := s.now + sec 1 }) s))
  | _, _ => s

/-- The AID of the class C application, and its SELECT. -/
def selectAid : List Byte := [0x00, 0xA4, 0x04, 0x00, 0x06, 0xF0, 0x45, 0x4E, 0x56, 0x43, 0x01]

/-! ## Starting an item on the HF coil -/

/-- A granted reader poll starts (R211, R215, R833). -/
def startPoll (b q : Nat) (s : Hub) : Hub :=
  let x := s.bay b
  if x.poll.hfOpen then setPoll b (fun p => { p with detuneTo := none }) (dropItem (regionOf b) q s)
  else if x.hf.extField || x.hf.owned then afterPoll b false (countSkipped b (dropItem (regionOf b) q s))
  else if !(limits s).coil true x.poll.cfg.hfField then afterPoll b false (dropItem (regionOf b) q (regRefused b s))
  else startActivation b { kind := 0, q := q, deadline := 0, limit := 0 } (setRole b false s)

/-- A granted host exchange starts (R544). -/
def startExchange (b q : Nat) (s : Hub) : Hub :=
  let x := s.bay b
  match x.hf.waiting.find? (fun t => t.q == q) with
  | none => dropItem (regionOf b) q s
  | some t =>
    let s := setHf b (fun h => { h with waiting := h.waiting.filter (fun t => t.q != q) }) s
    let put := fun (s : Hub) => setHf b (fun h => { h with txn := some t }) s
    if x.poll.hfOpen then endTxn b .coilOpen [] .wrongState (put s)
    else if x.hf.extField || x.hf.owned then endTxn b .fieldBusy [] .busy (put s)
    else if !(limits s).coil true x.poll.cfg.hfField then endTxn b .noCard [] .regLimit (regRefused b (put s))
    else if t.kind = 0 ∨ x.hf.card = none then startActivation b t (setRole b false s)
    else beginExchange b (put (setRole b false s))

/-- A host exchange that will not run: its LATEST has passed (BUSY), or its region discards it. -/
def exchangeLate (b q : Nat) (s : Hub) (st : Status := .busy) : Hub :=
  match (s.bay b).hf.waiting.find? (fun t => t.q == q) with
  | none => dropItem (regionOf b) q s
  | some t =>
    let s := setHf b (fun h => { h with waiting := h.waiting.filter (fun t => t.q != q) }) (dropItem (regionOf b) q s)
    let o := if st = .busy then ReaderOutcome.fieldBusy else .noCard
    finishOpt t.ref st (exchangeResult s b o []) (countTxn b o s)

/-! ## What the cards answer -/

/-- Order of two byte strings as sent. -/
def bytesBefore : List Byte → List Byte → Bool
  | [], _ => true
  | _, [] => false
  | x :: r, y :: t => decide (x.toNat < y.toNat) || (decide (x = y) && bytesBefore r t)

/-- UID of a card from the rows of its levels: four bytes of the last, three of each before it, whose first byte is the cascade tag. -/
def levelsUid : List (List Byte) → List Byte
  | [] => []
  | [x] => x.take 4
  | x :: r => (x.drop 1).take 3 ++ levelsUid r

/-- The card with the lowest UID at the first cascade level that differs (R215). -/
def lowestCard (l : List (List (List Byte))) : Option (List (List Byte)) :=
  l.foldl (fun best c =>
    match best with
    | none => some c
    | some d => if bytesBefore d.flatten c.flatten then some d else some c) none

/-- BCC of a row. -/
def rowOk (l : List Byte) : Bool := decide (l.length = 5) && byteAt l 4 == (l.take 4).foldl (· ^^^ ·) 0

/-- The bits on which rows agree before the first that differs. -/
def commonBits : List Bool → List Bool → List Bool
  | x :: r, y :: t => if x = y then x :: commonBits r t else []
  | _, _ => []

/-- The highest bit rate in common, one for both directions (R213): offered in bits 2 to 0 and 6 to 4 of the card's bit rate byte. -/
def rateOf (s : Hub) (b offer : Nat) : Nat :=
  let top := min (s.bay b).hf.rateMax (if (s.bay b).sl.upFmt = 2 then 1 else 3)
  let ok := fun r => decide (r ≤ top) && bit offer (r - 1) && bit offer (r + 3)
  if ok 3 then 3 else if ok 2 then 2 else if ok 1 then 1 else 0

/-- Frame size of an FSCI, and FWT in µs of an FWI: 4,096/fc × 2^FWI, rounded up. -/
def frameSize (i : Nat) : Nat := ([16, 24, 32, 40, 48, 64, 96, 128][i]?).getD 256
def fwtUs (fwi : Nat) : Nat := (4096 * 2 ^ fwi * 100 + 1355) / 1356

/-- What an ATS gives, its absent bytes by default: FSCI, bit rates and FWI. -/
def readAts (l : List Byte) : Option (Nat × Nat × Nat) :=
  let t0 := fld l 1 1
  let ta := b2n (bit t0 4)
  let tb := b2n (bit t0 5)
  if l.length ≠ fld l 0 1 then none
  else if l.length = 1 then some (2, 0, 4)
  else if l.length < 2 + ta + tb + b2n (bit t0 6) then none
  else some (t0 % 16, if bit t0 4 then fld l 2 1 else 0, if bit t0 5 then fld l (2 + ta) 1 / 16 else 4)

/-- What an answer to WUPB gives: bit rates, FSCI, whether it has ISO-DEP, FWI. -/
def readAtqb (l : List Byte) : Option (Nat × Nat × Bool × Nat) :=
  if 12 ≤ l.length ∧ byteAt l 0 = 0x50 then some (fld l 9 1, fld l 10 1 / 16, bit (fld l 10 1) 0, fld l 11 1 / 16) else none

/-- PUPI of an answer to WUPB. -/
def pupiOf (l : List Byte) : List Byte := (l.drop 1).take 4

/-- An activated card is served (R215, R216, R544): a poll selects the class C application, a host exchange runs. -/
def serveCard (b : Nat) (s : Hub) : Hub :=
  match (s.bay b).hf.txn with
  | none => s
  | some t => if t.ref.isSome then beginExchange b s else sendApdu b 1 selectAid s

/-- A response with a right check shows that the transaction's card answers, with its strength (R199, R219). -/
def noteResponse (b mag : Nat) (s : Hub) : Hub :=
  let s := modTxn b (fun t => { t with first := some (t.first.getD s.now) }) s
  modCard b (fun c => { c with rstr := rstrOf (hfDecThr s b) mag, lastResp := s.now }) s

/-- The card of an activation is known from its ATS or its answer to WUPB. -/
def holdCard (b : Nat) (typeB : Bool) (uid : List Byte) (fsci fwi mag : Nat) (s : Hub) : Hub :=
  match (s.bay b).hf.txn with
  | none => s
  | some t =>
    detect b (setHf b (fun h =>
      { h with card := some { typeB := typeB, uid := uid, fwt := fwtUs fwi, rstr := rstrOf (hfDecThr s b) mag, first := t.first.getD s.now, lastResp := s.now
                              host := t.ref.isSome, fsc := frameSize fsci } }) s)

/-- The bit rate of the selected card is in use, and the receive filter follows it (R207). -/
def useRate (b rate : Nat) (s : Hub) : Hub := cueNow b 0x51 rate .field (modCard b (fun c => { c with rate := rate }) s)

/-- A card without ISO-DEP is halted and counted, and the poll ends (R215, R833). -/
def haltCard (b : Nat) (st : ActStep) (l : List Byte) (s : Hub) : Hub := endTxn b .notIsodep [] .wrongState (detect b (sendAct b st l s))

/-- SELECT of the next level of a card: its row is known, or anticollision is run. -/
def nextLevel (b : Nat) (s : Hub) : Hub :=
  match (s.bay b).hf.txn with
  | none => s
  | some t =>
    let n := t.levels.length
    match t.target.bind (fun l => l[n]?) with
    | some row => sendAct b .select (selCode n ++ [0x70] ++ row) s
    | none => sendAct b .anti (anticollision n []) (modTxn b (fun t => { t with known := [] }) s)

/-- A response of an activation is malformed or fails its check: the command is sent again, twice at most (R214). -/
def corruptAct (b : Nat) (s : Hub) : Hub :=
  match (s.bay b).hf.txn with
  | none => s
  | some t =>
    if t.retries < 2 then resendAct b (modTxn b (fun t => { t with retries := t.retries + 1 }) s)
    else endTxn b .cardProtocol [] .internal s

/-- The rows that answer ANTICOLLISION: one card is selected; of several, those whose first bit in dispute is 0 go on. -/
def takeRows (b : Nat) (l : List (List Byte)) (s : Hub) : Hub :=
  match (s.bay b).hf.txn with
  | none => s
  | some t =>
    let n := t.levels.length
    match l.filter (fun r => decide (r.length = 5) && decide ((rowBits r).take t.known.length = t.known)) with
    | [] => corruptAct b s
    | x :: r =>
      if r.all (· == x) then
        (if rowOk x then sendAct b .select (selCode n ++ [0x70] ++ x) s else corruptAct b s)
      else
        let k := r.foldl (fun k y => commonBits k (rowBits y)) (rowBits x) ++ [false]
        sendAct b .anti (anticollision n k) (modTxn b (fun t => { t with known := k, clash := true }) s)

/-- SAK (R215): the UID goes on at the next level, or is complete: one of several cards is halted, the card to be served starts ISO-DEP or is
halted. -/
def takeSak (b sak : Nat) (s : Hub) : Hub :=
  match (s.bay b).hf.txn with
  | none => s
  | some t =>
    let levels := t.levels ++ [(t.out.drop 2).take 5]
    let s := modTxn b (fun t => { t with levels := levels }) s
    if bit sak 2 then (if levels.length < 3 then nextLevel b s else endTxn b .cardProtocol [] .internal s)
    else if t.clash && t.target.isNone then
      sendAct b .hlta hlta (modTxn b (fun t => { t with found := t.found ++ [levels], levels := [] }) s)
    else if bit sak 5 then sendAct b .rats rats s
    else haltCard b .hlta hlta s

/-- The answer to WUPB: where a Type A card is served the card is halted; otherwise it starts ISO-DEP or is halted (R215). -/
def takeAtqb (b mag : Nat) (l : List Byte) (s : Hub) : Hub :=
  match readAtqb l with
  | none => if (s.bay b).hf.card.isSome then serveCard b s else corruptAct b s
  | some (offer, fsci, dep, fwi) =>
    if (s.bay b).hf.card.isSome then sendAct b .hltb (hltb (pupiOf l)) s
    else if !dep then haltCard b .hltb (hltb (pupiOf l)) s
    else if 14 < fwi then endTxn b .cardProtocol [] .internal s
    else
      sendAct b .attrib (attrib (pupiOf l) (rateOf s b offer))
        (modTxn b (fun t => { t with atqb := l }) (holdCard b true (pupiOf l) fsci fwi mag s))

/-- An ATS: the card's frame size, waiting time and bit rates; PPS where a higher bit rate is in common. -/
def takeAts (b mag : Nat) (l : List Byte) (s : Hub) : Hub :=
  match (s.bay b).hf.txn, readAts l with
  | some t, some (fsci, offer, fwi) =>
    if 14 < fwi then endTxn b .cardProtocol [] .internal s
    else
      let rate := rateOf s b offer
      let s := holdCard b false (levelsUid t.levels) fsci fwi mag s
      if rate = 0 then sendAct b .wupb wupb (useRate b 0 s) else sendAct b .pps (pps rate) s
  | _, _ => corruptAct b s

/-- What answers the command of an activation that is out. -/
def actResponse (b : Nat) (l : List (List Byte)) (mag : Nat) (s : Hub) : Hub :=
  match (s.bay b).hf.txn with
  | none => s
  | some t =>
    let checked := (oneFrame l).bind (stripCrc t.step.typeB)
    let note := noteResponse b mag
    match t.step, checked with
    | .wupa, _ => nextLevel b (note s)
    | .reqa, _ => nextLevel b s
    | .rewup, _ => nextLevel b s
    | .anti, _ => takeRows b l s
    | .select, some [x] => takeSak b x.toNat (note s)
    | .rats, some d => takeAts b mag d (note s)
    | .pps, some [x] => if x = 0xD0 then sendAct b .wupb wupb (useRate b (fld t.out 2 1 / 5) (note s)) else corruptAct b s
    | .wupb, some d => takeAtqb b mag d (if (s.bay b).hf.card.isSome then s else note s)
    | .wupb, none => if (s.bay b).hf.card.isSome then serveCard b s else corruptAct b s
    | .attrib, some _ => serveCard b (useRate b (rateOf s b (((readAtqb t.atqb).map (·.1)).getD 0)) (note s))
    | .hltb, _ => serveCard b s
    | .hlta, _ => s
    | _, _ => corruptAct b s

/-- No answer to the command of an activation in its time (R215): WUPB after WUPA; the next of several cards; the card to be served once no other
answers. -/
def actExpiry (b : Nat) (s : Hub) : Hub :=
  match (s.bay b).hf.txn with
  | none => s
  | some t =>
    match t.step with
    | .wupa => sendAct b .wupb wupb s
    | .hlta => sendAct b .reqa reqa s
    | .reqa => sendAct b .rewup wupa (modTxn b (fun t => { t with target := lowestCard t.found, levels := [] }) s)
    | .wupb => if (s.bay b).hf.card.isSome then serveCard b s else endTxn b .noCard [] .wrongState s
    | .hltb => serveCard b s
    | .anti | .select | .rewup | .rats | .pps | .attrib =>
      if t.retries < 2 then resendAct b (modTxn b (fun t => { t with retries := t.retries + 1 }) s)
      else endTxn b .cardTimeout [] .wrongState s

/-! ## Taps and blocks -/

/-- The tap of a class C token (R216, R217): the poll ends, and the token is engaged. -/
def tap (b : Nat) (c : CardSel) (s : Hub) : Hub :=
  let probe := if (s.bay b).poll.detuneTo.isSome then 2 else 1
  let s := setPoll b (fun p => { p with detuneTo := none }) s
  let s := match (s.bay b).hf.txn with
    | some t => dropItem (regionOf b) t.q (countTxn b .cardOk (setHf b (fun h => { h with txn := none }) s))
    | none => s
  let e := engage b .c probe 0 [⟨19, 1, c.uid.length⟩, ⟨33, 1, c.rstr⟩, bytesFld 36 c.uid] s
  if e.1 then planAuth1 b .c (modDlg b .c (fun d => { d with rstr := c.rstr, tapAt := c.first }) e.2)
  else settleRole b (setHf b (fun h => { h with card := none }) (sendToCard b sDeselect e.2))

/-- The response to an APDU is whole. -/
def cardResponse (b : Nat) (l : List Byte) (s : Hub) : Hub :=
  match (s.bay b).hf.txn, (s.bay b).hf.card with
  | some t, some c =>
    (match t.kind with
     | 1 =>
       if l.drop (l.length - 2) = [0x90, 0x00] then tap b c s
       else endTxn b .cardOk l .ok (sendToCard b sDeselect s)
     | 2 => cardReply b l s
     | 3 => endTxn b .cardOk l .ok s
     | _ => s)
  | _, _ => s

/-- A response breaks the rules of the protocol (R218): a class C authentication ends CARD_ERROR (R404). -/
def protocolBroken (b : Nat) (s : Hub) : Hub :=
  match (s.bay b).hf.txn with
  | none => s
  | some t =>
    if t.kind = 2 then endAuth b .c .cardError {} true (dropAuthItem b .c (modAuth b .c (fun a => { a with window := 0 }) (endPassTxn b .cardProtocol s)))
    else endTxn b .cardProtocol [] .internal s

/-- The R-block that asks for a response again: R(ACK) where the card is chaining, otherwise R(NAK) (R214). -/
def askAgain (b : Nat) (s : Hub) : Hub :=
  match (s.bay b).hf.txn, (s.bay b).hf.card with
  | some t, some c =>
    runFwt b (sendToCard b (if t.chain then rAck c.bn else rNak c.bn) (modTxn b (fun t => { t with retries := t.retries + 1 }) s))
  | _, _ => s

/-- A block that is malformed or fails its check: asked for again, twice at most (R214). -/
def corruptBlock (b : Nat) (s : Hub) : Hub :=
  match (s.bay b).hf.txn with
  | none => s
  | some t => if t.retries < 2 ∧ s.now < t.limit then askAgain b s else protocolBroken b s

/-- An I-block of the card: the last of a response, or acknowledged and the next awaited. -/
def takeIBlock (b pcb : Nat) (inf : List Byte) (s : Hub) : Hub :=
  match (s.bay b).hf.txn, (s.bay b).hf.card with
  | some t, some c =>
    if t.rest ≠ [] ∨ t.kind = 4 then protocolBroken b s
    else if pcb % 2 ≠ c.bn then corruptBlock b s
    else
      let s := modCard b (fun c => { c with bn := 1 - c.bn }) s
      if bit pcb 4 then
        runFwt b (sendToCard b (rAck (1 - c.bn)) (modTxn b (fun t => { t with got := t.got ++ inf, chain := true, retries := 0 }) s))
      else cardResponse b (t.got ++ inf) s
  | _, _ => s

/-- R(ACK) of the card: it is present, or takes the next block of a chain, or has not had the last. -/
def takeRAck (b pcb : Nat) (s : Hub) : Hub :=
  match (s.bay b).hf.txn, (s.bay b).hf.card with
  | some t, some c =>
    if t.kind = 4 then beginExchange b s
    else if pcb % 2 = c.bn then
      (if t.rest = [] then protocolBroken b s else sendIBlock b (modCard b (fun c => { c with bn := 1 - c.bn }) s))
    else if t.retries < 2 then runFwt b (sendToCard b t.out (modTxn b (fun t => { t with retries := t.retries + 1 }) s))
    else protocolBroken b s
  | _, _ => s

/-- S(WTX) (R214): answered, and the waiting time runs again, up to 1 s for one exchange. -/
def takeWtx (b m : Nat) (s : Hub) : Hub :=
  if m % 64 = 0 ∨ 59 < m % 64 then protocolBroken b s
  else
    let s := sendToCard b (0xF2 :: toLe 1 (m % 64)) s
    modTxn b (fun t => { t with deadline := min t.limit (s.now + (m % 64) * us (((s.bay b).hf.card.map (·.fwt)).getD 0)) }) s

/-- A block of the selected card (ISO/IEC 14443-4): frames longer than 256 bytes, a CID or a NAD break the rules (R212). -/
def takeBlock (b : Nat) (l : List Byte) (s : Hub) : Hub :=
  match l with
  | [] => corruptBlock b s
  | p :: inf =>
    if 254 < l.length then protocolBroken b s
    else if p = 0x02 ∨ p = 0x03 ∨ p = 0x12 ∨ p = 0x13 then takeIBlock b p.toNat inf s
    else if (p = 0xA2 ∨ p = 0xA3) ∧ inf = [] then takeRAck b p.toNat s
    else if p = 0xF2 ∧ inf.length = 1 then takeWtx b (fld inf 0 1) s
    else protocolBroken b s

/-- What the reader decodes at a bay. -/
def cardFrame (b : Nat) (f : CardFrame) (s : Hub) : Hub :=
  match (s.bay b).hf.txn with
  | none => s
  | some t =>
    match f with
    | .frames l mag =>
      if t.kind = 0 then (if l = [] then s else actResponse b l mag s)
      else
        (match (oneFrame l).bind (stripCrc (((s.bay b).hf.card.map (·.typeB)).getD false)) with
         | some d => takeBlock b d (noteResponse b mag s)
         | none => if l = [] then s else corruptBlock b s)
    | .bad => if t.kind = 0 then actResponse b [] 0 s else corruptBlock b s

/-- FRAME_WAITING_TIME_EXPIRY (R214, R215, R222): the next command of an activation; two retransmissions of a block, then the transaction ends. -/
def execFrameWaitingTimeExpiry (b : Nat) : State → Turn := onHub fun s =>
  atBay b s (fun s =>
    match (s.bay b).hf.txn with
    | none => s
    | some t =>
      if s.now < t.deadline ∧ (t.kind = 0 ∨ s.now < t.limit) then s
      else if t.kind = 0 then actExpiry b s
      else if t.retries < 2 ∧ s.now < t.limit then askAgain b s
      else if t.kind = 2 then passUnanswered 3 b .c (endPassTxn b .cardTimeout s)
      else if t.kind = 3 ∧ t.write then endTxn b .writeUnknown [] .internal s
      else endTxn b .cardTimeout [] .wrongState s)

/-! ## CARD_EXCHANGE (R544) -/

/-- Class C authentication runs at a bay. -/
def authRuns (s : Hub) (b : Nat) : Bool := ((s.bay b).dlgC.map (fun d => d.auth.phase != .done)).getD false

def cardExchange (q : Req) (c : CmdRef) (s : Hub) : Reply × Hub :=
  let b := fld q.payload 0 2
  let fl := fld q.payload 2 1
  let n := fld q.payload 3 1
  let apdu := if n = 0 then q.data else (q.payload.drop 4).take n
  let x := s.bay b
  if q.len ≠ 4 + n ∨ (n = 0 ∧ (q.data.length < 1 ∨ 4096 < q.data.length)) then fail .badLength s
  else if 7 < fl then fail .badParam s
  else if !bayPlans s b then fail .wrongState s
  else if authRuns s b then (.async .busy (exchangeResult s b .fieldBusy []) [], countTxn b .fieldBusy s)
  else if x.poll.hfOpen then (.async .wrongState (exchangeResult s b .coilOpen []) [], countTxn b .coilOpen s)
  else if x.hf.extField || x.hf.owned then (.async .busy (exchangeResult s b .fieldBusy []) [], countTxn b .fieldBusy s)
  else
    let e := enqueue false
      { q := 0, kind := .discovery, cls := .auth, bay := b, what := .hfPoll, earliest := s.slot, latest := s.slot + 10000, tclass := 1
        hostTag := q.tag, ref := some c, order := s.slot } s
    match e.1 with
    | none => fail .noResource e.2
    | some k =>
      (.later, setHf b (fun h =>
        { h with waiting := h.waiting ++ [{ kind := if bit fl 2 then 0 else 3, q := k, write := bit fl 0, deselect := bit fl 1, apdu := apdu
                                            deadline := 0, limit := 0, ref := some c, room := q.room }] }) e.2)

/-- The command table's row of CARD_EXCHANGE. -/
def specCardExchange : Spec :=
  { op := 0x0108, lc := lcFCF, len := fun n => decide (4 ≤ n) && decide (n ≤ 48), target := bayAt0
    states := fun _ _ x => x.st == .watch || x.st == .engaged || x.st == .charging || x.st == .wrapping }

def execCardExchange (q : Req) : State → Turn := onHub fun s =>
  .next (hostCommand specCardExchange cardExchange q s)

end Sys2Proof.Machine
end

