-- ==== Sys2Proof/Machine/Tag.lean ====
section
/-! DEFINITION. The emulated bay tag (R223 to R243): when it listens, identity and activation, its APDUs, the password and AES paths, field and
wire side, the image and its commits, and BAY_TAG (R545). -/

namespace Sys2Proof.Machine

/-! ## The image (R228 to R230, R240 to R242) -/

/-- The capability container (R229). -/
def capabilityContainer : List Byte :=
  [0x00, 0x17, 0x20, 0x00, 0xF6, 0x00, 0xF6, 0x04, 0x06, 0xE1, 0x04, 0x01, 0xC0, 0x00, 0xFF, 0x05, 0x06, 0xE1, 0x05, 0x01, 0x80, 0x80, 0x80]

/-- FLAGS of the control block. -/
def TagImage.flagBits (m : TagImage) : Nat := flags [m.enable, m.pwSet, m.aesSet, m.pwDisabled]

/-- The control block's fields. -/
def TagImage.control (m : TagImage) : List Fld :=
  [⟨0x380, 1, m.flagBits⟩, ⟨0x388, 8, m.failBase⟩, ⟨0x390, 8, m.seq⟩, ⟨0x398, 8, m.lastWrite⟩, ⟨0x3A0, 1, m.lastSide⟩]

/-- Byte `i` of the image. -/
def TagImage.byte (m : TagImage) (i : Nat) : Byte :=
  if i < 0x40 then byteAt capabilityContainer i
  else if i < 0x380 then Tab.get 0 m.data i
  else layByte m.control i

def TagImage.bytes (m : TagImage) (o n : Nat) : List Byte := (List.range n).map (fun i => m.byte (o + i))

/-- Bytes written at an offset. -/
def TagImage.write (m : TagImage) (o : Nat) (l : List Byte) : TagImage :=
  { m with data := (l.zipIdx).foldl (fun t p => Tab.put 0 (o + p.2) p.1 t) m.data }

/-- A slot of the image in flash: its 1,024 bytes and the trailer of bay, 0xFF, IMAGE_SEQ and CRC-32 (R241). -/
def tagSlotBytes (b : Nat) (m : TagImage) : List Byte :=
  let l := m.bytes 0 1024 ++ bayByte b ++ List.replicate 19 0xFF ++ toLe 8 m.seq
  l ++ toLe 4 (crc32 l)

def tagSlotValid (b : Nat) (l : List Byte) : Bool :=
  l.length == 1056 && fld l 1024 1 == b && fld l 1052 4 == crc32 (l.take 1052)

/-- IMAGE_SEQ of a slot. -/
def tagSlotSeq (l : List Byte) : Nat := fld l 1044 8

/-- The image that a slot holds. -/
def imageOf (l : List Byte) : TagImage :=
  let fl := fld l 0x380 1
  { data := (List.range 0x340).foldl (fun t i => Tab.put 0 (0x40 + i) (byteAt l (0x40 + i)) t) []
    enable := bit fl 0, pwSet := bit fl 1, aesSet := bit fl 2, pwDisabled := bit fl 3
    failBase := fld l 0x388 8, seq := fld l 0x390 8, lastWrite := fld l 0x398 8, lastSide := fld l 0x3A0 1 }

def Hub.tagSlots (s : Hub) (b : Nat) : TagSlots := Tab.get {} s.nv.tags b

/-- The image used from power-up: that of the valid slot with the higher IMAGE_SEQ (R241). -/
def storedImage (s : Hub) (b : Nat) : Option TagImage :=
  let t := s.tagSlots b
  match tagSlotValid b t.s0, tagSlotValid b t.s1 with
  | false, false => none
  | true, false => some (imageOf t.s0)
  | false, true => some (imageOf t.s1)
  | true, true => some (imageOf (if tagSlotSeq t.s0 < tagSlotSeq t.s1 then t.s1 else t.s0))

/-- The slot that a write programs: the one that holds no valid image, or the lower IMAGE_SEQ (R241). -/
def tagWriteSlot (s : Hub) (b : Nat) : Nat :=
  let t := s.tagSlots b
  if !tagSlotValid b t.s0 then 0 else if !tagSlotValid b t.s1 then 1 else if tagSlotSeq t.s0 < tagSlotSeq t.s1 then 0 else 1

/-- An image is programmed, and the other slot is due for its background erase. -/
def programImage (b : Nat) (m : TagImage) (s : Hub) : Hub :=
  let n := tagWriteSlot s b
  let t := s.tagSlots b
  let new := if n = 0 then { t with s0 := tagSlotBytes b m } else { t with s1 := tagSlotBytes b m }
  let s := s.program (flashTags + 8192 * b + 4096 * n) (tagSlotBytes b m)
  (s.setNv (fun v => { v with tags := Tab.put {} b new v.tags })).setEng (fun e =>
    { e with tagErase := e.tagErase.filter (· != (b, n)) ++ (if (if n = 0 then t.s1 else t.s0) = [] then [] else [(b, 1 - n)]) })

/-- A whole new image is committed (R240, R242): whether it was admitted. `side` is 0 wire, 1 field. -/
def commitImage (b side : Nat) (m : TagImage) (s : Hub) : Bool × Hub :=
  let m := { m with seq := m.seq + 1, lastWrite := s.ticks, lastSide := side }
  match pageBurst 5 s with
  | (.done _, s) => (true, setHf b (fun h => { h with img := m }) (programImage b m s))
  | (_, s) => (false, countTag b (fun c => { c with tagCommitFail := satAdd c.tagCommitFail 1 }) s)

def Hub.img (s : Hub) (b : Nat) : TagImage := (s.bay b).hf.img

/-! ## Keys of the tag (R231, R739) -/

def tagKey (s : Hub) (b : Nat) : VKey := vaultKey s 0x06 b
def tagPassword (s : Hub) (b : Nat) : VKey := vaultKey s 0x07 b
def tagFail (s : Hub) (b : Nat) : Nat := cellVal s (cellTagFail b)

/-- A record of the vault is replaced (R740): its block's spare sector is erased, and a burst of 13 page programs writes the block. -/
def vaultCommit (n : Nat) (k : VKey) (s : Hub) : Commit × Hub :=
  match pageBurst 13 (vaultErase (vaultBlock n) s) with
  | (.done q, s) => (.done q, vaultProgram (vaultBlock n) (s.setNv (fun v => { v with vault := Tab.put {} n k v.vault })))
  | x => x

/-! ## Listening (R223, R226, R227) -/

/-- The tag answers (R223). -/
def tagListens (s : Hub) (b : Nat) : Bool :=
  let x := s.bay b
  x.hf.img.enable && (x.st == .watch || x.st == .engaged || x.st == .charging || x.st == .wrapping) &&
    decide ((s.region (regionOf b)).st = .active) && !x.poll.hfOpen && s.rng.available && x.hf.listen && x.hf.extField && x.hf.uid.isSome && !readerBusy s b

/-- The tag's UID as sent: 0x08, then the three bytes drawn at field entry (R226). -/
def tagUid (s : Hub) (b : Nat) : List Byte := 0x08 :: toLe 3 ((s.bay b).hf.uid.getD 0)

/-- A draw for the tag waits for the reseed that is due (R728): a challenge, otherwise a UID. -/
def tagDrawWaits (b : Nat) (challenge : Bool) (s : Hub) : Hub := if s.rng.serves then drawLater (.tag b challenge) s else s

/-- The external field enters: a fresh UID is drawn. -/
def fieldEnters (b : Nat) (s : Hub) : Hub :=
  let s := setHf b (fun h => { h with extField := true, belowSince := none, halted := false }) s
  match drawRandom 3 s with
  | some (v, s) => setHf b (fun h => { h with uid := some v }) s
  | none => tagDrawWaits b false s

/-- HF_CUR of a slate in CARD_LISTEN (R209): the field is present at or above EXT_FIELD_ON. -/
def externalField (b cur : Nat) (s : Hub) : Hub :=
  let h := (s.bay b).hf
  if !h.listen then s
  else if extFieldOn s b ≤ cur then (if h.extField then setHf b (fun h => { h with belowSince := none }) s else fieldEnters b s)
  else if h.extField ∧ h.belowSince = none then setHf b (fun h => { h with belowSince := some s.now }) s
  else s

/-- The tag returns to OPEN and leaves its protocol (R234). -/
def tagReset (h : Hf) : Hf := { h with secured := false, active := false, appSel := false, file := none, challenge := none, blk := {} }

/-- EXTERNAL_FIELD_LOST (R209, R234, R238): HF_CUR below the threshold for 100 µs. -/
def execExternalFieldLost (b : Nat) : State → Turn := onHub fun s =>
  atBay b s (fun s =>
    match (s.bay b).hf.belowSince with
    | none => s
    | some t =>
      if (s.bay b).hf.extField && s.passed t (us 100) then
        setHf b (fun h => { tagReset h with extField := false, belowSince := none, halted := false, uid := none
                                            ownEnd := if h.owned then some (s.now + ms 5) else none }) s
      else s)

/-- TAG_LISTEN_GAP (R224): under CONTINUOUS_FIELD with TAG_ENABLE, 40 ms in every 400 ms. -/
def execTagListenGap (b : Nat) : State → Turn := onHub fun s =>
  atBay b s (fun s =>
    let x := s.bay b
    if x.st = .watch ∧ x.poll.cfg.hfMode = .continuousField ∧ x.hf.img.enable ∧ x.hf.gapTo = none ∧ !readerBusy s b ∧
        s.passed x.hf.gapLast (ms 400) ∧ isUp s b then
      setRole b true (setHf b (fun h => { h with gapTo := some (s.now + ms 40), gapLast := s.now }) s)
    else s)

/-- TAG_REQA (R226, R227): REQA or WUPA, answered by a tag that is not active; REQA not in HALT. -/
def execTagReqa (b : Nat) (wupa : Bool) : State → Turn := onHub fun s =>
  atBay b s (fun s =>
    let h := (s.bay b).hf
    if tagListens s b && !h.active && (wupa || !h.halted) then sendHf b [0x04, 0x00] s else s)

/-- The coil's item while the field side owns the tag (R49, R225). -/
def holdCoil (b : Nat) (s : Hub) : Option Hub :=
  if (s.bayItems b).any (fun i => i.what = .tagTxn) then some s
  else
    let e := enqueue false
      { q := 0, kind := .tag, cls := .auth, bay := b, what := .tagTxn, earliest := s.slot, latest := s.slot + 10, tclass := 1, order := s.slot
        granted := true, start := s.slot } s
    if e.1.isSome then some e.2 else none

/-- TAG_ANTICOLLISION_SELECT (R227, R234, R238): SELECT of the tag's UID. -/
def execTagAnticollisionSelect (b : Nat) (uid : List Byte) : State → Turn := onHub fun s =>
  atBay b s (fun s =>
    let h := (s.bay b).hf
    if tagListens s b && !h.active && decide (uid = tagUid s b) then
      match holdCoil b s with
      | none => countRefused b s
      | some s =>
        setHf b (fun h => { tagReset h with active := true, halted := false, owned := true, ownEnd := none
                                            cnt := { h.cnt with tagSelects := satAdd h.cnt.tagSelects 1 } })
          (sendHf b (withCrc false [0x20]) s)
    else s)

/-! ## Wire writes (R237, R239, R545) -/

/-- The result of a BAY_TAG command. -/
def tagResult (s : Hub) (b : Nat) : List Fld :=
  let h := (s.bay b).hf
  [⟨8, 8, h.img.seq⟩, ⟨16, 1, h.img.flagBits⟩, ⟨17, 1, b2n h.owned⟩]

/-- A new password goes into the vault, unless none is asked for. -/
def installPassword (b pw : Nat) (want : Bool) (s : Hub) : Bool × Hub :=
  if !want then (true, s)
  else
    match vaultCommit (vaultNo 0x07 b) { val := pw, version := (tagPassword s b).version + 1, present := true } s with
    | (.done _, s) => (true, s)
    | (_, s) => (false, s)

/-- A wire write is committed: its status. -/
def wireCommit (b : Nat) (w : WireWrite) (s : Hub) : Status × Hub :=
  let m := s.img b
  let done := fun (x : Bool × Hub) => (if x.1 then Status.ok else .holdupLow, x.2)
  if w.op = 2 then done (commitImage b 0 (m.write (64 * w.first) w.data) s)
  else if w.op = 3 then
    let x := installPassword b w.password (bit w.arg 0) s
    if x.1 then done (commitImage b 0 { m with failBase := tagFail x.2 b, pwDisabled := false, pwSet := m.pwSet || bit w.arg 0 } x.2)
    else (.holdupLow, x.2)
  else done (commitImage b 0 { m with enable := bit w.arg 0 } s)

/-- Queued writes are committed in order. -/
def wireDrain (b : Nat) (s : Hub) : Hub :=
  let l := (s.bay b).hf.wire
  l.foldl (fun s w => let x := wireCommit b w s; finish w.ref x.1 (tagResult x.2 b) [] x.2) (setHf b (fun h => { h with wire := [] }) s)

/-- The field side's ownership ends (R238, R239): the coil is free, and queued writes are committed. -/
def endOwnership (b : Nat) (s : Hub) : Hub :=
  let s := ((s.bayItems b).filter (fun i => decide (i.what = .tagTxn))).foldl (fun s i => dropItem (regionOf b) i.q s) s
  wireDrain b (setHf b (fun h => { h with owned := false, ownEnd := none }) s)

/-- TAG_DESELECT (R234, R238): S(DESELECT) or HLTA. -/
def execTagDeselect (b : Nat) (hlta : Bool) : State → Turn := onHub fun s =>
  atBay b s (fun s =>
    if !(s.bay b).hf.active || !tagListens s b then s
    else
      let s := if hlta then s else sendHf b (withCrc false sDeselect) s
      endOwnership b (setHf b (fun h => { tagReset h with halted := true }) s))

/-- TAG_OWNERSHIP_END (R238): 5 ms after the field is lost. -/
def execTagOwnershipEnd (b : Nat) : State → Turn := onHub fun s =>
  atBay b s (fun s =>
    match (s.bay b).hf.ownEnd with
    | some t => if (s.bay b).hf.owned && decide (t ≤ s.now) then endOwnership b s else s
    | none => s)

def countWireBusy (b : Nat) (s : Hub) : Hub := countTag b (fun c => { c with tagWireBusy := satAdd c.tagWireBusy 1 }) s

/-- TAG_WIRE_WRITE_TIMEOUT (R239): a write still queued 250 ms after it was received. -/
def execTagWireWriteTimeout (b : Nat) : State → Turn := onHub fun s =>
  atBay b s (fun s =>
    let old := fun (w : WireWrite) => s.passed w.received (ms 250)
    let l := (s.bay b).hf.wire
    let s := setHf b (fun h => { h with wire := h.wire.filter (fun w => !old w) }) s
    (l.filter old).foldl (fun s w => finish w.ref .busy (tagResult s b) [] (countWireBusy b s)) s)

/-- A BAY_TAG write: at once, or queued while the field side owns the tag (R239). -/
def wireWrite (b : Nat) (w : WireWrite) (s : Hub) : Reply × Hub :=
  if !(s.bay b).hf.owned then
    let x := wireCommit b w s
    (.done x.1 (tagResult x.2 b) [], x.2)
  else if 4 ≤ (s.bay b).hf.wire.length then (.done .busy (tagResult s b) [], countWireBusy b s)
  else (.later, setHf b (fun h => { h with wire := h.wire ++ [w] }) s)

/-- A write taken from a BAY_TAG entry. -/
def wireOf (q : Req) (c : CmdRef) (s : Hub) : WireWrite :=
  { received := s.now, op := fld q.payload 2 1, first := fld q.payload 3 1, data := q.data, arg := fld q.payload 3 1, password := fld q.payload 8 4, ref := c }

/-- The rows of BAY_TAG by OP; the READ row answers an OP that does not exist. -/
def tagSpec (op : Nat) : Spec :=
  { op := 0x0109, act := decide (op ≠ 1), lc := lcFCF, len := len 12, target := bayAt0, quar := true, reserved := [5, 6, 7]
    mine := fun q => decide (fld q.payload 2 1 = op) || (decide (op = 1) && (decide (fld q.payload 2 1 = 0) || decide (4 < fld q.payload 2 1))) }

/-- BAY_TAG READ: blocks of the last committed image. -/
def bayTagRead (q : Req) (_ : CmdRef) (s : Hub) : Reply × Hub :=
  let b := fld q.payload 0 2
  let first := fld q.payload 3 1
  let count := fld q.payload 4 1
  if fld q.payload 2 1 ≠ 1 then fail .badParam s
  else if 16 < first + count then fail .badParam s
  else if q.room < 64 * count then fail .badLength s
  else (.done .ok (tagResult s b) ((s.img b).bytes (64 * first) (64 * count)), s)

/-- The command table's row of BAY_TAG_READ. -/
def specBayTagRead : Spec := tagSpec 1

def execBayTagRead (q : Req) : State → Turn := onHub fun s => .next (hostCommand specBayTagRead bayTagRead q s)

/-- BAY_TAG WRITE: within blocks 1 to 13, exactly 64 bytes for each. -/
def bayTagWrite (q : Req) (c : CmdRef) (s : Hub) : Reply × Hub :=
  let first := fld q.payload 3 1
  let count := fld q.payload 4 1
  if first < 1 ∨ 14 < first + count then fail .badParam s
  else if q.data.length ≠ 64 * count then fail .badLength s
  else wireWrite (fld q.payload 0 2) (wireOf q c s) s

/-- The command table's row of BAY_TAG_WRITE. -/
def specBayTagWrite : Spec := tagSpec 2

def execBayTagWrite (q : Req) : State → Turn := onHub fun s => .next (hostCommand specBayTagWrite bayTagWrite q s)

/-- BAY_TAG REARM (R237). -/
def bayTagRearm (q : Req) (c : CmdRef) (s : Hub) : Reply × Hub :=
  if 1 < fld q.payload 3 1 then fail .badParam s else wireWrite (fld q.payload 0 2) (wireOf q c s) s

/-- The command table's row of BAY_TAG_REARM. -/
def specBayTagRearm : Spec := tagSpec 3

def execBayTagRearm (q : Req) : State → Turn := onHub fun s => .next (hostCommand specBayTagRearm bayTagRearm q s)

/-- BAY_TAG ENABLE. -/
def bayTagEnable (q : Req) (c : CmdRef) (s : Hub) : Reply × Hub :=
  if 1 < fld q.payload 3 1 then fail .badParam s else wireWrite (fld q.payload 0 2) (wireOf q c s) s

/-- The command table's row of BAY_TAG_ENABLE. -/
def specBayTagEnable : Spec := tagSpec 4

def execBayTagEnable (q : Req) : State → Turn := onHub fun s => .next (hostCommand specBayTagEnable bayTagEnable q s)

/-! ## APDUs on the field side (R232 to R236) -/

/-- The next I-block of an answer goes out, chained where the reader's frame size asks for it (R226). -/
def tagBlock (b : Nat) (s : Hub) : Hub :=
  let k := (s.bay b).hf.blk
  let n := k.fsd - 3
  let blk := toLe 1 (0x02 + k.bn + (if n < k.rest.length then 0x10 else 0)) ++ k.rest.take n
  sendHf b (withCrc false blk) (setHf b (fun h => { h with blk := { k with rest := k.rest.drop n, out := blk } }) s)

/-- The tag answers with data and a status word. -/
def tagAnswers (b sw : Nat) (data : List Byte) (s : Hub) : Hub :=
  tagBlock b (setHf b (fun h => { h with blk := { h.blk with rest := data ++ (toLe 2 sw).reverse } }) s)

/-- The instructions of R232. -/
def tagIns : List Nat := [0xA4, 0xB0, 0xD6, 0x20, 0x84, 0x82]

/-- An APDU whose last I-block holds `part`: after the chained blocks received before it. -/
def wholeApdu (s : Hub) (b : Nat) (part : List Byte) : List Byte := (s.bay b).hf.blk.got ++ part

/-- An APDU reaches the tag once ISO-DEP is active and while it answers (R223): another CLA gets 6E00, another INS 6D00; an APDU of another row is
that row's. A challenge is good for the very next APDU only. -/
def tagApdu (b ins : Nat) (mine : List Byte → Bool) (apdu : List Byte) (f : Option Nat → Hub → Hub) (s : Hub) : Hub :=
  let h := (s.bay b).hf
  if !h.active || !h.blk.dep || !tagListens s b then s
  else
    let s0 := setHf b (fun h => { h with challenge := none, blk := { h.blk with bn := 1 - h.blk.bn, got := [] } }) s
    if byteAt apdu 0 ≠ 0 then tagAnswers b 0x6E00 [] s0
    else if !tagIns.contains (fld apdu 1 1) then tagAnswers b 0x6D00 [] s0
    else if fld apdu 1 1 ≠ ins ∨ !mine apdu then s
    else f h.challenge s0

def p1p2 (l : List Byte) : Nat := fld l 2 1 * 256 + fld l 3 1

/-- Data of an APDU whose Lc agrees with its length. -/
def apduData (l : List Byte) : Option (List Byte) :=
  if 5 ≤ l.length ∧ l.length = 5 + fld l 4 1 then some (l.drop 5) else none

/-- The NDEF tag application. -/
def ndefAid : List Byte := [0xD2, 0x76, 0x00, 0x00, 0x85, 0x01, 0x01]

/-- TAG_SELECT_BY_NAME. -/
def execTagSelectByName (b : Nat) (part : List Byte) : State → Turn := onHub fun s =>
  let apdu := wholeApdu s b part
  atBay b s (tagApdu b 0xA4 (fun l => decide (fld l 2 1 = 4)) apdu (fun _ s =>
    match apduData apdu with
    | none => tagAnswers b 0x6700 [] s
    | some d =>
      if d = ndefAid ∧ p1p2 apdu = 0x0400 then tagAnswers b 0x9000 [] (setHf b (fun h => { h with appSel := true, file := none }) s)
      else tagAnswers b 0x6A82 [] s))

/-- File of an identifier. -/
def tagFile (d : List Byte) : Option TagFile :=
  if d = [0xE1, 0x03] then some .e103 else if d = [0xE1, 0x04] then some .e104 else if d = [0xE1, 0x05] then some .e105 else none

/-- TAG_SELECT_BY_FILE. -/
def execTagSelectByFile (b : Nat) (part : List Byte) : State → Turn := onHub fun s =>
  let apdu := wholeApdu s b part
  atBay b s (tagApdu b 0xA4 (fun l => decide (fld l 2 1 ≠ 4)) apdu (fun _ s =>
    match apduData apdu with
    | none => tagAnswers b 0x6700 [] s
    | some d =>
      match tagFile d with
      | some f =>
        if (s.bay b).hf.appSel ∧ p1p2 apdu = 0x000C then tagAnswers b 0x9000 [] (setHf b (fun h => { h with file := some f }) s)
        else tagAnswers b 0x6A82 [] s
      | none => tagAnswers b 0x6A82 [] s))

/-- Offset in the image and length of a file (R228). -/
def TagFile.span : TagFile → Nat × Nat
  | .e103 => (0, 23) | .e104 => (0x40, 448) | .e105 => (0x200, 384)

/-- READ BINARY: E105 in SECURED only. -/
def execReadBinary (b : Nat) (part : List Byte) : State → Turn := onHub fun s =>
  let apdu := wholeApdu s b part
  atBay b s (tagApdu b 0xB0 (fun _ => true) apdu (fun _ s =>
    let h := (s.bay b).hf
    match h.file with
    | none => tagAnswers b 0x6986 [] s
    | some f =>
      let o := p1p2 apdu
      let le := fld apdu 4 1
      let sp := f.span
      if f = .e105 ∧ !h.secured then tagAnswers b 0x6982 [] s
      else if sp.2 ≤ o then tagAnswers b 0x6B00 [] s
      else if apdu.length ≠ 5 ∨ le < 1 ∨ 246 < le ∨ sp.2 < o + le then tagAnswers b 0x6700 [] s
      else tagAnswers b 0x9000 (h.img.bytes (sp.1 + o) le) s))

/-- UPDATE BINARY (R239, R240): E105 in SECURED; committed before the tag answers. -/
def execUpdateBinary (b : Nat) (part : List Byte) : State → Turn := onHub fun s =>
  let apdu := wholeApdu s b part
  atBay b s (tagApdu b 0xD6 (fun _ => true) apdu (fun _ s =>
    let h := (s.bay b).hf
    match h.file, apduData apdu with
    | none, _ => tagAnswers b 0x6986 [] s
    | some f, d =>
      let o := p1p2 apdu
      if f ≠ .e105 ∨ !h.secured then tagAnswers b 0x6982 [] s
      else if 384 ≤ o then tagAnswers b 0x6B00 [] s
      else
        match d with
        | none => tagAnswers b 0x6700 [] s
        | some d =>
          if d.length < 1 ∨ 246 < d.length ∨ 384 < o + d.length then tagAnswers b 0x6700 [] s
          else
            let x := commitImage b 1 (h.img.write (0x200 + o) d) s
            tagAnswers b (if x.1 then 0x9000 else 0x6581) [] x.2))

/-- VERIFY after the failure has been counted (R235). -/
def judgePassword (b : Nat) (d : List Byte) (s : Hub) : Hub :=
  let m := s.img b
  let used := tagFail s b - m.failBase
  if leNat d = (tagPassword s b).val then
    let x := commitImage b 1 { m with failBase := tagFail s b } s
    if x.1 then tagAnswers b 0x9000 [] (setHf b (fun h => { h with secured := true }) x.2) else tagAnswers b 0x6581 [] x.2
  else
    let s := countTag b (fun c => { c with tagPwFail := satAdd c.tagPwFail 1 }) s
    let x := 8 - used
    let s := if x = 0 then
        (commitImage b 1 { m with pwDisabled := true } (countTag b (fun c => { c with tagPwLock := satAdd c.tagPwLock 1 }) s)).2
      else s
    tagAnswers b (0x63C0 + x) [] s

/-- VERIFY (R235, R236): the attempt is counted before the password is compared. -/
def execVerify (b : Nat) (part : List Byte) : State → Turn := onHub fun s =>
  let apdu := wholeApdu s b part
  atBay b s (tagApdu b 0x20 (fun _ => true) apdu (fun _ s =>
    let m := s.img b
    if p1p2 apdu ≠ 1 then tagAnswers b 0x6D00 [] s
    else if !m.pwSet || !(tagPassword s b).present || decide (8 ≤ tagFail s b - m.failBase) then tagAnswers b 0x6983 [] s
    else
      match apduData apdu with
      | none => tagAnswers b 0x6700 [] s
      | some d =>
        if d.length ≠ 4 then tagAnswers b 0x6700 [] s
        else
          match cellAdvance (cellTagFail b) (tagFail s b + 1) s with
          | (.done _, s) => judgePassword b d s
          | (_, s) => tagAnswers b 0x6581 [] s))

/-- The answer to GET CHALLENGE. -/
def giveChallenge (b rb : Nat) (s : Hub) : Hub := tagAnswers b 0x9000 (toLe 16 rb) (setHf b (fun h => { h with challenge := some rb }) s)

/-- GET CHALLENGE: RB from the DRBG. -/
def execGetChallenge (b : Nat) (part : List Byte) : State → Turn := onHub fun s =>
  let apdu := wholeApdu s b part
  atBay b s (tagApdu b 0x84 (fun _ => true) apdu (fun _ s =>
    if p1p2 apdu ≠ 0 then tagAnswers b 0x6D00 [] s
    else if apdu.length ≠ 5 ∨ fld apdu 4 1 ≠ 16 then tagAnswers b 0x6700 [] s
    else
      match drawRandom 16 s with
      | none => tagDrawWaits b true s
      | some (rb, s) => giveChallenge b rb s))

/-- A draw of the tag that waited for a reseed runs (R728, R730): for what is still wanted. -/
def serveTagDraw (b : Nat) (challenge : Bool) (s : Hub) : Hub :=
  let h := (s.bay b).hf
  if challenge then
    (if !h.active || !h.blk.dep || !tagListens s b then s
     else
       match drawRandom 16 s with
       | none => s
       | some (rb, s) => giveChallenge b rb s)
  else if h.extField && h.uid.isNone then
    match drawRandom 3 s with
    | none => s
    | some (v, s) => setHf b (fun h => { h with uid := some v }) s
  else s

/-- EXTERNAL AUTHENTICATE (R233). -/
def execExternalAuthenticate (b : Nat) (part : List Byte) : State → Turn := onHub fun s =>
  let apdu := wholeApdu s b part
  atBay b s (tagApdu b 0x82 (fun _ => true) apdu (fun ch s =>
    if p1p2 apdu ≠ 1 then tagAnswers b 0x6D00 [] s
    else if !(s.img b).aesSet || !(tagKey s b).present then tagAnswers b 0x6983 [] s
    else
      match apduData apdu with
      | none => tagAnswers b 0x6700 [] s
      | some d =>
        if d.length ≠ 32 then tagAnswers b 0x6700 [] s
        else
          let k := BitVec.ofNat 128 (tagKey s b).val
          let rf := d.take 16
          let good := match ch with
            | some rb => decide (d.drop 16 = bytes16 (Config.aesCmac k (0x01 :: (toLe 16 rb ++ rf ++ tagUid s b ++ bayByte b))))
            | none => false
          if good then
            let rb := toLe 16 (ch.getD 0)
            tagAnswers b 0x9000 (bytes16 (Config.aesCmac k (0x02 :: (rf ++ rb ++ tagUid s b ++ bayByte b)))) (setHf b (fun h => { h with secured := true }) s)
          else tagAnswers b 0x6300 [] (countTag b (fun c => { c with tagAesFail := satAdd c.tagAesFail 1 }) s)))

/-! ## Frames of the external reader (R226) -/

/-- The ATS of R226. -/
def tagAts : List Byte := [0x05, 0x78, 0x00, 0x70, 0x00]

/-- UID and BCC as the tag sends them. -/
def tagRow (s : Hub) (b : Nat) : List Byte := tagUid s b ++ [(tagUid s b).foldl (· ^^^ ·) 0]

/-- ANTICOLLISION of level 1 with some bits of the UID. -/
def anticollisionMeets (s : Hub) (b : Nat) (l : List Byte) : Bool :=
  let nvb := fld l 1 1
  let n := 8 * (nvb / 16 - 2) + nvb % 16
  decide (byteAt l 0 = 0x93) && decide (0x20 ≤ nvb) && decide (nvb < 0x70) && decide (nvb % 16 < 8) &&
    decide ((rowBits (l.drop 2)).take n = (rowBits (tagRow s b)).take n)

/-- R-block of the reader: the last block again, the next of a chain, or an acknowledgement (ISO/IEC 14443-4). -/
def tagRBlock (b p : Nat) (s : Hub) : Hub :=
  let k := (s.bay b).hf.blk
  if p % 2 = k.bn then (if k.out = [] then s else sendHf b (withCrc false k.out) s)
  else if bit p 4 then sendHf b (withCrc false (rAck k.bn)) s
  else if k.rest = [] then s
  else tagBlock b (setHf b (fun h => { h with blk := { k with bn := 1 - k.bn } }) s)

/-- A frame of the active tag: RATS; PPS is ignored; a chained I-block is acknowledged; R-blocks. The last I-block of an APDU is its own row. -/
def tagActiveFrame (b : Nat) (l : List Byte) (s : Hub) : Hub :=
  let h := (s.bay b).hf
  let p := byteAt l 0
  if !h.blk.dep then
    (if p = 0xE0 ∧ l.length = 2 then
       sendHf b (withCrc false tagAts) (setHf b (fun h => { h with blk := { dep := true, fsd := frameSize (fld l 1 1 / 16) } }) s)
     else s)
  else if p = 0x12 ∨ p = 0x13 then
    sendHf b (withCrc false (rAck (1 - h.blk.bn)))
      (setHf b (fun h => { h with blk := { h.blk with bn := 1 - h.blk.bn, got := h.blk.got ++ l.drop 1, out := rAck (1 - h.blk.bn) } }) s)
  else if p = 0xA2 ∨ p = 0xA3 ∨ p = 0xB2 ∨ p = 0xB3 then tagRBlock b p.toNat s
  else s

/-- What the tag decodes at a bay in CARD_LISTEN, beside the frames that are rows of their own (REQA, WUPA, SELECT, the APDUs, S(DESELECT), HLTA). -/
def tagFrame (b : Nat) (f : CardFrame) (s : Hub) : Hub :=
  if !tagListens s b then s
  else
    match f with
    | .bad => s
    | .frames fs _ =>
      match oneFrame fs with
      | none => s
      | some l =>
        if (s.bay b).hf.active then
          (match stripCrc false l with
           | some d => tagActiveFrame b d s
           | none => s)
        else if anticollisionMeets s b l then sendHf b (tagRow s b) s else s

end Sys2Proof.Machine
end

