-- ==== Sys2Proof/Machine/Draw.lean ====
section
/-! DEFINITION. Generate requests of the bays that waited for a reseed (R728 to R730, R735): DRBG_RESEED serves them in the order of R730, each
taken up where it had stopped. -/

namespace Sys2Proof.Machine

/-- Rank of a bay's request (R730). -/
def RngDraw.rank : RngDraw → Nat
  | .challenge .. => 0 | .auth .. => 1 | .tag .. => 2 | .nonce _ => 3

/-- An exchange that has neither its challenge nor an outcome. -/
def rapidUnplanned (s : Hub) (b : Nat) : Bool :=
  match (s.bay b).rapid with
  | some x => x.outcome.isNone && !x.started && (s.bayItems b).all (fun i => decide (i.what ≠ .rapid))
  | none => false

/-- An authentication that has not sent its AUTH1. -/
def authUnplanned (s : Hub) (b : Nat) (k : TokenClass) : Bool :=
  match (s.bay b).dlg k with
  | some d => d.auth.phase == .auth1 && decide (d.auth.window = 0) && (s.bayItems b).all (fun i => !(i.what == .authPass && i.tclass == classNo k))
  | none => false

/-- A request that waited is made again; what it was for may have ended meanwhile. -/
def serveDraw (d : RngDraw) (s : Hub) : Hub :=
  match d with
  | .challenge b from_ again => if rapidUnplanned s b then planRapid b (max from_ s.slot) again s else s
  | .auth b k => if authUnplanned s b k then planAuth1 b k s else s
  | .tag b c => serveTagDraw b c s
  | .nonce b => resumeMeter b s

/-- The waiting requests are served in the order of R730, the bays' and then the host's; none is while the reseed they wait for is still due. -/
def serveDraws (s : Hub) : Hub :=
  if s.rng.serves ∧ s.rng.reqLeft = 0 then s
  else
    let l := s.rng.drawQueue
    let w := s.rng.waiting
    let s := s.setRng (fun g => { g with drawQueue := [], waiting := [] })
    let s := (List.range 4).foldl (fun s n => (l.filter (fun d => d.rank == n)).foldl (fun s d => serveDraw d s) s) s
    w.foldl (fun s w => serveWait w s) s

/-- DRBG_RESEED (R728, R730): a request is due for a reseed and two pool blocks are there; requests that waited then run. -/
def execDrbgReseed : State → Turn := onHub fun s =>
  .next (
    if s.rng.available && decide (s.rng.reqLeft = 0) && decide (2 ≤ s.rng.pool.length) then serveDraws (s.setRng Rng.reseed) else s)

end Sys2Proof.Machine
end

