-- ==== Sys2Proof/Machine/Echo.lean ====
section
/-! DEFINITION. How the step an item is in fails (R94, R96, R121, R133, R192), what an echo means for its step, the RADIO field of a slate (R133),
and emitter cuts (R48, R55, R71, R102). -/

namespace Sys2Proof.Machine

/-! ## Steps that fail -/

/-- The class of a pass. -/
def passClass (i : Item) : TokenClass := if i.tclass = 1 then .c else .v

/-- A transaction of an item that stops short: a host's waits again, a poll's is forgotten. -/
def shelveTxn (q : Nat) (h : Hf) : Hf :=
  match h.txn with
  | none => h
  | some t =>
    if t.q ≠ q then h
    else if t.ref.isSome then { h with txn := none, waiting := { t with kind := if h.card.isSome then 3 else 0 } :: h.waiting }
    else { h with txn := none, card := none }

/-- An item that was granted waits again, and what it has under way at its bay is undone (R55, R96, R121). -/
def waitAgain (i : Item) (s : Hub) : Hub :=
  let b := i.bay
  let s := ungrant (regionOf b) i.q (unstage b i.q s)
  match i.what with
  | .take => modTake b (fun t => { t with stage := .planned }) s
  | .authPass =>
    let s := modAuth b (passClass i) (fun a => { a with window := 0, resent := a.resent || a.window != 0 }) s
    if i.tclass = 1 then setHf b (fun h => { h with txn := none }) s else s
  | .hfPoll => setHf b (shelveTxn i.q) s
  | .lfTelegram => s | .hfPing => s | .listenFree => s | .listenLinked _ => s | .calibrate => s | .measure _ => s | .listen _ _ => s
  | .rapid => s | .meterReq => s | .tagTxn => s

/-- The step an item is in fails with a status: one that ended INTERNAL is dispatched again while its LATEST lies ahead (R96, R121), except a
write to a card (R222). -/
def stepFailed (st : Status) (i : Item) (s : Hub) : Hub :=
  let b := i.bay
  let r := regionOf b
  let wrote := (s.bay b).hf.txn.any (fun t => decide (t.q = i.q ∧ t.kind = 3) && t.write)
  let again := decide (st = .internal) && decide (firstOpenSlot s r ≤ i.latest)
  let back := fun (s : Hub) => modItem r i.q (fun i => { i with outcome := st.code }) (waitAgain i s)
  match i.what with
  | .take =>
    if decide (st ≠ .internal) && ((s.bay b).take.map (fun t => t.stage == .granted || t.stage == .announced)).getD false then failTake b .notRun st s
    else invalidateTake b s
  | .rapid => if st = .internal then invalidateRapid b s else endRapid b .notRun st s
  | .listen _ _ => sendStandby b (declineItem i s)
  | .authPass => if again then back s else markOutcome b .authPass st (passUnanswered 3 b (passClass i) s)
  | .hfPoll =>
    if again && !wrote then back s
    else if (s.bay b).hf.txn.any (fun t => decide (t.q = i.q)) then failTxn b st s else afterPoll b false (dropItem r i.q s)
  | .measure _ => if again then back s else endMeasure b st 0x8000 0x8000 s
  | .lfTelegram => if again then back s else dropItem r i.q s
  | .hfPing => if again then back s else dropItem r i.q s
  | .listenFree => if again then back s else dropItem r i.q s
  | .listenLinked _ => if again then back s else dropItem r i.q s
  | .tagTxn => endOwnership b (setHf b tagReset s)
  | .calibrate => s | .meterReq => s

/-- An item that runs as a step of a dialogue. -/
def Item.isStep (i : Item) : Bool :=
  i.granted && i.step != 0 &&
  (match i.what with
   | .calibrate => false | .measure _ => false | .meterReq => false | .tagTxn => false
   | .take => true | .rapid => true | .listen _ _ => true | .authPass => true | .hfPoll => true | .lfTelegram => true | .hfPing => true
   | .listenFree => true | .listenLinked _ => true)

/-- Steps of a bay that meet a condition fail. -/
def failSteps (b : Nat) (st : Status) (f : Item → Bool) (s : Hub) : Hub :=
  ((s.bayItems b).filter f).foldl (fun s i => match s.item (regionOf b) i.q with
    | some j => if f j then stepFailed st j s else s
    | none => s) s

/-- Every dialogue step in progress at a bay ends INTERNAL (R96, R133). -/
def stepsInternal (b : Nat) (s : Hub) : Hub := failSteps b .internal Item.isStep s

/-! ## The RADIO field of a slate (R133) -/

/-- A UWB test runs: the chain does what its cue says, and its RADIO is taken as reported (log entry 168). -/
def uwbTest (x : Radio) : Bool := x.test.any (fun t => t.started.isSome && decide (t.opc ≤ 0x61))

/-- A RADIO field that differs from the copy (R133). -/
def radioDiffers (b : Nat) (n : RadioState) (s : Hub) : Hub :=
  let x := (s.bay b).radio
  let came := if n = .rx then (s.bay b).sl.rep.time else x.rxAt
  if uwbTest x then setRadio b (fun r => { r with copy := n, mismatchRun := 0, rxAt := came }) s
  else if x.itself ((s.bay b).sl.outstanding.any (fun c => c.opc == 0x16)) n then
    let s := if x.copy = .settle ∧ n = .standby then lockFailed b s
             else if x.copy = .settle then setRadio b (fun r => { r with lockFailRun := 0 }) s else s
    setRadio b (fun r => { r with copy := n, mismatchRun := 0, rxAt := came }) s
  else if s.now < x.graceTo then s
  else if x.mismatchRun + 1 < 16 then setRadio b (fun r => { r with mismatchRun := r.mismatchRun + 1 }) s
  else
    let s := countRadio b (fun c => { c with mismatch := satAdd c.mismatch 1 }) s
    let s := setRadio b (fun r => { r with mismatchRun := 0, copy := .standby, graceTo := s.now + us 1100 }) s
    stepsInternal b (sendStandby b s)

/-- The RADIO field of a good slate. -/
def radioReport (b : Nat) (n : RadioState) (s : Hub) : Hub :=
  if n = (s.bay b).radio.copy then setRadio b (fun r => { r with mismatchRun := 0 }) s else radioDiffers b n s

/-! ## Echoes (R94, R96) -/

/-- The end of a UWB_TX: `e` is what was running (R140, R288, R314). -/
def burstEcho (b : Nat) (c : Cue) (result arg : Nat) (s : Hub) : Hub :=
  match (s.bay b).radio.running with
  | none => s
  | some u =>
    if u.first ≠ c.exec then s
    else
      let s := setRadio b (fun r => { r with running := none }) s
      let st := echoStatus result
      let s := countStatus b st s
      match result, u.kind with
      | 0, _ => if arg / 2 ^ 24 = 0 then s else countRadio b (fun k => { k with txLateStart := satAdd k.txLateStart 1 }) s
      | 6, _ => burstStopped b u s
      | 1, .challenge i => if i = 0 then endRapid b .notRun .txLate s else invalidateRapid b s
      | 1, _ => burstRefused b u st s
      | 2, _ => burstRefused b u st s
      | 3, _ => burstRefused b u st s
      | _, _ => failSteps b .internal (fun i => i.isStep && decide (i.q = u.q)) s

/-- HF_ROLE has taken effect; the head tells whether an external field was present then (R207). -/
def roleTaken (b : Nat) (ext : Bool) (s : Hub) : Hub :=
  if ext && !(s.bay b).hf.extField then fieldEnters b s else s

/-- A cue has ended with an echo (or is taken as never received, 7, or unknown, 8): its step goes on or ends (R94, R96). A cue that no item's step
issued ends every step that may rest on it where it ended INTERNAL. -/
def cueEnded (b : Nat) (c : Cue) (result arg : Nat) (s : Hub) : Hub :=
  let st := echoStatus result
  match c.why with
  | .burst => burstEcho b c result arg s
  | .calibrate =>
    calEnded b (result == 0 && !bit arg 0) (result == 0 && bit arg 0)
      (countStatus b st s)
  | .test => endTest b st result (countStatus b st s)
  | .testEnd =>
    (match (s.bay b).radio.test with
     | some t =>
       setRadio b (fun r => { r with test := r.test.map (fun t => { t with endRef := none }) })
         (finishOpt t.endRef st [] s)
     | none => s)
  | .field =>
    if st = .ok then (if c.opc = 0x50 then roleTaken b (bit arg 0) s else s)
    else if result = 6 then s
    else failSteps b st (fun i => i.isStep && ((i.holds s.slot).lf || (i.holds s.slot).hf)) (countStatus b st s)
  | .measure => if st = .ok then s else failSteps b st (fun i => i.granted && decide (i.what = .measure false ∨ i.what = .measure true)) (countStatus b st s)
  | .radio =>
    if st = .ok ∨ result = 6 then s
    else
      match c.q with
      | some q => failSteps b st (fun i => i.granted && decide (i.q = q)) (countStatus b st s)
      | none => if st = .internal then stepsInternal b s else countStatus b st s

/-! ## Emitter cuts (R48, R55, R71, R102) -/

/-- An item whose LATEST is past as it is pre-empted ends as R54 lays down. -/
def preemptLate (i : Item) (s : Hub) : Hub :=
  let b := i.bay
  match i.what with
  | .take => failTake b .notRun .txLate s
  | .rapid => endRapid b .notRun .txLate s
  | .listen _ _ => declineItem i s
  | .authPass => markOutcome b .authPass .txLate (passUnanswered 3 b (passClass i) s)
  | .calibrate => skipCal i s
  | .measure _ => endMeasure b .txLate 0x8000 0x8000 s
  | .hfPoll => if i.isHk then skipItem i (setHf b (shelveTxn i.q) s) else exchangeLate b i.q (setHf b (shelveTxn i.q) s)
  | .lfTelegram => skipItem i s | .hfPing => skipItem i s | .listenFree => skipItem i s | .listenLinked _ => skipItem i s
  | .tagTxn => endOwnership b (setHf b tagReset s)
  | .meterReq => s

/-- A burst of an item has begun and has slates still to come. -/
def burstCut (s : Hub) (b q : Nat) : Bool :=
  (s.bay b).radio.running.any (fun u => decide (u.q = q) && decide ((s.bay b).sl.dnTime < u.first / slateTicks * slateTicks + (u.slates - 1) * slateTicks))

/-- An item that a SAFETY item pre-empts (R55, R288, R314): a take whose burst is cut, and an exchange, ends STOPPED; the rest waits again while its
LATEST lies ahead. An RF_CAL already sent that still
ends with an echo counts as the run (DESIGN CHOICE, log entry 34). -/
def preempt (r q : Nat) (s : Hub) : Hub :=
  match s.item r q with
  | none => s
  | some i =>
    let b := i.bay
    let again := fun (i : Item) => if i.step = 0 then { i with retries := i.retries + 1 } else i
    let back := fun (s : Hub) => waitAgain i (modItem r q again s)
    let late := decide (i.latest < firstOpenSlot s r)
    if i.what = .rapid then endRapid b .stopped .internal s
    else if i.what = .take && burstCut s b q then failTake b .stopped .internal s
    else if late then preemptLate i (unstage b q s)
    else back s

/-- SAFETY_DISPATCH (R48, R55, R71, R102): an emitter cut at a bay. EMIT_STOP goes into every slate from the next one, for 16 slates at least, and
where the stop is held until a dispatch that does not hold it lets it end. -/
def execSafetyDispatch (c : EmitterCut) : State → Turn := onHub fun s =>
  let b := c.bay
  atBay b s (fun s =>
    if (s.region (regionOf b)).st = .off ∨ !s.bayPresent b then s
    else
      let s := setSl b (fun l => { l with emitStop := true, emitLeft := 16, emitHold := c.hold }) s
      let hit := (s.bayItems b).filter (fun i => i.granted && i.needs != {})
      hit.foldl (fun s i => preempt (regionOf b) i.q s) s)

end Sys2Proof.Machine
end

