-- ==== Sys2Proof/Machine/Coil.lean ====
section
/-! DEFINITION. Coil measurements as slates bring them (R174, R186 to R194): AMP and PHASE, detuning, and an open coil. -/

namespace Sys2Proof.Machine

/-- HEAD_FAULT (R124). Before the first slate of a head, TEMP is 0 (DESIGN CHOICE, log entry 52). -/
def headFault (b bits_ : Nat) (s : Hub) : Hub :=
  let x := s.bay b
  notice 0x0202 b [⟨16, 1, bits_⟩, ⟨17, 1, unsigned 8 x.sl.rep.temp⟩, ⟨20, 8, x.link.ident.serial⟩] s

/-- Nominal amplitude at code 255 and nominal phase of a coil (R775, R778). -/
def coilNom (s : Hub) (b : Nat) (hf : Bool) : Nat × Nat :=
  if hf then (calVal s b 16 2 8192, calVal s b 18 2 0) else (calVal s b 12 2 8192, calVal s b 14 2 0)

/-- The code a coil is driven at. -/
def coilCode (s : Hub) (b : Nat) (hf : Bool) : Nat := if hf then (s.bay b).poll.cfg.hfField else (s.bay b).poll.cfg.lfDrive

/-- AMP (R189): 16,384 at the nominal amplitude for the code, saturated; with a nominal amplitude of 0 the manual states none. -/
def coilAmp (s : Hub) (b : Nat) (hf : Bool) (raw : Nat) : Nat × Hub :=
  let d := (coilNom s b hf).1 * coilCode s b hf
  if d = 0 then freeVal 15 s else (min 32767 (openDiv ((raw : Int) * 4177920) d).toNat, s)

/-- PHASE (R189), saturated at ±32,767. -/
def coilPhase (s : Hub) (b : Nat) (hf : Bool) (raw : Nat) : Int :=
  max (-32767) (signed 16 ((raw + 65536 - (coilNom s b hf).2 % 65536) % 65536))

/-! ## An open coil (R191 to R194) -/

/-- The measurement of a coil at a calibration run (R190). -/
def calReading (b : Nat) (hf : Bool) (v : Nat × Nat) (s : Hub) : Hub :=
  setPoll b (fun p => if hf then { p with calHf := some v } else { p with calLf := some v }) s

/-- The item on a coil ends (R192): a measurement with 0x8000 in both values (R542), a transaction with COIL_OPEN (R218), a class C pass with the
result that reports it (R404). -/
def coilStepEnds (hf : Bool) (i : Item) (s : Hub) : Hub :=
  let b := i.bay
  let gone := fun (s : Hub) => dropItem (regionOf b) i.q s
  match i.what with
  | .measure _ => endMeasure b .ok 0x8000 0x8000 s
  | .hfPoll => if (s.bay b).hf.txn.any (fun t => decide (t.q = i.q)) then endTxn b .coilOpen [] .internal s else gone s
  | .authPass => if i.tclass = 1 then endAuth b .c .cardError {} true (endPassTxn b .coilOpen s) else s
  | .tagTxn => endOwnership b (setHf b tagReset s)
  | .lfTelegram => gone s
  | .hfPing => gone s
  | .calibrate => calReading b hf (0x8000, 0x8000) s
  | .listenFree => s | .listenLinked _ => s | .take => s | .listen _ _ => s | .rapid => s | .meterReq => s

/-- A coil is found open. -/
def coilOpen (b : Nat) (hf : Bool) (s : Hub) : Hub :=
  let s := setPoll b (fun p =>
    { p with lfOpen := p.lfOpen || !hf, hfOpen := p.hfOpen || hf, degraded := true, lfLow := 0, hfLow := 0
             cnt := if hf then { p.cnt with coilOpenHf := satAdd p.cnt.coilOpenHf 1 } else { p.cnt with coilOpenLf := satAdd p.cnt.coilOpenLf 1 } }) s
  let on := (s.bayItems b).filter (fun i => i.granted && (if hf then (i.holds s.slot).hf else (i.holds s.slot).lf))
  headFault b (if hf then 64 else 32) (on.foldl (fun s i => coilStepEnds hf i s) s)

/-- One carrier cycle of a driven coil (R191): two in a row below 10 % of nominal. -/
def coilCycle (b : Nat) (hf : Bool) (raw : Nat) (s : Hub) : Hub :=
  let low := decide (10 * 255 * raw < (coilNom s b hf).1 * coilCode s b hf)
  let p := (s.bay b).poll
  let driven := if hf then hfDriven s b s.ticks else (s.bayItems b).any (fun i => i.granted && decide (i.start ≤ s.slot) && (i.holds s.slot).lf)
  if !driven || (if hf then p.hfOpen else p.lfOpen) then s
  else
    let n := if low then (if hf then p.hfLow else p.lfLow) + 1 else 0
    if 2 ≤ n then coilOpen b hf s else setPoll b (fun p => if hf then { p with hfLow := n } else { p with lfLow := n }) s

/-! ## Detuning (R186 to R188) -/

/-- An HF amplitude and phase of a ping, or of 20 µs of a continuous field. -/
def hfReading (b amp : Nat) (ph : Int) (s : Hub) : Hub :=
  let p := (s.bay b).poll
  match p.baseline with
  | none => setPoll b (fun p => { p with baseline := some (amp, ph) }) s
  | some (a, f) =>
    if p.detuneTo.isSome then s
    else if p.cfg.hfDetuneAmp ≤ ((amp : Int) - a).natAbs ∨ p.cfg.hfDetunePhase ≤ (ph - f).natAbs then
      let s := countPoll b (fun c => { c with hfWake := satAdd c.hfWake 1 }) (setPoll b (fun p => { p with detuneTo := some (s.now + ms 100, amp, ph) }) s)
      let n := firstOpenSlot s (regionOf b)
      enqueuePoll b .hfPoll n (n + 100) s
    else
      setPoll b (fun p => { p with baseline := some (((a : Int) + openDiv ((amp : Int) - a) 16).toNat, f + openDiv (ph - f) 16) }) s

/-- A measurement whose last sample lies in this slate goes to what asked for it. -/
def coilSample (b : Nat) (m : CoilMeas) (s : Hub) : Hub :=
  if m.cycle then coilCycle b m.hf m.amp s
  else
    let a := coilAmp s b m.hf m.amp
    let ph := coilPhase s b m.hf m.phase
    let s := a.2
    let runs := fun (f : ItemWhat → Bool) => (s.bayItems b).any (fun i => i.granted && decide (i.start ≤ s.slot) && f i.what)
    if (s.bay b).poll.measure.isSome && runs (fun w => decide (w = .measure m.hf)) then endMeasure b .ok a.1 (unsigned 16 ph) s
    else if runs (fun w => decide (w = .calibrate)) then calReading b m.hf (a.1, unsigned 16 ph) s
    else if m.hf && (s.bay b).st == .watch && (runs (fun w => decide (w = .hfPing)) || continuousOn s b) then hfReading b a.1 ph s
    else s

end Sys2Proof.Machine
end

