-- ==== Sys2Proof/Machine/Link.lean ====
section
/-! DEFINITION. The states of a head port (R113): how a link is lost and what that does to its bay (R203, R618 to R620), training (R114 to
R117), DROWSE (R118, R119, R195 to R197), and the limits that end each state. -/

namespace Sys2Proof.Machine

def countPort (b : Nat) (f : PortCnt → PortCnt) (s : Hub) : Hub := setSl b (fun l => { l with cnt := f l.cnt }) s

/-- NEW and OLD of LINK_STATE (R123). -/
def LinkState.code : LinkState → Nat
  | .down => 0 | .training => 1 | .up => 2 | .drowse => 3 | .fault => 4

/-- REASON of LINK_STATE (R123). -/
def LinkReason.code : LinkReason → Nat
  | .none_ => 0 | .lockLost => 1 | .crcBurst => 2 | .headReported => 3 | .delayRange => 4 | .incompatible => 5 | .duplicate => 6
  | .creditTimeout => 7 | .trainTimeout => 8 | .hostDisable => 9 | .delayChanged => 0xA

/-- LINK_STATE (R123). Before a new IDENT, SERIAL, VENDOR and MODEL are those of the head identified last (DESIGN CHOICE, log entry 107). -/
def linkNotice (b : Nat) (new old : LinkState) (why : LinkReason) (s : Hub) : Hub :=
  let l := (s.bay b).link
  notice 0x0201 b
    [⟨16, 1, new.code⟩, ⟨17, 1, old.code⟩, ⟨18, 1, why.code⟩, ⟨19, 1, b2n l.headChanged⟩, ⟨20, 8, l.ident.serial⟩,
     ⟨28, 4, linkDelay s b⟩, ⟨32, 2, l.ident.vendor⟩, ⟨34, 2, l.ident.model⟩] s

/-- The port enters a state. -/
def enterLink (b : Nat) (n : LinkState) (why : LinkReason) (s : Hub) : Hub :=
  setLink b (fun l => { l with state := n, reason := why, since := s.now, wakeAt := none }) s

/-! ## Losing a link -/

/-- Host exchanges that wait for the coil end. -/
def endWaiting (b : Nat) (st : Status) (s : Hub) : Hub :=
  let l := (s.bay b).hf.waiting
  l.foldl (fun s t => finishOpt t.ref st (exchangeResult s b .cardProtocol []) (countTxn b .cardProtocol s)) (setHf b (fun h => { h with waiting := [], card := none }) s)

/-- What runs or waits at the head ends: listens, measurements, transactions, tests, polling, the radio items (R41, R68, R203). -/
def linkLost (b : Nat) (s : Hub) : Hub :=
  let r := regionOf b
  let s := endWaiting b .internal (failTxn b .internal (endMeasure b .internal 0x8000 0x8000 (declineBay b s)))
  let s := endTest b .internal 0 s
  let s := if (s.bay b).hf.owned then endOwnership b s else s
  let s := ((endPolling b s).bayItems b).foldl (fun s i => if i.needs ≠ {} then dropItem r i.q s else s) (endPolling b s)
  let s := setRadio b (fun x => { channel := x.channel, power := x.power, test := none, cnt := x.cnt, lfLog := x.lfLog, pulseLog := x.pulseLog
                                  frameLog := x.frameLog }) s
  setHf b (fun h => { tagReset h with listen := false, extField := false, belowSince := none, gapTo := none, halted := false, uid := none, sent := none })
    (setSl b (fun l => { cnt := l.cnt, timing := { markNum := l.timing.markNum, markLaunch := l.timing.markLaunch } }) s)

/-- The bay of a link that has gone to FAULT (R203, R618, R619). -/
def bayFaults (b : Nat) (s : Hub) : Hub :=
  let was := (s.bay b).st
  let s := trigger b cBayFault s
  let s := if was = .engaged then endDialogues b .dialogueEnd s else abandonTake b .internal s
  s.setBay b (fun x => { x with st := .fault })

/-- The bay of a link that has gone DOWN (R203): its open dialogues end unless a session rests on them. -/
def bayOffline (b : Nat) (s : Hub) : Hub :=
  let was := (s.bay b).st
  let s := if was = .engaged then endDialogues b .dialogueEnd s else abandonTake b .internal s
  s.setBay b (fun x => { x with st := .offline })

/-- A port goes to FAULT (R113). -/
def toFault (b : Nat) (why : LinkReason) (s : Hub) : Hub :=
  let old := (s.bay b).link.state
  let s := bayFaults b s
  let s := linkNotice b .fault old why s
  enterLink b .fault why (linkLost b s)

/-- A control block goes to the head (R80). -/
def sendBlockTo (b typ payload : Nat) (s : Hub) : Hub := s.emit (.lane b [ctrlBlock typ payload])

/-- A training message goes to the head (R115): its kind in [247:240]. -/
def sendTrain (b kind body : Nat) (s : Hub) : Hub := sendBlockTo b blkTrain (atBit kind 240 + body) s

/-- A port goes DOWN (R113); a link that ran sends LINKDOWN first. -/
def takeDown (b : Nat) (why : LinkReason) (s : Hub) : Hub :=
  let old := (s.bay b).link.state
  match old with
  | .down => s
  | .training => enterLink b .down .none_ (s.setBay b (fun x => { x with st := .offline }))
  | .fault => enterLink b .down .none_ (s.setBay b (fun x => { x with st := .offline }))
  | .up =>
    let s := bayOffline b (sendBlockTo b blkLinkdown (atBit why.code 240) s)
    enterLink b .down why (linkLost b (linkNotice b .down old why s))
  | .drowse =>
    let s := bayOffline b (sendBlockTo b blkLinkdown (atBit why.code 240) s)
    enterLink b .down why (linkLost b (linkNotice b .down old why s))

/-! ## Training (R113 to R117) -/

/-- Upstream format the hub selects: AUX while the FPLL coasts and in PATROL, HALF in LEAN, otherwise FULL (R30, R655). -/
def wantedFmt (s : Hub) : Nat :=
  if s.clk.fpll.coast || s.pwr.profile == patrolProfile then 2 else if s.pwr.profile = leanProfile then 1 else 0

/-- A port may train: enabled, its region powered, the SerDes PLL locked (R113, R655, R668). -/
def mayTrain (s : Hub) (b : Nat) : Bool :=
  (s.bay b).link.enabled && s.bayPresent b && s.fwReady && !s.clk.serdes.coast && decide ((s.region (regionOf b)).st ≠ .off) &&
    decide ((s.region (regionOf b)).power ≠ .s2)

def startTraining (b : Nat) (s : Hub) : Hub :=
  enterLink b .training .none_
    (setLink b (fun l => { l with signal := true, signalLost := none, step := .adapt, cw := {}, eq := {}, limitsCrc := 0 }) s)

/-- SIGNAL_DETECTED (R113, R114). -/
def execSignalDetected (b : Nat) : State → Turn := onHub fun s =>
  atBay b s (fun s =>
    let l := (s.bay b).link
    let s := setLink b (fun l => { l with signal := true, signalLost := none }) s
    if l.state = .down ∧ mayTrain s b ∧ (l.trainFails = 0 ∨ s.passed l.since (ms 100)) then startTraining b s else s)

/-- TRAINING_RETRY (R113): 100 ms after a failed attempt, with the signal still there. -/
def execTrainingRetry (b : Nat) : State → Turn := onHub fun s =>
  atBay b s (fun s =>
    let l := (s.bay b).link
    if l.state = .down ∧ 0 < l.trainFails ∧ l.signal ∧ mayTrain s b ∧ s.passed l.since (ms 100) then startTraining b s else s)

/-- A training attempt fails (R113, R115). -/
def trainFailed (b : Nat) (s : Hub) : Hub :=
  let n := (s.bay b).link.trainFails + 1
  let s := countPort b (fun c => { c with trainFail := satAdd c.trainFail 1 }) s
  if 16 ≤ n then toFault b .trainTimeout (setLink b (fun l => { l with trainFails := 0 }) s)
  else takeDown b .none_ (setLink b (fun l => { l with trainFails := n }) s)

/-- The limit of a training step from t0 (R114). DEDUCED, log entry 166: no command tells that the receivers have adapted, so the step that
ends with codeword lock has the limit of the lock, 31 ms. -/
def TrainStep.limit : TrainStep → Nat
  | .adapt => ms 31 | .equalise => ms 31 | .hello => ms 33 | .limits => ms 38 | .go => ms 40 | .echoes => ms 60

/-- TRAINING_TIMEOUT (R113, R114). -/
def execTrainingTimeout (b : Nat) : State → Turn := onHub fun s =>
  atBay b s (fun s =>
    let l := (s.bay b).link
    if l.state = .training ∧ s.passed l.since l.step.limit then trainFailed b s else s)

def toStep (b : Nat) (n : TrainStep) (s : Hub) : Hub := setLink b (fun l => { l with step := n }) s

/-- An EQ_REQ that asks for nothing more: no preset, ACTION DONE, RX_READY, AMPL 2. -/
def eqDone : Nat := atBit 0xF 236 + atBit 6 232 + atBit 1 231 + atBit 2 228

/-- EQ_REQ of the hub: its receiver is adapted and asks for no change (assumption log). -/
def sendDone (b : Nat) (s : Hub) : Hub :=
  setLink b (fun l => { l with eq := { l.eq with doneSent := true } }) (sendTrain b 0x10 eqDone s)

/-- The fields of EQ_STATUS (R115). -/
def Eq.status (e : Eq) : Nat :=
  atBit e.preset 236 + atBit (unsigned 6 e.cm1) 230 + atBit (unsigned 6 e.c0) 224 + atBit (unsigned 6 e.cp1) 218 + atBit e.ampl 215 +
    atBit (b2n e.atLimit) 214 + atBit (b2n e.doneSeen) 213

/-- EQ_STATUS to a head. -/
def sendEqStatus (b : Nat) (s : Hub) : Hub := sendTrain b 0x90 (s.bay b).link.eq.status s

/-- An EQ_STATUS is taken: a DONE of this side has been seen. -/
def Eq.answered (e : Eq) (m : BitVec 248) : Eq := { e with doneAcked := e.doneAcked || (e.doneSent && bit m.toNat 213) }

/-- The transmit presets (R115): C(−1) and C(+1). -/
def presetOf (n : Nat) : Int × Int :=
  match n with
  | 1 => (0, -4) | 2 => (0, -8) | 3 => (-2, -4) | 4 => (-4, -4) | 5 => (-2, -6) | 6 => (-4, -8) | 7 => (0, -12) | _ => (0, 0)

/-- Coefficients within their limit, or the refusal of a step (R115). -/
def Eq.set (e : Eq) (m p : Int) : Eq :=
  if m.natAbs + p.natAbs ≤ 12 then { e with cm1 := m, cp1 := p, c0 := 32 - m.natAbs - p.natAbs, atLimit := false } else { e with atLimit := true }

/-- An EQ_REQ acts on the transmitter (R115). -/
def Eq.request (e : Eq) (preset action ampl : Nat) : Eq :=
  let e := { e with atLimit := false, ampl := if ampl ≤ 4 then ampl else e.ampl }
  match action with
  | 1 => if preset ≤ 7 then { e.set (presetOf preset).1 (presetOf preset).2 with preset := preset } else e
  | 2 => e.set (e.cm1 + 1) e.cp1
  | 3 => e.set (e.cm1 - 1) e.cp1
  | 4 => e.set e.cm1 (e.cp1 + 1)
  | 5 => e.set e.cm1 (e.cp1 - 1)
  | 6 => { e with doneSeen := true }
  | _ => e

/-- HELLO (R115). -/
def sendHello (b : Nat) (s : Hub) : Hub := sendTrain b 0x01 (atBit 1 232 + atBit s.hubIndex 216 + atBit b 208) s

/-- Both sides have sent DONE and seen it acknowledged: the step is over. -/
def eqCheck (b : Nat) (s : Hub) : Hub :=
  let e := (s.bay b).link.eq
  if e.doneSeen ∧ e.doneSent ∧ e.doneAcked then sendHello b (toStep b .hello s) else s

/-- A training message out of its order fails the step; outside TRAINING it is malformed traffic. -/
def atStep (b : Nat) (n : TrainStep) (f : Hub → Hub) (s : Hub) : Hub :=
  let l := (s.bay b).link
  if l.state ≠ .training then s
  else if l.step = n then f s else trainFailed b s

/-- Bits [msb:lsb] of a block payload. -/
def pay (m : BitVec 248) (msb lsb : Nat) : Nat := bits m.toNat msb lsb

/-- EQ_REQ from a head (R115). -/
def headEqReq (b : Nat) (m : BitVec 248) : Hub → Hub :=
  atStep b .equalise (fun s =>
    if pay m 247 240 ≠ 0x10 then trainFailed b s
    else eqCheck b (sendEqStatus b (setLink b (fun l => { l with eq := l.eq.request (pay m 239 236) (pay m 235 232) (pay m 230 228) }) s)))

/-- EQ_STATUS from a head. -/
def headEqStatus (b : Nat) (m : BitVec 248) : Hub → Hub :=
  atStep b .equalise (fun s =>
    if pay m 247 240 ≠ 0x90 then trainFailed b s else eqCheck b (setLink b (fun l => { l with eq := l.eq.answered m }) s))

/-- The fields of IDENT (R116). -/
def identOf (m : BitVec 248) : Ident :=
  { vendor := pay m 239 224, model := pay m 223 208, major := pay m 207 200, minor := pay m 199 192, serial := pay m 191 128
    antennas := pay m 127 124, hasLf := bit m.toNat 123, hasHf := bit m.toNat 122, uhf433 := bit m.toNat 121, uhf868 := bit m.toNat 120
    hasCap := bit m.toNat 119, fwVer := pay m 111 96 }

/-- A head the hub can run (R116). -/
def Ident.compatible (i : Ident) : Bool := i.major == 1 && i.antennas == 4 && i.hasLf && i.hasHf && (i.uhf433 || i.uhf868)

/-- A head with the same serial on another port that is UP or DROWSE. -/
def duplicateSerial (s : Hub) (b serial : Nat) : Bool :=
  (List.range 128).any (fun k =>
    let l := (s.bay k).link
    k != b && (l.state == .up || l.state == .drowse) && l.ident.serial == serial)

/-- IDENT (R116): the identity is checked, and LIMITS is sent (R152). -/
def execIdent (b : Nat) (m : BitVec 248) : State → Turn := onHub fun s =>
  atBay b s (atStep b .hello (fun s =>
    if pay m 247 240 ≠ 0x81 then trainFailed b s
    else
      let i := identOf m
      let s := setLink b (fun l => { l with ident := i }) s
      if !i.compatible then toFault b .incompatible (headFault b 8 s)
      else if duplicateSerial s b i.serial then toFault b .duplicate (headFault b 16 s)
      else
        let l := limits s
        sendTrain b 0x02 (limitsPayload l) (setLink b (fun x => { x with limitsCrc := limitsCrc l }) (toStep b .limits s))))

/-- LIMITS_ACK (R114, R152): with the right CRC the hub sends GO, and slates begin. -/
def execLimitsAck (b : Nat) (m : BitVec 248) : State → Turn := onHub fun s =>
  atBay b s (atStep b .limits (fun s =>
    if pay m 247 240 ≠ 0x82 ∨ pay m 239 208 ≠ (s.bay b).link.limitsCrc then trainFailed b s
    else
      let f := wantedFmt s
      let s := setSl b (fun l => { cnt := l.cnt, upFmt := f, fmtOld := f, timing := { markNum := l.timing.markNum } }) s
      sendTrain b 0x03 (atBit f 222) (toStep b .echoes s)))

/-- The port comes UP (R114, R117, R134, R175, R192, R202): what the head is told first. -/
def comeUp (b : Nat) (s : Hub) : Hub :=
  let changed := decide (calSerial s b ≠ (s.bay b).link.ident.serial)
  let s := setLink b (fun l => { l with headChanged := changed, trainFails := 0, cw := l.cw }) s
  let s := enterLink b .up .none_ s
  let s := setLink b (fun l => { l with lastGood := s.now }) s
  let s := setPoll b (fun p => { p with lfOpen := false, hfOpen := false, degraded := false, lfLow := 0, hfLow := 0 }) s
  let s := setRadio b (fun r => { r with copy := .sleep, calTemp := none, calOk := false, calTry := 0, calDue := false }) s
  let s := linkNotice b .up .training .none_ s
  let s := capCue b s
  let s := cueNow b 0x12 0 .radio s
  let s := if (s.bay b).st = .watch then tuneCues b s else s
  tryTest b (advanceBay b s)

/-- TRAINING_COMPLETE (R114): 16 clapper echoes accepted, LOCK, timing settled, the mean delay within 2 µs. -/
def execTrainingComplete (b : Nat) : State → Turn := onHub fun s =>
  atBay b s (fun s =>
    let x := s.bay b
    if x.link.state = .training ∧ x.link.step = .echoes ∧ 16 ≤ x.sl.timing.accepted ∧ x.sl.rep.lock ∧ x.sl.timing.settled ∧ linkDelay s b ≤ 31948
    then comeUp b s else s)

/-! ## FAULT and its end -/

/-- FAULT_RECOVERY_TIMEOUT (R113). -/
def execFaultRecoveryTimeout (b : Nat) : State → Turn := onHub fun s =>
  atBay b s (fun s =>
    let l := (s.bay b).link
    let held := decide (l.reason = .incompatible ∨ l.reason = .duplicate)
    let gone := match l.signalLost with
      | some t => s.passed t (ms 10)
      | none => false
    if l.state = .fault ∧ (if held then gone else s.passed l.since (ms 10)) then takeDown b .none_ s else s)

/-- LINKDOWN of the head (R80): its reason is kept, and it stops transmitting; the loss is found by the limits of R113. -/
def execLinkdown (m : LinkdownBlock) : State → Turn := onHub fun s =>
  atBay m.bay s (setLink m.bay (fun l =>
    { l with signal := false, signalLost := some s.now, farReason := pay m.body 247 240, cw := { l.cw with locked := false } }))

/-- UPSTREAM_SLATE_TIMEOUT (R113, R121): lock lost, or no good upstream slate, for 100 µs. -/
def execUpstreamSlateTimeout (b : Nat) : State → Turn := onHub fun s =>
  atBay b s (fun s =>
    let l := (s.bay b).link
    if l.state = .up ∧ s.passed l.lastGood (us 100) then toFault b (if l.cw.locked then .crcBurst else .lockLost) s else s)

/-- CREDIT_TIMEOUT (R101). -/
def execCreditTimeout (b : Nat) : State → Turn := onHub fun s =>
  atBay b s (fun s =>
    match (s.bay b).sl.credits.emptySince with
    | some t => if isUp s b ∧ s.passed t (ms 10) ∧ (s.bay b).sl.outstanding ≠ [] then toFault b .creditTimeout s else s
    | none => s)

/-- CUE_ECHO_TIMEOUT (R96): a cue whose echo is overdue is unknown, and its step ends with INTERNAL. -/
def execCueEchoTimeout (b : Nat) : State → Turn := onHub fun s =>
  atBay b s (fun s =>
    let late := (s.bay b).sl.outstanding.filter (fun c => match c.due with
      | some d => decide (d < s.ticks)
      | none => false)
    late.foldl (fun s c =>
      let s := setSl b (fun l => { l with outstanding := l.outstanding.filter (· ≠ c) }) s
      cueEnded b c 8 0 (countPort b (fun k => { k with cueUnknown := satAdd k.cueUnknown 1 }) s)) s)

/-! ## DROWSE (R113, R118, R119, R195 to R203) -/

/-- The link of a bay has nothing to do: its region leaves S0 (R681, R682), or the bay is IDLE under CAPACITIVE or DARK, and no item, test,
measurement or calibration runs there. -/
def wantsDrowse (s : Hub) (b : Nat) : Bool :=
  let x := s.bay b
  decide ((s.region (regionOf b)).power ≠ .s0 ∨ (s.region (regionOf b)).powerStep ≠ 0) ||
    (decide (x.st = .dark) || (decide (x.st = .idle) && decide (effectivePolicy x = .capacitive) && !x.poll.touchPending && !x.poll.wakePending)) &&
    x.radio.test.isNone && x.poll.measure.isNone && (s.bayItems b).all (fun i => i.needs == {}) && !x.radio.calDue && !x.hf.owned &&
    x.hf.waiting.isEmpty && x.hf.txn.isNone

/-- DROWSE_REQUEST (R118, R203): DROWSE_REQ goes into the slates; no cue is outstanding then, and none waits. -/
def execDrowseRequest (b : Nat) : State → Turn := onHub fun s =>
  atBay b s (fun s =>
    let l := (s.bay b).sl
    if isUp s b ∧ wantsDrowse s b ∧ l.toSend = [] ∧ l.outstanding = [] then setSl b (fun l => { l with drowseReq := true }) s else s)

/-- The link of a bay is needed: the bay is beyond IDLE and DARK, or an item, a test or a measurement waits for it. -/
def wantsUp (s : Hub) (b : Nat) : Bool := !wantsDrowse s b

/-- WAKE (R113, R119, R202). -/
def wakeLink (b : Nat) (s : Hub) : Hub :=
  if (s.bay b).link.state = .drowse ∧ (s.bay b).link.wakeAt = none then sendBlockTo b blkWake 0 (setLink b (fun l => { l with wakeAt := some s.now }) s) else s

def execWake (b : Nat) : State → Turn := onHub fun s => atBay b s (fun s => if wantsUp s b then wakeLink b s else s)

/-- A TOUCH (R169, R195, R196, R198, R203, R205): a detection, and the end of IDLE or DARK; while the region is not ACTIVE or a test runs it is
recorded. -/
def touched (b : Nat) (s : Hub) : Hub :=
  let s := detect b s
  let st := (s.bay b).st
  if st = .idle ∨ st = .dark then
    if (s.region (regionOf b)).st = .active ∧ (s.bay b).radio.test = none then
      wakeLink b (toWatch b (countPoll b (fun c => { c with capWake := satAdd c.capWake 1 }) s))
    else setPoll b (fun p => { p with touchPending := true }) s
  else if st = .offline then setPoll b (fun p => { p with touchPending := true }) s
  else s

/-- A DROWSE block of the hub (R80, R105, R119): the marker fields, and whether the head is to answer at once. Its launch is the marker's. -/
def sendDrowse (b : Nat) (query : Bool) (s : Hub) : Hub :=
  let t := s.ticks
  let n := t / 15974400 % 65536
  setSl b (fun l => { l with timing := { l.timing with markNum := n, markLaunch := t } })
    (sendBlockTo b blkDrowse (atBit 0x01 240 + atBit (t + linkDelay s b) 176 + atBit n 160 + atBit (b2n query) 159) s)

/-- A query of HEAD_WAKE_N goes to every port of a region in DROWSE (R196). -/
def queryRegion (r : Nat) (s : Hub) : Hub :=
  let s := forBays r (fun b s =>
    if (s.bay b).link.state = .drowse then
      setSl b (fun l => { l with queryAt := some s.now }) (sendDrowse b true s)
    else s) s
  s.setRegion r (fun x => { x with wakeQueries := x.wakeQueries + 1, wakeQueryAt := s.now })

/-- HEAD_WAKE_LOW (R196, R197, R687): the line is low; at most three queries, 1 ms apart; in S3 and during its entry, a wake event. -/
def execHeadWakeLow (r : Nat) : State → Turn := onHub fun s =>
  atRegion r s (fun s =>
    let x := s.region r
    if x.wakeMasked then s
    else if s.pwr.chip ≠ .s0 then
      { s.setRegion r (fun x => { x with wakeLow := true }) with
        pwr := { s.pwr with wakeSrc := s.pwr.wakeSrc ||| 2 ||| 2 ^ (8 + r), wakeDuring := true } }
    else if x.st = .off ∨ x.power = .s2 then s.setRegion r (fun x => { x with wakeLow := true })
    else if !x.wakeLow then queryRegion r (s.setRegion r (fun x => { x with wakeLow := true, wakeQueries := 0 }))
    else if x.wakeQueries < 3 ∧ s.passed x.wakeQueryAt (ms 1) then queryRegion r s
    else s)

/-- WAKE_LINE_MASK (R197): still low after three queries and no TOUCH. -/
def execWakeLineMask (r : Nat) : State → Turn := onHub fun s =>
  atRegion r s (fun s =>
    let x := s.region r
    if x.wakeLow ∧ !x.wakeMasked ∧ 3 ≤ x.wakeQueries ∧ s.passed x.wakeQueryAt (ms 1) then
      s.setRegion r (fun x => { x with wakeMasked := true, wakeSpurious := satAdd x.wakeSpurious 1 })
    else s)

/-- WAKE_LINE_UNMASK (R197): the line has been high for 1 ms. An unmasked line that goes high ends its queries. -/
def execWakeLineUnmask (r : Nat) : State → Turn := onHub fun s =>
  atRegion r s (fun s => s.setRegion r (fun x => { x with wakeLow := false, wakeMasked := false, wakeQueries := 0 }))

/-- Entry to DROWSE (R113, R118): the head's first block. -/
def enterDrowse (b : Nat) (s : Hub) : Hub :=
  let s := linkNotice b .drowse .up .none_ s
  let s := setSl b (fun l =>
    { l with drowseReq := false, drowseTold := false, emitStop := false, emitLeft := 0, emitHold := false, hfaultRun := 0, queryAt := none
             rep := { l.rep with valid := false } }) s
  setLink b (fun l => { l with lastGood := s.now }) (enterLink b .drowse .none_ s)

/-- DROWSE_MARKER_SEND (R105, R119): a DROWSE block with the marker fields, once per ms. -/
def execDrowseMarkerSend (b : Nat) : State → Turn := onHub fun s =>
  atBay b s (fun s =>
    if (s.bay b).link.state ≠ .drowse then s else sendDrowse b false s)

/-- DROWSE_TIMEOUT (R113): no head block for 3 ms, lock lost, or no slate 100 µs after WAKE. -/
def execDrowseTimeout (b : Nat) : State → Turn := onHub fun s =>
  atBay b s (fun s =>
    let l := (s.bay b).link
    let awake : Bool := match l.wakeAt with
      | some t => s.passed t (us 100)
      | none => false
    if l.state = .drowse ∧ (s.passed l.lastGood (ms 3) ∨ awake ∨ !l.cw.locked) then toFault b .lockLost s else s)

end Sys2Proof.Machine
end

