-- ==== Sys2Proof/Machine/Slate.lean ====
section
/-! DEFINITION. Slates both ways: launches, markers and the cues they carry (R89 to R98, R102, R104, R105), and what an upstream slate or a
head's DROWSE block tells (R84 to R88, R94 to R100, R106 to R112, R121, R124). -/

namespace Sys2Proof.Machine

/-! ## Unsettled timing (R110) -/

/-- Timing is unsettled: takes and exchanges of the head lose their evidence, and its listens decline. -/
def unsettle (b : Nat) (s : Hub) : Hub :=
  let s := setSl b (fun l => { l with timing := { l.timing with settled := false, agree := 0 } }) s
  let s := ((s.bayItems b).filter (fun i => i.granted && i.step != 0)).foldl (fun s i => match i.what with
    | .listen _ _ => sendStandby b (declineItem i s)
    | _ => s) s
  rapidInvalid b (invalidateTake b s)

def timeSlip (b : Nat) (s : Hub) : Hub := unsettle b (countPort b (fun c => { c with timeSlip := satAdd c.timeSlip 1 }) s)

/-! ## Downstream (R89 to R93, R97, R98, R102, R104, R105) -/

/-- Time from a cue's start to its end at the head, where the manual gives its cue a duration, in slate periods; none without limit. -/
def cueSpan (r : Radio) (c : Cue) : Option Nat :=
  match c.opc with
  | 0x11 => some (radioGrace r.copy 0x11 / (unitTick * slateTicks) + 1)
  | 0x12 => some (radioGrace r.copy 0x12 / (unitTick * slateTicks) + 1)
  | 0x14 => some (ticksUs 120 / slateTicks + 1)
  | 0x15 => if c.arg / 65536 = 0 then none else some (c.arg / 65536)
  | 0x16 => some (c.arg % 65536)
  | 0x20 => if c.arg / 65536 = 0 then none else some (c.arg / 65536)
  | 0x60 => some (ticksUs (1000 * (c.arg / 4096)) / slateTicks + 1)
  | 0x61 => some (ticksUs (1000 * (c.arg / 4096)) / slateTicks + 1)
  | 0x62 => some (ticksUs (1000 * (c.arg / 4096)) / slateTicks + 1)
  | 0x63 => some (ticksUs (1000 * (c.arg / 4096)) / slateTicks + 1)
  | _ => some 0

/-- The time by which a cue's echo is due (R96): 16 slate periods after EXEC + WIN or its sending, 32 with AUX upstream; a cue with a duration
counts from its end. -/
def cueDue (l : Slates) (r : Radio) (launch : Nat) (c : Cue) : Option Nat :=
  (cueSpan r c).map (fun n => (if c.imm then launch else c.exec + c.win * slateTicks) + (n + (if l.upFmt = 2 then 32 else 16)) * slateTicks)

/-- A cue as it is sent: numbered, and with the end of its echo. -/
def sentCue (s : Hub) (b launch k : Nat) (c : Cue) : Cue :=
  let l := (s.bay b).sl
  { c with cseq := (l.cseqNext + k) % 65536, exec := if c.imm then launch + linkDelay s b else c.exec, due := cueDue l (s.bay b).radio launch c }

/-- Since when no credit has been held while cues are outstanding (R101). -/
def Slates.noteEmpty (l : Slates) (now : Nat) : Slates :=
  let since := if l.credits.held = 0 ∧ l.outstanding ≠ [] then (match l.credits.emptySince with
    | some t => some t
    | none => some now) else none
  { l with credits := { l.credits with emptySince := since } }

/-- Cues that cut a running burst short (R146). -/
def cutsBurst (c : Cue) : Bool := c.opc == 0x10 || c.opc == 0x11 || c.opc == 0x12 || c.opc == 0x30

/-- The cues that go into one slate: at most 16, one credit each (R89, R98). -/
def takeCues (b launch : Nat) (s : Hub) : List Cue × Hub :=
  let l := (s.bay b).sl
  let n := min 16 (min l.credits.held l.toSend.length)
  let go := (l.toSend.take n).zipIdx.map (fun p => sentCue s b launch p.2 p.1)
  let s := setSl b (fun l =>
    ({ l with toSend := l.toSend.drop n, outstanding := l.outstanding ++ go, cseqNext := (l.cseqNext + n) % 65536
              credits := { l.credits with held := l.credits.held - n } } : Slates).noteEmpty s.now) s
  (go, if go.any cutsBurst then setRadio b (fun r => { r with playing := none }) s else s)

/-- The 128 bits of a cue (R92). EXEC of a cue applied on receipt says nothing, and is sent as 0. -/
def cueWord (c : Cue) : Nat :=
  atBit (c.opc % 256) 120 + atBit (c.cseq % 65536) 104 + atBit (if c.imm then 0 else c.exec % 2 ^ 48) 56 + atBit (c.win % 65536) 40 +
  atBit (b2n c.imm) 39 + c.arg % 2 ^ 32

/-- The cue slots of a slate, slot j at [5823 − 128 j : 5696 − 128 j]. -/
def cueSlots (l : List Cue) : Nat := (l.zipIdx.map (fun p => atBit (cueWord p.1) (5696 - 128 * p.2))).foldl (· + ·) 0

/-- The upstream format follows the profile (R88): either format is accepted from the launch until 4 slate periods after the change can have
arrived. -/
def selectFmt (b : Nat) (s : Hub) : Hub :=
  let f := wantedFmt s
  if (s.bay b).sl.upFmt = f then s
  else setSl b (fun l => { l with fmtOld := l.upFmt, upFmt := f, fmtGrace := s.ticks + 2 * linkDelay s b + 4 * slateTicks }) s

/-- The downstream header (R89). -/
def dnHeader (l : Slates) (styp time ofs ncue : Nat) (uwb lf hf drowse : Bool) : Nat :=
  atBit styp 124 + atBit l.dnSeq 108 + atBit (time % 2 ^ 48) 60 + atBit ofs 48 + atBit (l.credits.cretOut % 32) 43 + atBit ncue 38 +
  atBit l.cseqNext 22 + atBit (b2n uwb) 21 + atBit (b2n lf) 20 + atBit (b2n hf) 19 + atBit (b2n l.emitStop) 18 + atBit l.upFmt 16 +
  atBit (b2n drowse) 15

/-- Slates go down: UP, the last step of training, and after WAKE. -/
def slatesDown (l : Link) : Bool :=
  decide (l.state = .up) || (decide (l.state = .training) && decide (l.step = .echoes)) || (decide (l.state = .drowse) && l.wakeAt.isSome)

/-- The slates whose chips a burst fills: from that of its first chip on (R144, R146). -/
def Burst.fills (u : Burst) (time : Nat) : Bool :=
  let first := u.first / slateTicks * slateTicks
  decide (first ≤ time) && decide (time < first + u.slates * slateTicks)

/-- What the UWB field of a slate carries: the burst that plays, or a modulated test (R167); nothing under EMIT_STOP. -/
def uwbSource (s : Hub) (b time : Nat) : Option (Nat → Nat) :=
  let r := (s.bay b).radio
  if (s.bay b).sl.emitStop then none
  else
    match r.playing.filter (·.fills time) with
    | some u => some (burstChip u)
    | none => if r.test.any (fun t => t.started.isSome && decide (t.opc = 0x60)) then some (fun t => chipCode (Config.testPulse b t)) else none

/-- The frame on the HF coil modulates it at a tick: the carrier as a reader, the load as a card (R89, R209). -/
def hfModulates (s : Hub) (b t : Nat) : Bool :=
  let h := (s.bay b).hf
  h.sent.any (fun p => decide (p.start ≤ t) &&
    (if h.listen then Config.tagModulated p.bytes (t - p.start) else Config.hfModulated p.bytes p.rate p.typeB (t - p.start)))

/-- The HF field of a slate: whether it holds modulation, and its bits, 1 full carrier. As a card only the instants of a modulated load count. -/
def hfField (s : Hub) (b time : Nat) : Bool × Nat :=
  let on := driveBits (fun t => hfDriven s b t) time
  let mod := driveBits (fun t => hfModulates s b t) time
  if (s.bay b).hf.listen then (mod != 0, 2 ^ 64 - 1 - mod) else (on != 0, on &&& (2 ^ 64 - 1 - mod))

/-- DROWSE_REQ is set (R118): no cue waits or is outstanding. The hub withdraws a request it has not yet sent; one that a slate has carried stands
until the head's DROWSE block (DESIGN CHOICE, log entry 170). -/
def drowseNow (s : Hub) (b : Nat) : Bool :=
  let l := (s.bay b).sl
  isUp s b && (l.drowseTold || (l.drowseReq && wantsDrowse s b && l.toSend.isEmpty && l.outstanding.isEmpty))

/-- The 6,144 bits of a downstream slate (R84, R89) from its header and fields. -/
def dnSlate (hdr uwb lf hf cues markTime markNum : Nat) : Nat :=
  let v := atBit hdr 5984 + atBit uwb 5920 + atBit lf 5856 + atBit hf 5792 + cues / 2 ^ 32 + atBit markTime 3680 + atBit markNum 3664
  v * 2 ^ 32 + crcBits 6112 v

/-- A downstream slate leaves on the grid instant last passed; its TIME lies at least four slate periods after its arrival. -/
def launchSlate (b : Nat) (marker : Bool) (s : Hub) : Hub :=
  let t := s.ticks
  let g := t / slateTicks * slateTicks
  let time := (g + slateTicks + launchLead s b + slateTicks - 1) / slateTicks * slateTicks
  if !slatesDown (s.bay b).link || decide (time ≤ (s.bay b).sl.dnTime) || decide ((g % 15974400 = 0) ≠ marker) then s
  else
    let s := selectFmt b s
    let up := isUp s b
    let drowse := drowseNow s b
    let (cues, s) := if up && !drowse then takeCues b t s else ([], s)
    let l := (s.bay b).sl
    let uwb := if up then uwbSource s b time else none
    let lf := if up then driveBits (fun x => lfDriven s b x) time else 0
    let hf := if up then hfField s b time else (false, 0)
    let num := g / 15974400 % 65536
    let hdr := dnHeader l (if marker then 2 else 1) time (t - g) cues.length uwb.isSome (lf != 0) hf.1 drowse
    let v := dnSlate hdr (match uwb with
      | some f => uwbField f time
      | none => 0) lf (if hf.1 then hf.2 else 0) (cueSlots cues) (if marker then (t + linkDelay s b) % 2 ^ 64 else 0) (if marker then num else 0)
    let s := s.emit (.lane b (slateBlocks 6144 v))
    let s := if l.emitStop then setRadio b (fun r => { r with playing := none }) s else s
    setSl b (fun l =>
      { l with dnSeq := (l.dnSeq + 1) % 65536, dnTime := time, drowseReq := drowse, drowseTold := drowse, emitLeft := l.emitLeft - 1
               emitStop := l.emitStop && (l.emitHold || decide (1 < l.emitLeft))
               timing := if marker then { l.timing with markNum := num, markLaunch := t } else l.timing }) s

/-- DOWNSTREAM_SLATE_LAUNCH (R89, R91, R98, R102, R104). -/
def execDownstreamSlateLaunch (b : Nat) : State → Turn := onHub fun s => atBay b s (launchSlate b false)

/-- MARKER_LAUNCH (R105): the grid instants that are multiples of 15,974,400 ticks. -/
def execMarkerLaunch (b : Nat) : State → Turn := onHub fun s => atBay b s (launchSlate b true)

/-! ## Delay (R106 to R110) -/

/-- The largest difference within a list. -/
def spread (l : List Nat) : Nat := l.foldl max 0 - l.foldl min (l.headD 0)

/-- An accepted measurement; timing settles with the eighth in a row that agree within ±2 ticks. -/
def acceptDelay (d : Nat) (x : Timing) : Timing :=
  let m := (d :: x.meas).take 16
  let n := x.agree + 1
  { x with meas := m, outliers := [], accepted := x.accepted + 1, agree := n, settled := x.settled || (decide (8 ≤ n) && decide (spread (m.take 8) ≤ 2)) }

/-- Far from the mean of the accepted measurements (R108). -/
def isOutlier (d : Int) (m : List Nat) : Bool :=
  let n := delaySum m
  decide (0 < n.2) && decide (16 * n.2 < (d * n.2 - n.1).natAbs)

/-- One measurement of the link delay. -/
def delayMeasured (b : Nat) (d : Int) (s : Hub) : Hub :=
  let x := (s.bay b).sl.timing
  let s :=
    if !isOutlier d x.meas then setSl b (fun l => { l with timing := acceptDelay d.toNat l.timing }) s
    else
      let o := (d.toNat :: x.outliers).take 4
      let s := countPort b (fun c => { c with delayOutlier := satAdd c.delayOutlier 1 }) s
      if o.length = 4 ∧ spread o ≤ 2 then
        let s := timeSlip b (setSl b (fun l => { l with timing := { l.timing with meas := o, outliers := [] } }) s)
        linkNotice b (s.bay b).link.state (s.bay b).link.state .delayChanged s
      else setSl b (fun l => { l with timing := { l.timing with outliers := o } }) s
  if isUp s b ∧ 31948 < linkDelay s b then toFault b .delayRange s else s

/-- D from a marker's launch, an arrival and the head's turnaround (R107). -/
def delayOf (x : Timing) (arrival arg : Nat) : Int := openDiv ((arrival : Int) - x.markLaunch - arg) 2

/-- A clapper echo (R106, R107, R110). -/
def clapperEcho (b arrival num step arg : Nat) (s : Hub) : Hub :=
  let x := (s.bay b).sl.timing
  if num ≠ x.markNum then s
  else
    let s := if 2 < (signed 8 step).natAbs then timeSlip b s else s
    delayMeasured b (delayOf x arrival arg) s

/-! ## Upstream (R84 to R88, R94 to R100, R121) -/

/-- The cue an echo ends. -/
def echoOf (l : Slates) (cseq : Nat) (opc : Option Nat) : Option Cue :=
  l.outstanding.find? (fun c => c.cseq == cseq && (match opc with
    | some o => c.opc == o
    | none => true))

/-- One echo of a slate. -/
def takeEcho (b arrival e : Nat) (s : Hub) : Hub :=
  let opc := bits e 63 56
  let cseq := bits e 55 40
  let res := bits e 39 32
  let arg := bits e 31 0
  let gone := fun (c : Cue) (s : Hub) => setSl b (fun l => ({ l with outstanding := l.outstanding.filter (· ≠ c) } : Slates).noteEmpty s.now) s
  if opc = 0xC0 then clapperEcho b arrival cseq res arg s
  else if opc = 0xFF then
    let s := countPort b (fun c => { c with cueMissing := satAdd c.cueMissing 1 }) s
    match echoOf (s.bay b).sl cseq none with
    | some c => cueEnded b c 7 0 (gone c s)
    | none => s
  else
    match echoOf (s.bay b).sl cseq (some opc) with
    | some c => cueEnded b c res arg (gone c s)
    | none => s

/-- Echo slot k of the auxiliary field (R87). -/
def echoSlot (v k : Nat) : Nat := bits v (671 - 64 * k) (608 - 64 * k)

/-- CRET and ECNT (R97, R100): credits that came back, and echoes whose credits the hub returns, whether or not they arrived. -/
def takeCredits (b cret ecnt : Nat) (s : Hub) : Hub :=
  setSl b (fun l =>
    let c := l.credits
    let back := subMod 32 cret c.cretSeen
    let sent := subMod 32 ecnt c.ecntSeen
    ({ l with credits := { c with held := min 16 (c.held + back), cretSeen := cret, ecntSeen := ecnt, echoes := c.echoes + sent
                                  cretOut := (c.cretOut + sent) % 32 } } : Slates).noteEmpty s.now) s

/-- The instant a 48-bit TIME names, near the present. -/
def fullTime (now t48 : Nat) : Nat := now + (t48 + 2 ^ 47 + 2 ^ 48 - now % 2 ^ 48) % 2 ^ 48 - 2 ^ 47

/-- Two spans of ticks meet. -/
def spansMeet (a z p q : Nat) : Bool := decide (a < q) && decide (p < z)

/-- Instants from `a` to `z` of a head are missing: an own take whose windows include them loses its evidence, an exchange does where a round's
window does (R314), and a listen whose window does declines (R121, R264, R265, R269). -/
def instantsLost (b a z : Nat) (s : Hub) : Hub :=
  let hit := match (s.bay b).take with
    | some t => t.tPoll != 0 && (spansMeet a z (t.tPoll + ticksUs 170) (t.tPoll + ticksUs 319) || spansMeet a z (t.tPoll + ticksUs 675) (t.tPoll + ticksUs 900))
    | none => false
  let s := if hit then invalidateTake b s else s
  let s := ((s.bayItems b).filter (fun i => i.granted && i.step != 0 &&
      spansMeet a z (listenPoll i + ticksUs 170) (listenPoll i + ticksUs 260))).foldl (fun s i => match i.what with
    | .listen _ _ => sendStandby b (declineItem i s)
    | _ => s) s
  if rapidWindowMeets s b a z then invalidateRapid b s else s

/-- Instants per slate of a format, in ticks of its period. -/
def slatePeriod (styp : Nat) : Nat := if styp = 3 then 8 * slateTicks else slateTicks

/-- SEQ and TIME against the last good slate (R110, R121). Where the format has changed in between, every SEQ step counts as one of the new slate's
(DESIGN CHOICE, log entry 172). -/
def seqCheck (b styp seq time : Nat) (s : Hub) : Hub :=
  let p := (s.bay b).sl.rep
  if !p.valid then s
  else
    let n := subMod 65536 seq p.seq
    let expect := p.time + n * slatePeriod styp
    let s := if 1 < n then
        instantsLost b (p.time + slatePeriod styp) time (countPort b (fun c => { c with usLost := satAdd c.usLost (n - 1) }) s)
      else s
    if 2 < ((time : Int) - expect).natAbs then timeSlip b s else s

/-- The 20-bit sample of instant `i` and antenna `a` in a slate of a format, if it holds one (R86). -/
def sampleOf (styp v i a : Nat) : Option Nat :=
  if styp = 1 then some (bits v (6015 - 20 * (4 * i + a)) (5996 - 20 * (4 * i + a)))
  else if styp = 2 ∧ a < 2 then some (bits v (3455 - 20 * (2 * i + a)) (3436 - 20 * (2 * i + a)))
  else none

/-- A sample whose I or Q code is −512 or +511. -/
def sampleClamped (x : Nat) : Bool :=
  let edge := fun (n : Nat) => n == 512 || n == 511
  edge (x / 1024 % 1024) || edge (x % 1024)

/-- The first instant of a slate at which an antenna clamped; the slate's first instant where no code shows it (R112). -/
def overAt (styp v time a : Nat) : Nat :=
  match (List.range 64).find? (fun i => (sampleOf styp v i a).any sampleClamped) with
  | some i => time + 16 * i
  | none => time

/-- Suspect spans of 256 instants on all antennas (R112); `ovr` is the OVR field. -/
def noteSuspect (b styp ovr v time : Nat) (s : Hub) : Hub :=
  let new := ((List.range 4).filter (bit ovr)).map (fun a => (overAt styp v time a, overAt styp v time a + 256 * 16))
  if new = [] then s
  else setSl b (fun l => { l with suspect := new ++ l.suspect.filter (fun p => decide (time < p.2 + ticksUs 1000)) }) s

/-- A complex baseband sample of 24 bits, I above Q (R87). -/
def iqOf (n : Nat) : Int × Int := (signed 12 (n / 4096 % 4096), signed 12 (n % 4096))

/-- The header `h` and the auxiliary field of a slate `v` (R85, R87). RADIO 7, which R85 does not list, leaves the value before it (DESIGN CHOICE, log
entry 171). -/
def reportOf (h v : Nat) (old : HeadReport) (time : Nat) : HeadReport :=
  { seq := bits h 123 108, time := time, valid := true, radio := (radioOf (bits h 45 43)).getD old.radio
    emUwb := bit h 42, emLf := bit h 41, emHf := bit h 40, lock := bit h 39, hfault := bit h 38, tempHigh := bit h 37, supplyLow := bit h 36
    touch := bit h 34, temp := signed 8 (bits h 33 26), lfCur := signed 16 (bits v 783 768), hfCur := signed 16 (bits v 767 752)
    cap := bits v 751 736, hfGain := bits v 791 784, uhfGain := bits v 799 792
    hfIq := [iqOf (bits v 895 872), iqOf (bits v 871 848)], uhfIq := [iqOf (bits v 847 824), iqOf (bits v 823 800)] }

/-- HEAD_FAULT when a bit becomes set; HFAULT in two good slates in a row is a fault (R113, R124). -/
def healthCheck (b : Nat) (old new : HeadReport) (s : Hub) : Hub :=
  let rose := (new.hfault && !old.hfault) || (new.tempHigh && !old.tempHigh) || (new.supplyLow && !old.supplyLow)
  let s := if rose then headFault b (flags [new.hfault, new.tempHigh, new.supplyLow]) s else s
  let n := if new.hfault then (s.bay b).sl.hfaultRun + 1 else 0
  let s := setSl b (fun l => { l with hfaultRun := n }) s
  if isUp s b ∧ 2 ≤ n then toFault b .headReported s else s

/-- The items that transmitted in the slate of a TIME: by the burst whose chips it carried, or by driving a coil at one of its instants. -/
def Item.sentIn (s : Hub) (b time : Nat) (i : Item) : Bool :=
  i.isStep && ((s.bay b).radio.playing.any (fun u => u.fills time && decide (u.q = i.q)) ||
    (List.range 64).any (fun k => i.drivesLf (telegram s b) (time + 16 * k) || i.drivesHf (time + 16 * k)))

/-- DS_LOSS (R121): a step that transmitted in the missing slate fails. -/
def downLost (b miss : Nat) (s : Hub) : Hub :=
  let l := (s.bay b).sl
  let time := l.dnTime - subMod 65536 (l.dnSeq + 65535) miss * slateTicks
  let hit := ((s.bayItems b).filter (Item.sentIn s b time)).map (·.q)
  failSteps b .internal (fun i => i.isStep && hit.contains i.q) (countPort b (fun c => { c with dsLossRpt := satAdd c.dsLossRpt 1 }) s)

/-- A DROWSE link is UP again (R113, R119, R202). Credits and counts go on as they were: "at link UP" (R97) is read of a link that comes from TRAINING
(DESIGN CHOICE, log entry 173). -/
def wokeUp (b : Nat) (s : Hub) : Hub :=
  let s := linkNotice b .up .drowse .none_ (enterLink b .up .none_ s)
  let s := sendStandby b s
  let s := if (s.bay b).st = .watch then tuneCues b s else s
  tryTest b (advanceBay b s)

/-- What an UP port takes from a good slate beyond its header. -/
def serveSlate (b : Nat) (u : UpSlate) (old : HeadReport) (s : Hub) : Hub :=
  let r := (s.bay b).sl.rep
  let s := radioReport b r.radio (applyCues b r.time s)
  let s := if r.touch && !old.touch then touched b s else s
  let s := externalField b r.hfCur.natAbs s
  let s := u.coil.foldl (fun s m => coilSample b m s) s
  match u.card with
  | some f => if (s.bay b).hf.listen then tagFrame b f s else cardFrame b f s
  | none => s

/-- A good slate in its format: header `h`, all bits `v`. -/
def goodSlate (b : Nat) (u : UpSlate) (h v necho : Nat) (s : Hub) : Hub :=
  let styp := bits h 127 124
  let time := fullTime s.ticks (bits h 107 60)
  let old := (s.bay b).sl.rep
  let s := seqCheck b styp (bits h 123 108) time s
  let s := setLink b (fun l => { l with lastGood := s.now }) (setSl b (fun l => { l with rep := reportOf h v old time }) s)
  let s := noteSuspect b styp (bits h 59 56) v time s
  let s := if bit h 39 then s else unsettle b s
  let s := takeCredits b (bits h 55 51) (bits h 50 46) s
  let s := if (s.bay b).link.state = .drowse ∧ bit h 39 then wokeUp b s else s
  let s := if bit h 35 then downLost b (bits h 25 10) s else s
  let s := (List.range necho).foldl (fun s k => takeEcho b u.arrival (echoSlot v k) s) s
  let s := healthCheck b old (s.bay b).sl.rep s
  if isUp s b then serveSlate b u old s
  else if (s.bay b).link.state = .training ∧ bit h 34 ∧ !old.touch then touched b s
  else s

/-- Data blocks of each upstream format (R82). -/
def upBlocks (styp : Nat) : Nat := if styp = 1 then 24 else if styp = 2 then 14 else if styp = 3 then 4 else 0

/-- The CRC of a slate holds (R84). -/
def crcHolds (u : UpSlate) : Bool :=
  let v := slateBits u.blocks
  decide (u.blocks ≠ []) && crcBits (256 * u.blocks.length - 32) (v / 2 ^ 32) == v % 2 ^ 32

/-- UPSTREAM_SLATE_RECEIVED (R82 to R88, R94 to R100, R110, R112, R113, R121). A slate whose format is not one the hub then accepts, whose length is not
that of its format, or whose NECHO exceeds 10 is malformed (R122). -/
def execUpstreamSlateReceived (b : Nat) (u : UpSlate) : State → Turn := onHub fun s =>
  atBay b s (fun s =>
    let l := (s.bay b).sl
    if !slatesDown (s.bay b).link then s
    else if !crcHolds u then countPort b (fun c => { c with usCrc := satAdd c.usCrc 1 }) s
    else
      let v := slateBits u.blocks
      let h := v / 2 ^ (256 * u.blocks.length - 128)
      let styp := bits h 127 124
      let necho := bits v 735 732
      let fits := styp == l.upFmt + 1 || (styp == l.fmtOld + 1 && decide (s.ticks ≤ l.fmtGrace))
      if !fits ∨ u.blocks.length ≠ upBlocks styp ∨ 10 < necho then countPort b (fun c => { c with protoErr := satAdd c.protoErr 1 }) s
      else goodSlate b u h v necho s)

/-- DROWSE_BLOCK (R80, R113, R118, R119, R196): the head's block, its turnaround and its touch; one that nothing has asked for is ignored. -/
def execDrowseBlock (b : Nat) (d : BitVec 248) (arrival : Nat) : State → Turn := onHub fun s =>
  atBay b s (fun s =>
    let l := (s.bay b).link
    if pay d 247 240 ≠ 0x81 ∨ l.state ≠ .drowse ∧ !(l.state = .up ∧ (s.bay b).sl.drowseTold) then s
    else
      let s := if l.state = .up then enterDrowse b s else setLink b (fun l => { l with lastGood := s.now }) s
      let old := (s.bay b).sl.rep
      let asked := (s.bay b).sl.queryAt.isSome
      let touch := bit d.toNat 175
      let s := setSl b (fun l => { l with queryAt := none, rep := { l.rep with cap := pay d 191 176, touch := touch } }) s
      let x := (s.bay b).sl.timing
      let s := if l.state = .drowse ∧ pay d 207 192 = x.markNum then delayMeasured b (delayOf x arrival (pay d 239 208)) s else s
      if touch && (asked || !old.touch) then
        touched b (wakeLink b (s.setRegion (regionOf b) (fun x => { x with wakeQueries := 0 })))
      else s)

end Sys2Proof.Machine
end

