-- ==== Sys2Proof/Machine/Cascade.lean ====
section
/-! DEFINITION. Codeword lock of every lane (R81, R122), the cascade (R348 to R360), and CLOCK_EVENT (R667). -/

namespace Sys2Proof.Machine

/-! ## CLOCK_EVENT (R667) -/

/-- CLOCK_EVENT: KIND, UNIT, NEW, OLD and the ms of an exit or return. -/
def clockEvent (kind unit new old dur : Nat) (s : Hub) : Hub :=
  notice 0x0701 chipSrc [⟨16, 1, kind⟩, ⟨17, 1, unit⟩, ⟨18, 1, new⟩, ⟨19, 1, old⟩, ⟨20, 8, s.aon.rtc⟩, ⟨28, 4, min dur sat32⟩] s

/-! ## Sides -/

def sideNo : CSide → Nat
  | .lower => 0
  | .upper => 1

def Hub.side (s : Hub) (c : CSide) : Side := sideAt s (sideNo c)

def modSide (c : CSide) (f : Side → Side) (s : Hub) : Hub :=
  match c with
  | .lower => { s with casc := { s.casc with lower := f s.casc.lower } }
  | .upper => { s with casc := { s.casc with upper := f s.casc.upper } }

/-- NEW of a side, as R123 codes it. -/
def SideState.code : SideState → Nat
  | .down => 0 | .up => 2 | .fault => 4

/-- A side that the hub uses (R1, R348). -/
def sideUsed (s : Hub) (c : CSide) : Bool :=
  decide (cascadePorts s.fuse.order ≠ 0) &&
  (match c with
   | .lower => decide (s.hubIndex ≠ 0)
   | .upper => decide (s.hubIndex + 1 < s.hubCount))

/-- The neighbour's index. -/
def neighbour (s : Hub) (c : CSide) : Nat :=
  match c with
  | .lower => s.hubIndex - 1
  | .upper => s.hubIndex + 1

/-- Is a hub beyond a side? -/
def beyond (s : Hub) (c : CSide) (hub : Nat) : Bool :=
  match c with
  | .lower => decide (hub < s.hubIndex)
  | .upper => decide (s.hubIndex < hub)

/-- The side toward the clapper master, where this hub follows. -/
def towardMaster (s : Hub) (c : CSide) : Bool := beyond s c s.masterHub

def laneOf (x : Side) (lane : Nat) : CwLock := if lane = 0 then x.lane0 else x.lane1
def activeLane (x : Side) : Nat := if x.standby then 1 else 0

/-- Control block types of the cascade (R349). -/
def blkChello : Nat := 0x61
def blkCmark : Nat := 0x66
def blkCecho : Nat := 0x69

/-- A control block leaves on a lane of a side, and on its active lane. -/
def sendLane (c : CSide) (lane typ payload : Nat) (s : Hub) : Hub := s.emit (.casc (sideNo c) lane (ctrlBlock typ payload))
def sendCasc (c : CSide) (typ payload : Nat) (s : Hub) : Hub := sendLane c (activeLane (s.side c)) typ payload s

/-- CHELLO (R349). -/
def sendChello (c : CSide) (s : Hub) : Hub :=
  let v := match s.geom with
    | some g => (g.version, leNat ((toLe 32 g.digest.toNat).reverse.take 8))
    | none => (0, 0)
  sendCasc c blkChello (atBit 1 240 + atBit s.hubIndex 232 + atBit s.hubCount 224 + atBit s.masterHub 216 + atBit v.1 184 + atBit v.2 120 + atBit 1 112) s

/-! ## Equaliser training of a lane (R115, R349) -/

def eqOf (x : Side) (lane : Nat) : Eq := if lane = 0 then x.eq0 else x.eq1

def modEq (c : CSide) (lane : Nat) (f : Eq → Eq) (s : Hub) : Hub :=
  modSide c (fun x => if lane = 0 then { x with eq0 := f x.eq0 } else { x with eq1 := f x.eq1 }) s

/-- EQ_REQ of the hub on a lane that has locked: it asks for no change. -/
def laneDone (c : CSide) (lane : Nat) (s : Hub) : Hub :=
  sendLane c lane blkTrain (atBit 0x10 240 + eqDone) (modEq c lane (fun _ => { doneSent := true }) s)

/-- EQ_REQ and EQ_STATUS on a lane with lock. The manual does not make a side's state rest on them (log entry 180). -/
def laneEqReq (c : CSide) (lane : Nat) (m : BitVec 248) (s : Hub) : Hub :=
  if !sideUsed s c || !(laneOf (s.side c) lane).locked || pay m 247 240 ≠ 0x10 then s
  else
    let s := modEq c lane (fun e => e.request (pay m 239 236) (pay m 235 232) (pay m 230 228)) s
    sendLane c lane blkTrain (atBit 0x90 240 + (eqOf (s.side c) lane).status) s

def laneEqStatus (c : CSide) (lane : Nat) (m : BitVec 248) (s : Hub) : Hub :=
  if !sideUsed s c || !(laneOf (s.side c) lane).locked || pay m 247 240 ≠ 0x90 then s else modEq c lane (fun e => e.answered m) s

/-- EQ_REQ (R115, R349). -/
def execEqReq (x : Rx) (m : BitVec 248) : State → Turn := onHub fun s =>
  match x with
  | .head b => atBay b s (headEqReq b m)
  | .casc c lane => atUnit 2 lane s (laneEqReq c lane m)

/-- EQ_STATUS (R115, R349). -/
def execEqStatus (x : Rx) (m : BitVec 248) : State → Turn := onHub fun s =>
  match x with
  | .head b => atBay b s (headEqStatus b m)
  | .casc c lane => atUnit 2 lane s (laneEqStatus c lane m)

/-! ## The clapper's state (R355) -/

def ClapState.code : ClapState → Nat
  | .free => 0 | .locking => 1 | .locked => 2 | .holdover => 3

def setClap (n : ClapState) (s : Hub) : Hub :=
  if s.casc.clap = n then s
  else clockEvent 0x05 0x30 n.code s.casc.clap.code 0 { s with casc := { s.casc with clap := n, agree := 0 } }

/-- A following hub loses its clapper's reference. -/
def holdover (s : Hub) : Hub := if s.casc.clap = .locking ∨ s.casc.clap = .locked then setClap .holdover s else s

/-! ## A side leaves UP (R357, R358) -/

/-- A take whose collection window is open loses the sightings from beyond a side. -/
def discardBeyond (c : CSide) (b : Nat) (s : Hub) : Hub :=
  match (s.bay b).take with
  | none => s
  | some t =>
    if t.closed then s
    else
      let hit := t.listeners.filter (fun l => beyond s c l.hub)
      let n := (hit.filter (fun l => l.state != 0)).length
      let s := modTake b (fun t => { t with listeners := t.listeners.map (fun l => if hit.contains l then { l with state := 2 } else l) }) s
      { s with casc := { s.casc with discard := satAdd s.casc.discard n } }

/-- A boundary bay whose candidates lie beyond the side, unless BOUND in an open session. -/
def chainBroken (c : CSide) (b : Nat) (s : Hub) : Hub :=
  let bd := match s.geom with
    | some g => (match g.bayRec s.hubIndex b with
      | some r => bit r.flags 1 && r.cand.any (fun k => beyond s c k.1)
      | none => false)
    | none => false
  match (s.bay b).dlgV with
  | some d => if bd && !(d.verdict == .bound && inSession (s.bay b) d) then moveVerdict b .v .contested .chainBroken 0 {} s else s
  | none => s

/-- A side changes state (R355): the notice, and at leaving UP what R355, R357 and R358 say. -/
def setSide (c : CSide) (n : SideState) (reason : Nat) (s : Hub) : Hub :=
  let old := (s.side c).state
  if old = n then s
  else
    let s := modSide c (fun x => { x with state := n, reason := reason, since := s.now, meas := if n = .up then x.meas else [], outliers := [] }) s
    let s := clockEvent 0x06 (0x40 + (sideNo c)) n.code old.code 0 s
    if old = .up then
      let s := forAllBays (discardBeyond c) s
      let s := forAllBays (chainBroken c) s
      if towardMaster s c then holdover s else s
    else s

/-! ## Codeword lock (R81, R122) -/

/-- One codeword at a receiver. -/
def CwLock.feed (x : CwLock) (w : Cw) : CwLock :=
  let bad := decide (w = .bad)
  let run := if bad then 0 else x.goodRun + 1
  let last := (bad :: x.last16).take 16
  if !x.locked then { x with locked := decide (4 ≤ run), goodRun := run, last16 := if 4 ≤ run then [] else last }
  else { x with locked := decide ((last.filter id).length < 8), goodRun := run, last16 := last }

def countCw (b : Nat) (l : List Cw) (s : Hub) : Hub :=
  countPort b (fun c =>
    { c with fecCorr := satAdd c.fecCorr (l.filter (fun w => decide (w = .corrected))).length
             fecUncorr := satAdd c.fecUncorr (l.filter (fun w => decide (w = .bad))).length }) s

/-- Control blocks of a type that R80 does not list, among the blocks of the codewords that a locked receiver decodes, and the descrambler's
state after them. -/
def unknownBlocks : List Codeword → Nat → Nat × Nat
  | [], st => (0, st)
  | c :: r, st =>
    let d := rsDecode (cwWord c)
    let p := cwBlocks (d.getD (cwWord c)) st
    let q := unknownBlocks r p.2
    ((if d.isSome then (p.1.filter unknownBlock).length else 0) + q.1, q.2)

/-- The blocks of codewords at a head port (R79, R80): unknown types are discarded and counted while the receiver has lock. -/
def headBlocks (b : Nat) (l : List Codeword) (s : Hub) : Hub :=
  let x := (s.bay b).link.cw
  let u := unknownBlocks l x.scr
  let s := setLink b (fun x => { x with cw := { x.cw with scr := u.2 } }) s
  if x.locked then countPort b (fun c => { c with protoErr := satAdd c.protoErr u.1 }) s else s

/-- Codewords at a head port: with lock, training goes on (R114); without it in DROWSE, the link is lost (R113). The signal counts as lost with
the lock (DEDUCED, log entry 167). -/
def headCodewords (b : Nat) (l : List Cw) (s : Hub) : Hub :=
  let was := (s.bay b).link.cw.locked
  let s := countCw b l (setLink b (fun x => { x with cw := l.foldl CwLock.feed x.cw, signal := true }) s)
  let s := setLink b (fun x => { x with signalLost := if x.cw.locked then none else if was then some s.now else x.signalLost }) s
  let x := (s.bay b).link
  if x.state = .training ∧ x.step = .adapt ∧ x.cw.locked then sendDone b (toStep b .equalise s)
  else if was && !x.cw.locked && decide (x.state = .drowse) then toFault b .lockLost s
  else s

/-- Codewords at a cascade lane: a lane that locks tells the neighbour who this hub is. -/
def cascCodewords (c : CSide) (lane : Nat) (l : List Cw) (s : Hub) : Hub :=
  let was := (laneOf (s.side c) lane).locked
  let s := modSide c (fun x =>
    if lane = 0 then { x with lane0 := l.foldl CwLock.feed x.lane0 } else { x with lane1 := l.foldl CwLock.feed x.lane1 }) s
  if !was && (laneOf (s.side c) lane).locked && sideUsed s c then sendChello c (laneDone c lane s) else s

/-- Codewords at a receiver are decoded (R79), and judged (R81). -/
def feedCodewords (x : Rx) (l : List Codeword) (s : Hub) : Res :=
  match x with
  | .head b => atBay b s (fun s => headCodewords b (l.map cwJudge) (headBlocks b l s))
  | .casc c lane => atUnit 2 lane s (cascCodewords c lane (l.map cwJudge))

/-- CODEWORD_LOCK (R81): lock after 4 good codewords in a row. -/
def execCodewordLock (x : Rx) (l : List Codeword) : State → Turn := onHub fun s => feedCodewords x l s

/-- CODEWORD_LOCK_LOST (R81): lock lost with 8 of 16 uncorrectable. -/
def execCodewordLockLost (x : Rx) (l : List Codeword) : State → Turn := onHub fun s => feedCodewords x l s

/-! ## CHELLO and lanes (R348 to R350) -/

/-- Who the neighbour says it is. -/
def chelloFits (s : Hub) (c : CSide) (m : BitVec 248) : Bool :=
  pay m 247 240 == 1 && pay m 239 232 == neighbour s c && pay m 231 224 == s.hubCount && pay m 223 216 == s.masterHub && pay m 119 112 == 1

/-- CHELLO (R350, R355): at most one in a ms is taken; on the active lane of a side in use it brings the side UP, or to FAULT. -/
def execChello (c : CSide) (lane : Nat) (m : BitVec 248) : State → Turn := onHub fun s =>
  atUnit 2 lane s (fun s =>
    let x := s.side c
    let soon := match x.helloAt with
      | some t => !s.passed t (ms 1)
      | none => false
    if !sideUsed s c || soon || lane != activeLane x || !(laneOf x lane).locked || decide (x.state = .fault) || !s.fwReady || s.clk.serdes.coast then s
    else
      let s := modSide c (fun x => { x with helloAt := some s.now, geomVersion := pay m 215 184, geomTag := pay m 183 120 }) s
      if !chelloFits s c m then setSide c .fault 0 s
      else if x.state = .up then s
      else setSide c .up 0 (sendChello c s))

/-- CASCADE_MISMATCH_RETRY (R350): 10 ms after FAULT. -/
def execCascadeMismatchRetry (c : CSide) : State → Turn := onHub fun s =>
  .next (
    let x := s.side c
    if x.state = .fault ∧ s.passed x.since (ms 10) ∧ !s.clk.serdes.coast then sendChello c (setSide c .down 0 s) else s)

/-- CASCADE_LANE_SWITCH (R348): port 0 or 2 while its lane is UP, otherwise port 1 or 3; packets in transit are lost. -/
def execCascadeLaneSwitch (c : CSide) : State → Turn := onHub fun s =>
  .next (modSide c (fun x => { x with standby := !x.lane0.locked && x.lane1.locked }) s)

/-- CASCADE_SIDE_DOWN (R355, R357, R358): no lane holds lock, or the neighbour's LINKDOWN with its reason. -/
def execCascadeSideDown (c : CSide) (reason : Nat) : State → Turn := onHub fun s =>
  .next (
    let x := s.side c
    if x.state = .up ∧ (reason ≠ 1 ∨ (!x.lane0.locked && !x.lane1.locked)) then setSide c .down reason s else s)

/-! ## Markers (R353 to R356, R657) -/

/-- Grid of the markers. -/
def markTicks : Nat := 15974400

def meanOf (l : List Nat) : Nat := (delaySum l).1 / max (delaySum l).2 1

/-- CMARK_SEND (R353, R657): on an UP side away from the master, once per ms. -/
def execCmarkSend (c : CSide) : State → Turn := onHub fun s =>
  .next (
    let x := s.side c
    let t := s.ticks
    if x.state ≠ .up ∨ towardMaster s c ∨ (s.hubIndex = s.masterHub ∧ s.clk.tpll.coast) ∨ t / markTicks = x.markLaunch / markTicks then s
    else
      let n := t / markTicks % 65536
      modSide c (fun x => { x with markNum := n, markLaunch := t })
        (sendCasc c blkCmark (atBit s.hubIndex 240 + atBit (t + meanOf x.meas) 176 + atBit n 160) s))

/-- A marker against this hub's clapper (R355, R356). -/
def followMark (mark arrival : Nat) (s : Hub) : Hub :=
  let d : Int := (mark : Int) - arrival
  let near := decide (d.natAbs ≤ 2)
  let s := { s with casc := { s.casc with lastMark := s.now } }
  match s.casc.clap with
  | .free =>
    let s := setClap .locking s
    if near then s else { s with casc := { s.casc with step := some d } }
  | .holdover =>
    let s := setClap .locking s
    if near then s else { s with casc := { s.casc with step := some d } }
  | .locking =>
    if s.casc.step.isSome then s
    else
      let n := if near then s.casc.agree + 1 else 0
      if 16 ≤ n then setClap .locked s else { s with casc := { s.casc with agree := n } }
  | .locked =>
    let f := freeVal 32 s
    { f.2 with casc := { f.2.casc with trimPpb := (f.1 % 100001 : Nat) - (50000 : Int) } }

/-- CMARK (R354 to R356): a following hub answers on the side toward the master, and follows. -/
def execCmark (c : CSide) (m : BitVec 248) (arrival : Nat) : State → Turn := onHub fun s =>
  .next (
    if (s.side c).state ≠ .up ∨ !towardMaster s c ∨ s.clk.tpll.coast then s
    else
      let s := sendCasc c blkCecho (atBit s.hubIndex 240 + atBit (s.ticks - arrival) 208 + atBit (pay m 175 160) 192) s
      followMark (pay m 239 176) arrival s)

/-- CECHO (R107, R108, R354): the delay of a side; a mean above 31,948 ticks is a fault. -/
def execCecho (c : CSide) (m : BitVec 248) (arrival : Nat) : State → Turn := onHub fun s =>
  .next (
    let x := s.side c
    if x.state ≠ .up ∨ pay m 207 192 ≠ x.markNum then s
    else
      let d := openDiv ((arrival : Int) - x.markLaunch - pay m 239 208) 2
      let s := modSide c (fun x =>
        if !isOutlier d x.meas then { x with meas := (d.toNat :: x.meas).take 16, outliers := [] }
        else
          let o := (d.toNat :: x.outliers).take 4
          if o.length = 4 ∧ spread o ≤ 2 then { x with meas := o, outliers := [] } else { x with outliers := o }) s
      if 31948 < meanOf (s.side c).meas then setSide c .fault 4 s else s)

/-- CMARK_TIMEOUT (R657): no CMARK for 3 ms toward the master. -/
def execCmarkTimeout : State → Turn := onHub fun s =>
  .next (if s.hubIndex ≠ s.masterHub ∧ s.passed s.casc.lastMark (ms 3) then holdover s else s)

/-- The clapper steps at a slot boundary (R356): takes, listens and exchanges in flight lose their evidence, and timing is unsettled. -/
def stepClapper (s : Hub) : Hub :=
  match s.casc.step with
  | none => s
  | some d =>
    let s := forAllBays (fun b s => declineBay b (unsettle b s)) s
    let clap := ((s.clap : Int) + d * 125000000000).toNat
    { s with clap := clap, slotDone := clap / 125000000000 % 2 ^ 64 / slotTicks, casc := { s.casc with step := none } }

end Sys2Proof.Machine
end

