-- ==== Sys2Proof/Machine/Level.lean ====
section
/-! DEFINITION. Performance levels and profiles (R30 to R33, R541, R587, R669 to R675): the DVFS sequencer, and POWER_STATE (R699). -/

namespace Sys2Proof.Machine

def setPwr (f : Pwr → Pwr) (s : Hub) : Hub := { s with pwr := f s.pwr }

/-! ## POWER_STATE (R699) -/

/-- Power state of a region as PWR_STATUS codes it. -/
def RegionPower.code : RegionPower → Nat
  | .s0 => 0 | .s1 => 1 | .s2 => 2 | .off => 3

def regionPwr (s : Hub) (r : Nat) : Nat := if s.regionPresent r then (s.region r).power.code else 3

/-- POWER_STATE. -/
def powerNotice (src kind new old wake : Nat) (s : Hub) : Hub :=
  notice 0x0501 src
    ([⟨16, 1, kind⟩, ⟨17, 1, new⟩, ⟨18, 1, old⟩, ⟨19, 1, profileInForce s⟩] ++ (List.range 8).map (fun r => ⟨20 + r, 1, regionPwr s r⟩) ++
     [⟨28, 4, wake⟩, ⟨32, 8, s.aon.rtc⟩, ⟨40, 2, s.pwr.setMv⟩]) s

/-! ## Levels (R669 to R671) -/

/-- FCLK_DIV of a level, as CLK_STATUS codes it: the codes are those of the levels. -/
def levelDiv (pl : Nat) : Nat := pl

/-- VDD_CORE set point of a level with the fused margin, mV. -/
def levelMv (s : Hub) (pl : Nat) : Nat :=
  (if pl = 0 then 850 else if pl = 1 then 780 else if pl = 2 then 700 else 620) + s.fuse.marginMv

/-- Read assist is on at PL2 and PL3, forward bias at PL0. -/
def assistAt (pl : Nat) : Bool := decide (2 ≤ pl)
def biasAt (pl : Nat) : Bool := decide (pl = 0)

/-- The widest group a level supports (R272, R273). -/
def widthAt (pl : Nat) : Nat := widthOf pl

/-- The level a profile needs, and the level in force under a pin (R30, R587). -/
def levelFor (s : Hub) (profile : Nat) : Nat := min profile (s.pwr.plPin.getD 3)

/-- A change of level begins (R672). -/
def startLevel (new : Nat) (ref : Option CmdRef) (s : Hub) : Hub :=
  setPwr (fun p => { p with plTarget := new, dvfs := some { old := p.pl, new := new, step := if new < p.pl then .voltage else .waitRapid, ref := ref } }) s

/-! ## Profile changes (R32, R59, R541) -/

/-- A profile change is over. -/
def profileDone (run : ProfileRun) (st : Status) (s : Hub) : Hub :=
  let s := setPwr (fun p => { p with run := none, profile := if st = .ok then run.new else run.old }) s
  let s := if st = .ok then powerNotice chipSrc 0x02 s.pwr.pl s.pwr.pl 0 s else s
  finish run.ref st [⟨8, 1, s.pwr.profile⟩, ⟨9, 1, s.pwr.pl⟩] [] s

/-- No group is held at a width above what a level supports (R273). -/
def widthsFit (s : Hub) (pl : Nat) : Bool :=
  (List.range 8).all (fun r => (s.items r).all (fun i => decide (i.width ≤ widthAt pl) || i.groups.isEmpty))

/-- Granted turns are within a region's number everywhere (R59). -/
def turnsFit (s : Hub) : Bool := (List.range 8).all (fun r => decide (turnsUsed s r ≤ (s.region r).turns))

/-- A level has settled: what waits for it goes on. -/
def levelDone (d : Dvfs) (s : Hub) : Hub :=
  let s := powerNotice chipSrc 0x01 d.new d.old 0 (setPwr (fun p => { p with pl := d.new, dvfs := none }) s)
  let s := finishOpt d.ref .ok [⟨8, 1, d.new⟩, ⟨9, 1, s.pwr.plPin.getD 0xFF⟩] s
  match s.pwr.run with
  | some x =>
    if x.step = .raising then setPwr (fun p => { p with run := some { x with step := .widening } }) s
    else if x.step = .lowering then profileDone x .ok s
    else s
  | none => s

/-- A change of level fails (R541, R587, R653, R674): FCLK at the lower-performance frequency, the higher voltage once more. -/
def levelFailed (s : Hub) : Hub :=
  match s.pwr.dvfs with
  | none => s
  | some d =>
    let hi := min d.old d.new
    let s := setPwr (fun p => { p with dvfs := none, plTarget := p.pl, dvfsFail := true, setMv := levelMv s hi }) s
    let s := { s.emit (.avs (levelMv s hi)) with clk := { s.clk with fclkDiv := levelDiv (max d.old d.new) } }
    let s := powerNotice chipSrc 0x05 s.pwr.pl s.pwr.pl 0 s
    let s := finishOpt d.ref .internal [⟨8, 1, s.pwr.pl⟩, ⟨9, 1, s.pwr.plPin.getD 0xFF⟩] s
    match s.pwr.run with
    | some x => profileDone x .internal s
    | none => s

/-- The profile steps of a slot boundary (R59): streaming changes there, and a narrowing goes on to its level once the turns fit. -/
def profileAtSlot (s : Hub) : Hub :=
  let s := match s.pwr.run with
    | some x => if x.step = .widening then profileDone x .ok s
                else if x.step = .narrowing then setPwr (fun p => { p with profile := x.new, run := some { x with step := .draining } }) s
                else s
    | none => s
  let t := if s.clk.fpll.coast then 0 else turnsOf s.pwr.profile
  let s := forRegions (fun r s => s.setRegion r (fun x => { x with turns := t })) s
  match s.pwr.run with
  | some x =>
    if x.step = .draining ∧ turnsFit s then
      let l := levelFor s x.new
      if l = s.pwr.pl then profileDone x .ok s
      else startLevel l none (setPwr (fun p => { p with run := some { x with step := .lowering } }) s)
    else s
  | none => s

/-- A bay with a class V token ENGAGED or beyond (R33). -/
def vServed (s : Hub) : Bool :=
  (List.range 128).any (fun b =>
    let x := s.bay b
    (x.st == .engaged || x.st == .charging || x.st == .wrapping) && x.dlgV.isSome)

/-- PROFILE_SET (R31 to R33, R541). -/
def profileSet (q : Req) (c : CmdRef) (s : Hub) : Reply × Hub :=
  let p := fld q.payload 0 1
  if 3 < p then fail .badParam s
  else if s.pwr.run.isSome ∨ s.pwr.dvfs.isSome then fail .busy s
  else if p = s.pwr.profile then (.done .ok [⟨8, 1, p⟩, ⟨9, 1, s.pwr.pl⟩] [], s)
  else if p = patrolProfile ∧ vServed s then fail .wrongState s
  else
    let go := fun (st : ProfileStep) (s : Hub) => setPwr (fun x => { x with run := some { new := p, old := x.profile, step := st, ref := c } }) s
    if s.pwr.profile < p then (.later, go .narrowing s)
    else if s.pwr.pl ≤ levelFor s p then (.later, go .widening s)
    else (.later, startLevel (levelFor s p) none (go .raising s))

/-- The command table's row of PROFILE_SET. -/
def specProfileSet : Spec :=
  { op := 0x0105, lc := lcFCF, len := len 4, reserved := [1, 2, 3] }

def execProfileSet (q : Req) : State → Turn := onHub fun s => .next (hostCommand specProfileSet profileSet q s)

/-- PL_SET (R31, R587). -/
def plSet (q : Req) (c : CmdRef) (s : Hub) : Reply × Hub :=
  let p := fld q.payload 0 1
  let need := s.pwr.profile
  if 3 < p then fail .badParam s
  else if s.pwr.run.isSome ∨ s.pwr.dvfs.isSome then fail .busy s
  else if need < p then fail .wrongState s
  else
    let s := setPwr (fun x => { x with plPin := if p = need then none else some p }) s
    let l := levelFor s need
    if l = s.pwr.pl then (.done .ok [⟨8, 1, l⟩, ⟨9, 1, s.pwr.plPin.getD 0xFF⟩] [], s) else (.later, startLevel l (some c) s)

/-- The command table's row of PL_SET. -/
def specPlSet : Spec :=
  { op := 0x0504, lc := lcFCF, len := len 4, reserved := [1, 2, 3] }

def execPlSet (q : Req) : State → Turn := onHub fun s => .next (hostCommand specPlSet plSet q s)

/-! ## The DVFS sequencer (R672 to R675) -/

def setDvfs (f : Dvfs → Dvfs) (s : Hub) : Hub := setPwr (fun p => { p with dvfs := p.dvfs.map f }) s

/-- The voltage write of a change (R673). -/
def writeVoltage (d : Dvfs) (s : Hub) : Hub :=
  let mv := levelMv s d.new
  setDvfs (fun d => { d with step := .settle }) (setPwr (fun p => { p with setMv := mv }) (s.emit (.avs mv)))

/-- One step of a change of level, in the order of R672. A region power switch closes within the step of its row, so none is closing here (R675). -/
def dvfsStep (d : Dvfs) (s : Hub) : Hub :=
  let up := decide (d.new < d.old)
  match d.step with
  | .waitRapid => if widthsFit s d.new then setDvfs (fun d => { d with step := .divider }) s else s
  | .voltage => writeVoltage d s
  | .settle => s
  | .assist =>
    let s := setPwr (fun p => { p with readAssist := assistAt d.new }) s
    setDvfs (fun d => { d with step := if up then .bias else .voltage }) s
  | .bias =>
    let s := setPwr (fun p => { p with fbb := biasAt d.new }) s
    setDvfs (fun d => { d with step := if up then .divider else .assist }) s
  | .divider =>
    let s := { s with clk := { s.clk with fclkDiv := levelDiv d.new } }
    if up then levelDone d s else setDvfs (fun d => { d with step := .bias }) s

end Sys2Proof.Machine
end

