-- ==== Sys2Proof/Machine/Drain.lean ====
section
/-! DEFINITION. How the work of a region is given up: the items a quarantine discards (R623), the items a drain moves, ends and pre-empts (R625,
R626, R637), and what is taken up again (R639, R640). -/

namespace Sys2Proof.Machine

/-! ## Giving up one item -/

/-- A discarded item gives its UWB chain back: RF_STANDBY to the head (R623). -/
def standbyFor (i : Item) (s : Hub) : Hub := if i.granted && i.needs.uwb then sendStandby i.bay (unstage i.bay i.q s) else s

/-- A reader transaction or a host exchange that an item runs or waits for ends. -/
def dropExchange (i : Item) (st : Status) (s : Hub) : Hub :=
  let b := i.bay
  let s := setPoll b (fun p => { p with detuneTo := none }) s
  if ((s.bay b).hf.txn.map (fun t => t.q == i.q)).getD false then failTxn b st s else exchangeLate b i.q s st

/-- A meter request of a session loses its item and waits; one of the host ends (R554, R623). -/
def dropMeter (b : Nat) (st : Status) (s : Hub) : Hub :=
  let s := dropMeterItem b s
  match (s.rel b).req with
  | some q =>
    if q.kind = .spot then finishOpt q.ref st [] (setRel b (fun r => { r with req := none }) s)
    else setRel b (fun r => { r with req := some { q with deadline := 0 } }) s
  | none => s

/-- An item ends without running on, and what ran it ends with a status; takes and exchanges end STOPPED and are not evaluated (R623, R626). -/
def discardItem (st : Status) (i : Item) (s : Hub) : Hub :=
  let b := i.bay
  let r := regionOf b
  let s := standbyFor i s
  match i.what with
  | .take => abandonTake b st (dropItem r i.q s)
  | .rapid => abandonTake b st (dropItem r i.q s)
  | .listen _ _ =>
    (match listenFor s i with
     | some l => declineListen l s
     | none => dropItem r i.q s)
  | .measure _ => endMeasure b st 0x8000 0x8000 s
  | .hfPoll => dropItem r i.q (dropExchange i st s)
  | .authPass =>
    dropItem r i.q (setHf b (fun h => { h with txn := match h.txn with
      | some t => if t.kind = 2 ∧ i.tclass = 1 then none else some t
      | none => none }) s)
  | .meterReq => dropMeter b st s
  | .calibrate => dropItem r i.q (setRadio b (fun x => { x with calDue := false }) s)
  | .tagTxn => endOwnership b s
  | .lfTelegram => dropItem r i.q s
  | .hfPing => dropItem r i.q s
  | .listenFree => dropItem r i.q s
  | .listenLinked _ => dropItem r i.q s

/-- Every item of a region, queued and running. -/
def discardAll (r : Nat) (st : Status) (s : Hub) : Hub :=
  let s := (s.items r).foldl (fun s i => match s.item r i.q with
    | some j => discardItem st j s
    | none => s) s
  (s.items r).foldl (fun s i => dropItem r i.q s) s

/-! ## Draining (R637) -/

/-- A queued take of an open session waits with its due slot: one of the continuity grid falls due again, one of the host is planned again. -/
def parkTake (b : Nat) (s : Hub) : Hub :=
  match (s.bay b).take with
  | none => s
  | some t =>
    let s := cancelListens b t s
    if t.ref.isSome then modTake b (fun t => { t with q := queuesTotal }) s
    else
      let s := s.setBay b (fun x => { x with take := none, rapid := none })
      modDlg b .v (fun d =>
        if t.continuity then { d with contHeld := true, nextDue := some t.due, gridCount := d.gridCount - 1 } else { d with nextDue := some t.due }) s

/-- A queued exchange of an open session cannot follow its take any more: R734's rule owes another, and the take is evaluated without it. -/
def parkRapid (b : Nat) (s : Hub) : Hub :=
  let s := modDlg b .v (fun d => { d with rapidOwed := true }) s
  let s := modTake b (fun t => { t with rapid := false }) (s.setBay b (fun x => { x with rapid := none }))
  match (s.bay b).take with
  | some t => if t.closed then evaluate b s else s
  | none => s

/-- Is the item an open session's? -/
def ofSession (s : Hub) (i : Item) : Bool :=
  let x := s.bay i.bay
  match i.what with
  | .take => (x.dlgV.map (inSession x)).getD false
  | .rapid => (x.dlgV.map (inSession x)).getD false
  | .meterReq => x.sess.isSome
  | .lfTelegram => false | .hfPing => false | .hfPoll => false | .listenFree => false | .listenLinked _ => false | .calibrate => false
  | .measure _ => false | .authPass => false | .listen _ _ => false | .tagTxn => false

/-- A queued item of a draining region. -/
def drainItem (i : Item) (s : Hub) : Hub :=
  let b := i.bay
  let r := regionOf b
  if ofSession s i then
    match i.what with
    | .take => parkTake b (dropItem r i.q s)
    | .rapid => parkRapid b (dropItem r i.q s)
    | .meterReq => dropMeterItem b s
    | .lfTelegram => s | .hfPing => s | .hfPoll => s | .listenFree => s | .listenLinked _ => s | .calibrate => s | .measure _ => s
    | .authPass => s | .listen _ _ => s | .tagTxn => s
  else discardItem .wrongState i s

/-- A dialogue runs no item. -/
def dlgIdle (s : Hub) (b : Nat) (k : TokenClass) : Bool := (s.bayItems b).all (fun i => !(i.granted && i.ofDialogue k))

/-- Dialogues without an open session end once none of their items runs. -/
def endIdleDialogues (b : Nat) (s : Hub) : Hub :=
  [TokenClass.v, .c, .f].foldl (fun s k =>
    match (s.bay b).dlg k with
    | some d => if inSession (s.bay b) d || !dlgIdle s b k then s else endDialogue b k .dialogueEnd s
    | none => s) s

/-- The queued items of a draining region, and its dialogues. -/
def drainQueued (r : Nat) (s : Hub) : Hub :=
  let s := ((s.items r).filter (fun i => !i.granted)).foldl (fun s i => match s.item r i.q with
    | some j => if j.granted then s else drainItem j s
    | none => s) s
  forBays r endIdleDialogues s

/-- An item that still runs 50 ms after the entry is pre-empted and ends (R55, R637): takes and exchanges STOPPED. -/
def preemptItem (i : Item) (s : Hub) : Hub :=
  let b := i.bay
  match i.what with
  | .take => failTake b .stopped .internal s
  | .rapid => endRapid b .stopped .internal s
  | .lfTelegram => discardItem .wrongState i s
  | .hfPing => discardItem .wrongState i s
  | .hfPoll => discardItem .wrongState i s
  | .listenFree => discardItem .wrongState i s
  | .listenLinked _ => discardItem .wrongState i s
  | .calibrate => discardItem .wrongState i s
  | .measure _ => discardItem .wrongState i s
  | .authPass => discardItem .wrongState i s
  | .listen _ _ => discardItem .wrongState i s
  | .meterReq => dropMeter b .wrongState s
  | .tagTxn => discardItem .wrongState i s

/-! ## Taking up again -/

/-- A host's take that waited is planned anew. -/
def resumeTake (b : Nat) (s : Hub) : Hub :=
  match (s.bay b).take with
  | some t =>
    if t.stage = .planned ∧ t.q = queuesTotal then
      let n := firstOpenSlot s (regionOf b)
      let p := planTake b { due := n, latest := n + (t.latest - t.due), continuity := t.continuity, rapid := t.rapid, noListen := t.noListen
                            ref := t.ref, room := t.room } s
      if p.1 then p.2 else abandonTake b .noResource p.2
    else s
  | none => s

/-- A bay whose release is back with the sequencer, or whose region is ACTIVE again: due continuity takes, the host's take and the meter request
that waited (R625, R626, R639). -/
def resumeBay (b : Nat) (s : Hub) : Hub := resumeMeter b (resumeTake b (continuityDue b s))

end Sys2Proof.Machine
end

