-- ==== Sys2Proof/Machine/Store.lean ====
section
/-! DEFINITION. The credential store and fleets (R362 to R386): finding and counting slots, credential records, a slot's end, and the switch of a
committed bulk load at slot boundaries (R386). -/

namespace Sys2Proof.Machine

/-! ## Slots and fleets -/

/-- Slots of the store (R362). -/
def credSlots : Nat := 262144

/-- The first slot of number `n` or above that a table of slots leaves free, its keys in rising order. -/
def firstFree : Nat → Tab Cred → Nat
  | n, [] => n
  | n, (i, c) :: r => if i < n then firstFree n r else if n < i ∨ c.valid = false then n else firstFree (i + 1) r

/-- Slots of a fleet with VALID set and RETIRING clear: ENROLLED (R370). -/
def enrolled (s : Hub) (f : Nat) : Nat := (s.creds.slots.filter (fun p => p.2.valid && !p.2.retiring && p.2.fleet == f)).length

def fleetOf (s : Hub) (f : Nat) : Fleet := Tab.get {} s.nv.fleets f

def setCreds (f : CredStore → CredStore) (s : Hub) : Hub := { s with creds := f s.creds }

/-- The limit of ENROL_COUNT (R371). -/
def enrolMax : Nat := 16777216

/-! ## Records (R376) -/

/-- CLASS, FLEET and the reserved FLAGS bits of a record. -/
def recordOk (l : List Byte) : Bool := decide (fld l 10 1 ≤ 2) && decide (fld l 8 2 ≤ 4095) && decide (fld l 11 1 < 4)

/-- K of a record, unwrapped under K_ENROL. -/
def recordKey (s : Hub) (l : List Byte) : Option (BitVec 128) :=
  let k := vaultKey s 0x03 0
  if k.present then
    match Config.kwUnwrap (BitVec.ofNat 256 k.val) ((l.drop 16).take 24) with
    | some b => if b.length = 16 then some (BitVec.ofNat 128 (beNat b)) else none
    | none => none
  else none

/-- What a record puts into a slot. -/
def recordCred (l : List Byte) (key : BitVec 128) : Cred :=
  { tokenId := fld l 0 8, fleet := fld l 8 2, cls := classOf (fld l 10 1), spc3 := bit (fld l 11 1) 0, suspended := bit (fld l 11 1) 1
    valid := true, fobCounter := if fld l 10 1 = 2 then fld l 12 4 else 0, key := key, validFrom := fld l 40 8, validUntil := fld l 48 8
    hostRef := fld l 56 8 }

/-- Does a record count as an enrol operation (R373)? -/
def counts (old new : Cred) : Bool := !old.valid || old.key != new.key

/-- A slot takes a record (R378, R569); `no` is the ENROL_NO of a counted one. -/
def enrolInto (old new : Cred) (no : Nat) : Cred :=
  if !old.valid then { new with enrolNo := no }
  else
    { new with inSession := old.inSession, lastAuth := old.lastAuth, failRun := old.failRun
               fobCounter := if counts old new then new.fobCounter else old.fobCounter
               enrolNo := if counts old new then no else old.enrolNo }

/-! ## A slot's token goes -/

/-- Authorisations that rest on a slot and have opened no session, and its dialogues without an open session, end (R379). -/
def dropToken (slot : Nat) (s : Hub) : Hub :=
  forAllBays (fun b s =>
    let s := match (s.bay b).sess with
      | some y => if y.authorizing ∧ y.opened = false ∧ y.slots.contains slot then abortAuth b .wrongState s else s
      | none => s
    [TokenClass.v, .c, .f].foldl (fun s k =>
      match (s.bay b).dlg k with
      | some d => if d.slot = slot ∧ inSession (s.bay b) d = false then endDialogue b k .dialogueEnd s else s
      | none => s) s) s

/-! ## Switching a bulk load (R386) -/

/-- Blocks switched at one slot boundary. -/
def switchMax : Nat := 64

/-- Classes of item whose run holds its slot's block back. -/
def holdsBlock (k : Nat) (i : Item) : Bool :=
  i.granted && i.step != 0 && decide (i.cred ≠ 0x3FFFF) && decide (i.cred / 32 = k) &&
    (match i.what with
     | .authPass => true | .take => true | .rapid => true
     | .lfTelegram => false | .hfPing => false | .hfPoll => false | .listenFree => false | .listenLinked _ => false | .calibrate => false
     | .measure _ => false | .listen _ _ => false | .meterReq => false | .tagTxn => false)

/-- An item whose CRED lies in a block runs. -/
def blockHeld (s : Hub) (k : Nat) : Bool := (List.range 8).any (fun r => (s.items r).any (holdsBlock k))

/-- Another token, or none, takes the slot. -/
def losesToken (old new : Cred) : Bool :=
  old.valid && (!new.valid || old.cls != new.cls || old.tokenId != new.tokenId) && !old.inSession

/-- One block is switched, and the tokens that leave it end their dialogues. -/
def switchBlock (k : Nat) (s : Hub) : Hub :=
  let new := (blockSlots k).map (fun i => (i, nextCred s i))
  let gone := (new.filter (fun p => losesToken (s.cred p.1) p.2)).map (·.1)
  let s := new.foldl (fun s p => setCred p.1 (fun _ => p.2) s) s
  let s := setCreds (fun c => { c with switch := c.switch.map (fun (x : BulkSwitch) => { x with blocks := x.blocks.filter (· != k) }) }) s
  gone.foldl (fun s i => dropToken i s) s

/-- The last block is switched: the load is closed and its command completes. -/
def switchDone (s : Hub) : Hub :=
  match s.creds.switch with
  | some x =>
    if x.blocks = [] then finish x.ref .ok x.res [] (setCreds (fun c => { c with switch := none, bulk := none }) s) else s
  | none => s

/-- The switch at a slot boundary. -/
def bulkAtSlot (s : Hub) : Hub :=
  match s.creds.switch with
  | some x => switchDone (((x.blocks.filter (fun k => !blockHeld s k)).take switchMax).foldl (fun s k => switchBlock k s) s)
  | none => s

end Sys2Proof.Machine
end

