-- ==== Sys2Proof/Machine/CallSheet.lean ====
section
/-! DEFINITION. The call sheet as it runs (R46 to R59): the freeze, the slot boundary with what takes effect there (R59, R312, R325, R356, R386, R555),
and the faults of cells and engines (R38, R40, R614 to R617). -/

namespace Sys2Proof.Machine

/-! ## REGION_STATE (R630) -/

def RegionSt.code : RegionSt → Nat
  | .active => 0 | .draining => 1 | .splicing => 2 | .quarantined => 3 | .off => 4

def RegionReason.code : RegionReason → Nat
  | .none_ => 0 | .host => 1 | .watchdog => 2 | .queueEcc => 3 | .imageIncompatible => 4 | .spliceFailed => 5 | .splice => 6 | .autoRestart => 7
  | .restore => 8 | .power => 9 | .engineLost => 0xA | .proxyLimit => 0xB

/-- Bays of a region for which a condition holds. -/
def countBays (s : Hub) (r : Nat) (f : Bay → Bool) : Nat := ((baysOf r).filter (fun b => f (s.bay b))).length

/-- REGION_STATE. -/
def regionNotice (r : Nat) (new old : RegionSt) (why : RegionReason) (s : Hub) : Hub :=
  let x := s.region r
  notice 0x0301 (regionSrc r)
    [⟨16, 1, new.code⟩, ⟨17, 1, old.code⟩, ⟨18, 1, why.code⟩, ⟨19, 1, flags [x.quarRelease == .proxy, x.masked, x.restartLimit]⟩,
     ⟨20, 4, x.running⟩, ⟨24, 2, countBays s r (fun b => b.st == .charging || b.st == .wrapping)⟩,
     ⟨26, 2, countBays s r (fun b => b.rel.supervisor)⟩, ⟨28, 4, x.spanMs⟩, ⟨32, 4, x.restarts⟩, ⟨36, 1, (enginesOffering x).length⟩] s

/-! ## Cells and engines (R38, R40, R614 to R617) -/

/-- An item whose group's evidence is invalid (R40, R41). -/
def invalidateItem (i : Item) (s : Hub) : Hub :=
  match i.what with
  | .take => invalidateTake i.bay s
  | .rapid => invalidateRapid i.bay s
  | .listen _ _ => sendStandby i.bay (declineItem i s)
  | .lfTelegram => s | .hfPing => s | .hfPoll => s | .listenFree => s | .listenLinked _ => s | .calibrate => s | .measure _ => s | .authPass => s
  | .meterReq => s | .tagTxn => s

/-- The items that hold group `g` of engine `e`, or any group of it. -/
def holders (s : Hub) (r e : Nat) (g : Option Nat) : List Item :=
  (s.items r).filter (fun i => i.engine == some e && (match g with
    | some g => i.groups.contains g
    | none => !i.groups.isEmpty))

/-- The logical position of a cell: by the map, or its own number where no spare replaces it. -/
def Engine.posOf (e : Engine) (c : Nat) : Option Nat :=
  match e.map.find? (fun p => p.2 == c) with
  | some p => some p.1
  | none => if c < 128 ∧ !e.map.any (fun p => p.1 == c) ∧ !e.retired.contains c then some c else none

/-- A cell is retired: a spare takes its place at once, or, where its group is allocated, when the group is next allocated. -/
def Engine.retire (e : Engine) (c : Nat) : Engine :=
  if e.retired.contains c then e
  else
    let p := e.posOf c
    let e := { e with retired := e.retired ++ [c], map := e.map.filter (fun m => m.2 != c) }
    match p with
    | none => e
    | some p => if e.held.contains (p / 8) then { e with remap := e.remap ++ [p], invalid := e.invalid ++ [p / 8] } else e.remapOne p

def modEngine (r e : Nat) (f : Engine → Engine) (s : Hub) : Hub := s.setRegion r (fun x => { x with engines := modNth x.engines e f })

/-- An engine that falls below 4 groups offered is told (R617). -/
def tellEngine (r e : Nat) (before : Nat) (s : Hub) : Hub :=
  let x := s.region r
  if 4 ≤ before ∧ (nth {} x.engines e).offered.length < 4 then regionNotice r x.st x.st .engineLost s else s

/-- A cell fails: it is retired, and what its group correlates loses its evidence. -/
def cellFails (r e c : Nat) (s : Hub) : Hub :=
  let x := nth {} (s.region r).engines e
  let g := (x.posOf c).map (· / 8)
  let hit := match g with
    | some g => holders s r e (some g)
    | none => []
  let s := modEngine r e (fun x => x.retire c) s
  tellEngine r e x.offered.length (hit.foldl (fun s i => invalidateItem i s) s)

/-- An engine of a region: in a fused-off region nothing happens (R3). -/
def atEngine (r e : Nat) (s : Hub) (f : Hub → Hub) : Res := if r < 8 ∧ e < 8 then .next (when_ (s.regionPresent r) f s) else .fault .noSuchUnit

/-- CELL_FAILURE (R38, R40): a cell fails its parity check or self-test. -/
def execCellFailure (r e c : Nat) : State → Turn := onHub fun s =>
  if c < 136 then atEngine r e s (fun s => if (nth {} (s.region r).engines e).retired.contains c then s else cellFails r e c s) else .fault .noSuchUnit

/-- GROUP_SELF_TEST (R614): a free group is tested; the cells of `bad` that it uses fail. -/
def execGroupSelfTest (r e g : Nat) (bad : List Nat) : State → Turn := onHub fun s =>
  if g < 16 then
    atEngine r e s (fun s =>
      let x := nth {} (s.region r).engines e
      if x.held.contains g || x.out then s
      else
        let mine := bad.filter (fun c => (x.posOf c).map (· / 8) == some g)
        mine.foldl (fun s c => cellFails r e c s) s)
  else .fault .noSuchUnit

/-- ENGINE_LOST (R616, R617): the ToA detector or AoA estimator of an engine fails. -/
def execEngineLost (r e : Nat) : State → Turn := onHub fun s =>
  atEngine r e s (fun s =>
    if (nth {} (s.region r).engines e).out then s
    else
      let hit := holders s r e none
      let s := hit.foldl (fun s i => invalidateItem i s) (modEngine r e (fun x => { x with out := true }) s)
      regionNotice r (s.region r).st (s.region r).st .engineLost s)

/-! ## The freeze (R48, R51) -/

/-- The call sheet of a region plans while its sequencer runs, in S0. What it may plan at a bay `bayPlans` says. -/
def sheetRuns (s : Hub) (r : Nat) : Bool :=
  let x := s.region r
  decide (x.power = .s0) && x.seqRuns && !x.halted && !bit s.boot.regHeld r && decide (x.st ≠ .off)

/-- What falls due by slot `n` enters the call sheet. -/
def fallDue (r n : Nat) (s : Hub) : Hub :=
  if (s.region r).st ≠ .active then s else forBays r (fun b s => duePolls n b (arrivalTake b n s)) s

/-- PLAN_FREEZE (R48, R51 to R59): from 25 µs before the boundary, the next slot is planned once. -/
def execPlanFreeze (r : Nat) : State → Turn := onHub fun s =>
  atRegion r s (fun s =>
    let n := s.slot + 1
    if !sheetRuns s r || decide (n < (s.region r).frozen) || decide (s.ticks + ticksUs 25 < n * slotTicks) then s
    else
      let s := planSlot r n (fallDue r n s)
      s.setRegion r (fun x => { x with frozen := n + 1 }))

/-! ## What takes effect at a boundary -/

/-- Coexistence settings (R166, R555). -/
def coexAtSlot (r : Nat) (s : Hub) : Hub :=
  let s := setCoex r (fun c => match c.pending with
    | some true => { c with pending := none, enabled := true }
    | some false => { c with pending := none, enabled := false, req := false, pri := false, covered := [], clear := [] }
    | none => c) s
  forBays r tryTest s

/-- Reserved engines as RAPID_RESERVE reports them (R588). -/
def reservedFields (s : Hub) : List Fld := (List.range 8).map (fun r => ⟨8 + r, 1, (reservedEngine s r).getD 0xFF⟩)

/-- The rapid-exchange reserve (R312, R588): the changes that wait, in the order in which they came. -/
def reserveAtSlot (s : Hub) : Hub :=
  s.reserveNext.foldl (fun s p => let s := { s with reserve := p.1 }; finish p.2 .ok (reservedFields s) [] s) { s with reserveNext := [] }

/-- The pair of a dialogue restarts with a new geometry (R325). -/
def restartPair (b : Nat) (s : Hub) : Hub :=
  match (s.bay b).dlgV with
  | some d =>
    if d.verdict = .bound ∨ d.pairFrom = none then s
    else bindNotice b .v d d.verdict d.verdict .none_ 0 {} (modDlg b .v (fun d => { d with pairFrom := none }) s)
  | none => s

/-- A geometry takes effect (R325, R540); the neighbours hear of it (R351). -/
def geomTakesEffect (g : Geometry) (c : CmdRef) (s : Hub) : Hub :=
  let s := forAllBays restartPair { s with geom := some g }
  let s := if s.casc.lower.state = .up then sendChello .lower s else s
  let s := if s.casc.upper.state = .up then sendChello .upper s else s
  finish c .ok [⟨8, 4, g.version⟩, bytesFld 12 (hashBytes g.digest)] [] s

/-- The geometries that wait, in the order in which they came. -/
def geomAtSlot (s : Hub) : Hub := s.geomNext.foldl (fun s p => geomTakesEffect p.1 p.2 s) { s with geomNext := [] }

/-! ## Items at a boundary -/


/-- An item whose LATEST has passed before it was granted (R54). A pass of an authentication or an attempt at a meter request that ends so counts
as one that got no answer (R394, R439). -/
def expireItem (i : Item) (s : Hub) : Hub :=
  let b := i.bay
  let r := regionOf b
  match i.what with
  | .lfTelegram => skipItem i s
  | .hfPing => skipItem i s
  | .listenFree => skipItem i s
  | .listenLinked _ => skipItem i s
  | .calibrate => skipCal i s
  | .hfPoll => if i.isHk then afterPoll b false (skipItem i s) else exchangeLate b i.q s
  | .measure _ => endMeasure b .txLate 0 0 s
  | .authPass => markOutcome b .authPass .txLate (passUnanswered 3 b (if i.tclass = 1 then .c else .v) s)
  | .take => failTake b .notRun .txLate s
  | .listen _ _ => declineItem i s
  | .rapid => endRapid b .notRun .txLate s
  | .meterReq => markOutcome b .meterReq .txLate (meterFailed b s)
  | .tagTxn => dropItem r i.q s

/-- A run of fixed length is over, or a telegram has reached TE (R182, R183). -/
def endItem (n : Nat) (i : Item) (s : Hub) : Hub :=
  let b := i.bay
  let r := regionOf b
  if i.runEnd ≠ 0 ∧ i.runEnd ≤ n then
    match i.what with
    | .lfTelegram => telegramDone b i.q s
    | .hfPing => pingDone b i.q s
    | .listenFree => windowDone b i.q s
    | .listenLinked _ => windowDone b i.q s
    | .calibrate => settleRole b (dropItem r i.q s)
    | .hfPoll => s | .measure _ => s | .authPass => s | .take => s | .listen _ _ => s | .rapid => s | .meterReq => s | .tagTxn => s
  else if i.what = .lfTelegram ∧ i.step = 1 ∧ i.start + telegramSlots ≤ n then telegramSent b i (modItem r i.q (fun i => { i with step := 2 }) s)
  else
    match i.what with
    | .measure _ => if i.step = 1 ∧ i.start + 20 ≤ n then endMeasure b .internal 0 0 s else s
    | .rapid => if i.start + 3 ≤ n then rapidOver b i.q s else s
    | _ => s

/-- A meter request is sent (R438, R439). -/
def startMeterReq (b : Nat) (s : Hub) : Hub :=
  match (s.rel b).req with
  | some q => sendMeterReq b (kindCode q.kind) q.nonce (setRel b (fun r => { r with req := some { q with deadline := s.now + ms 200 } }) s)
  | none => dropMeterItem b s

/-- An item begins in its slot. -/
def startItem (i : Item) (s : Hub) : Hub :=
  let b := i.bay
  let r := regionOf b
  let held := s
  let s := modItem r i.q (fun i => { i with step := 1, retries := i.retries + 1, outcome := 0 }) s
  match i.what with
  | .lfTelegram =>
    if bit (s.bay b).poll.cfg.lfCmd 1 && !mayAir s r i.q then coexDefer r i.q held else startTelegram b i.q s
  | .hfPing => startPing b i.q s
  | .hfPoll => if i.isHk then startPoll b i.q s else startExchange b i.q s
  | .listenFree => startWindow b i.q s
  | .listenLinked _ => startWindow b i.q s
  | .calibrate => startCal b i.q s
  | .measure hf => startMeasure b i.q hf s
  | .authPass => startPass b i.q (if i.tclass = 1 then .c else .v) s
  | .take => startTake b i.q s
  | .listen h k =>
    if isUp s b then startListen b i.q h k s else declineItem i s
  | .rapid => toRx b i.q (needChannel b s)
  | .meterReq => startMeterReq b s
  | .tagTxn => s

/-- The items of a region at the boundary of slot `n`: ends, LATEST, and starts. -/
def itemsAtSlot (n r : Nat) (s : Hub) : Hub :=
  if !sheetRuns s r then s
  else
    let each := fun (p : Item → Bool) (f : Item → Hub → Hub) (s : Hub) =>
      ((s.items r).filter p).foldl (fun s i => match s.item r i.q with
        | some j => if p j then f j s else s
        | none => s) s
    let s := if (s.region r).st = .draining then drainQueued r s else s
    let s := each (fun i => i.granted && decide (i.start ≤ n)) (endItem n) s
    let s := each (fun i => !i.granted && decide (i.latest < n)) expireItem s
    each (fun i => i.granted && i.step == 0 && decide (i.start ≤ n) && decide (i.what ≠ .tagTxn)) startItem s

/-- A bay goes OFFLINE by its disable (R203, R539), once no session is open there. -/
def disabled (b : Nat) (s : Hub) : Hub :=
  let ref := (s.bay b).link.disableRef
  let s := setLink b (fun l => { l with enabled := false, disableDue := false, disableRef := none, trainFails := 0 }) s
  finishOpt ref .ok [] (takeDown b .hostDisable s)

/-- A listen gap ends (R224), the coil takes its role, and the bay goes on by R203. -/
def bayAtSlot (b : Nat) (s : Hub) : Hub :=
  let h := (s.bay b).hf
  let ended := match h.gapTo with
    | some t => decide (t ≤ s.now) && !h.owned
    | none => false
  let s := if ended then setHf b (fun h => { h with gapTo := none }) s else s
  let s := if (s.bay b).link.disableDue ∧ (s.bay b).sess = none then disabled b s else s
  if (s.bay b).link.state = .up then advanceBay b (settleRole b s) else s

/-- SLOT_BOUNDARY (R46 and what takes effect there). -/
def execSlotBoundary : State → Turn := onHub fun s =>
  .next (
    if s.slot < s.slotDone ∨ !s.fwReady then s
    else
      let s := stepClapper s
      let n := s.slot
      let s := { s with slotDone := n + 1 }
      -- requests that waited when the RNG went away end here, or are served by the new instance (log entry 186)
      let s := serveDraws s
      let s := geomAtSlot (reserveAtSlot (profileAtSlot (bulkAtSlot s)))
      let s := forRegions coexAtSlot s
      let s := forRegions (itemsAtSlot n) s
      forAllBays bayAtSlot s)

end Sys2Proof.Machine
end

