-- ==== Sys2Proof/Machine/Geometry.lean ====
section
/-! DEFINITION. The geometry blob (R321 to R324): its layout, and the tests that a polygon is simple and counter-clockwise and that no two
overlap in area, in exact arithmetic. -/

namespace Sys2Proof.Machine

abbrev Pt := Int × Int

/-! ## Polygons -/

/-- Twice the signed area of the triangle a, b, c. -/
def cross (a b c : Pt) : Int := (b.1 - a.1) * (c.2 - a.2) - (b.2 - a.2) * (c.1 - a.1)

/-- The edges of a polygon. -/
def edges (l : List Pt) : List (Pt × Pt) :=
  match l with
  | [] => []
  | a :: r => List.zip (a :: r) (r ++ [a])

/-- Twice the signed area: positive when counter-clockwise. -/
def area2 (l : List Pt) : Int := ((edges l).map (fun e => e.1.1 * e.2.2 - e.1.2 * e.2.1)).foldl (· + ·) 0

/-- `p` lies within the bounding box of a segment. -/
def inBox (e : Pt × Pt) (p : Pt) : Bool :=
  decide (min e.1.1 e.2.1 ≤ p.1) && decide (p.1 ≤ max e.1.1 e.2.1) && decide (min e.1.2 e.2.2 ≤ p.2) && decide (p.2 ≤ max e.1.2 e.2.2)

/-- `p` lies on a segment. -/
def onSeg (e : Pt × Pt) (p : Pt) : Bool := decide (cross e.1 e.2 p = 0) && inBox e p

/-- Two segments share a point. -/
def segsMeet (e f : Pt × Pt) : Bool :=
  let a := cross e.1 e.2 f.1
  let b := cross e.1 e.2 f.2
  let c := cross f.1 f.2 e.1
  let d := cross f.1 f.2 e.2
  (decide ((0 < a ∧ b < 0) ∨ (a < 0 ∧ 0 < b)) && decide ((0 < c ∧ d < 0) ∨ (c < 0 ∧ 0 < d))) ||
    onSeg e f.1 || onSeg e f.2 || onSeg f e.1 || onSeg f e.2

/-- A simple polygon: edges of non-zero length, neighbours that share only their common vertex, and others that share no point. -/
def simplePolygon (l : List Pt) : Bool :=
  let es := edges l
  let n := es.length
  decide (3 ≤ n) && es.all (fun e => e.1 != e.2) &&
    (List.range n).all (fun i => (List.range n).all (fun j =>
      let e := nth ((0, 0), (0, 0)) es i
      let f := nth ((0, 0), (0, 0)) es j
      if j ≤ i then true
      else if j = i + 1 then !(onSeg e f.2 || onSeg f e.1)
      else if i = 0 ∧ j + 1 = n then !(onSeg f e.2 || onSeg e f.1)
      else !segsMeet e f))

/-- A point as numerators over one denominator. -/
structure RPt where
  x : Int
  y : Int
  d : Int
  deriving DecidableEq, Repr

/-- Where along the edge e the edge f cuts it, as a fraction with a positive denominator: proper cuts, and ends of f on e. -/
def cutsOf (e f : Pt × Pt) : List (Int × Int) :=
  let dx := e.2.1 - e.1.1
  let dy := e.2.2 - e.1.2
  let along := fun (p : Pt) => if onSeg e p then [(dx * (p.1 - e.1.1) + dy * (p.2 - e.1.2), dx * dx + dy * dy)] else []
  let c := cross f.1 f.2 e.1
  let d := cross f.1 f.2 e.2
  let proper := if c ≠ d ∧ segsMeet e f then (if 0 < c - d then [(c, c - d)] else [(-c, d - c)]) else []
  proper ++ along f.1 ++ along f.2

/-- Fractions in rising order. -/
def insertFrac (a : Int × Int) : List (Int × Int) → List (Int × Int)
  | [] => [a]
  | b :: r => if a.1 * b.2 ≤ b.1 * a.2 then a :: b :: r else b :: insertFrac a r

/-- The midpoints of the pieces into which a polygon cuts an edge. -/
def pieceMids (e : Pt × Pt) (l : List Pt) : List RPt :=
  let cuts := ((0, 1) :: (1, 1) :: (edges l).flatMap (cutsOf e)).foldl (fun l a => insertFrac a l) []
  (List.zip cuts (cuts.drop 1)).filterMap (fun p =>
    let n := p.1.1 * p.2.2 + p.2.1 * p.1.2
    let d := 2 * p.1.2 * p.2.2
    if p.1.1 * p.2.2 = p.2.1 * p.1.2 then none
    else some { x := e.1.1 * d + (e.2.1 - e.1.1) * n, y := e.1.2 * d + (e.2.2 - e.1.2) * n, d := d })

/-- Twice the signed area of an edge and a rational point, times its denominator. -/
def crossR (e : Pt × Pt) (p : RPt) : Int := (e.2.1 - e.1.1) * (p.y - e.1.2 * p.d) - (e.2.2 - e.1.2) * (p.x - e.1.1 * p.d)

/-- A rational point on an edge. -/
def onEdgeR (e : Pt × Pt) (p : RPt) : Bool :=
  decide (crossR e p = 0) && decide (min e.1.1 e.2.1 * p.d ≤ p.x) && decide (p.x ≤ max e.1.1 e.2.1 * p.d) &&
    decide (min e.1.2 e.2.2 * p.d ≤ p.y) && decide (p.y ≤ max e.1.2 e.2.2 * p.d)

/-- A rational point strictly inside a polygon: on no edge, and an odd number of crossings of a ray. -/
def insideR (l : List Pt) (p : RPt) : Bool :=
  let es := edges l
  !es.any (fun e => onEdgeR e p) &&
    (es.filter (fun e =>
      let up := decide (e.1.2 * p.d ≤ p.y) && decide (p.y < e.2.2 * p.d)
      let down := decide (e.2.2 * p.d ≤ p.y) && decide (p.y < e.1.2 * p.d)
      (up && decide (0 < crossR e p)) || (down && decide (crossR e p < 0)))).length % 2 == 1

/-- A piece of an edge runs along an edge of the other polygon in the same direction. -/
def alongSame (e : Pt × Pt) (l : List Pt) (p : RPt) : Bool :=
  (edges l).any (fun f => onEdgeR f p && decide (cross (0, 0) (e.2.1 - e.1.1, e.2.2 - e.1.2) (f.2.1 - f.1.1, f.2.2 - f.1.2) = 0) &&
    decide (0 < (e.2.1 - e.1.1) * (f.2.1 - f.1.1) + (e.2.2 - e.1.2) * (f.2.2 - f.1.2)))

/-- Two simple counter-clockwise polygons overlap in area. -/
def overlap (a b : List Pt) : Bool :=
  let half := fun (a b : List Pt) => (edges a).any (fun e => (pieceMids e b).any (fun p => insideR b p || alongSame e b p))
  half a b || half b a

/-! ## The blob (R321) -/

/-- Signed field of `n` bytes. -/
def sfld (l : List Byte) (o n : Nat) : Int := signed (8 * n) (fld l o n)

def bayRecordOf (l : List Byte) : GeoBay :=
  { hub := fld l 0 1, bay := fld l 1 1, flags := fld l 3 1, zToken := fld l 4 2, zSigma := fld l 6 2
    verts := (List.range (fld l 2 1)).map (fun k => (sfld l (8 + 8 * k) 4, sfld l (12 + 8 * k) 4))
    cand := ((List.range 8).map (fun k => (fld l (104 + 2 * k) 1, fld l (105 + 2 * k) 1))).filter (fun c => c != (0xFF, 0xFF)) }

def headRecordOf (l : List Byte) : GeoHead :=
  { hub := fld l 0 1, bay := fld l 1 1, pos := (List.range 3).map (fun k => sfld l (2 + 4 * k) 4)
    orient := (List.range 3).map (fun k => sfld l (14 + 2 * k) 2), ant := (List.range 12).map (fun k => sfld l (20 + 2 * k) 2) }

def nBays (l : List Byte) : Nat := fld l 12 2
def nHeads (l : List Byte) : Nat := fld l 14 2

/-- Length of the blob by its header. -/
def blobLength (l : List Byte) : Nat := 64 + 128 * nBays l + 64 * nHeads l + 4

/-- The geometry a blob describes. -/
def geometryOf (l : List Byte) : Geometry :=
  let nb := nBays l
  { version := fld l 4 4, hubCount := fld l 8 1, thisHub := fld l 9 1, masterHub := fld l 10 1
    bays := (List.range nb).map (fun k => bayRecordOf (l.drop (64 + 128 * k)))
    heads := (List.range (nHeads l)).map (fun k => headRecordOf (l.drop (64 + 128 * nb + 64 * k))), digest := Config.sha256 l }

/-- Fields of a blob within the ranges of R321 (assumption log). -/
def blobRanges (l : List Byte) (g : Geometry) : Bool :=
  decide (1 ≤ g.hubCount) && decide (g.hubCount ≤ 8) && decide (g.thisHub < g.hubCount) && decide (g.masterHub < g.hubCount) &&
    decide (1 ≤ nBays l) && decide (nBays l ≤ 1024) && decide (1 ≤ nHeads l) && decide (nHeads l ≤ 1024) &&
    g.bays.all (fun b => decide (b.hub < g.hubCount) && decide (b.bay < 128) && decide (3 ≤ b.verts.length) && decide (b.verts.length ≤ 12) &&
      decide (b.flags < 4) && decide (50 ≤ b.zSigma) && decide (b.zSigma ≤ 2000)) &&
    g.heads.all (fun h => decide (h.hub < g.hubCount) && decide (h.bay < 128))

/-- No two elements of a list satisfy a relation. -/
def noPair {α : Type} (f : α → α → Bool) : List α → Bool
  | [] => true
  | a :: r => r.all (fun b => !f a b) && noPair f r

/-- R322, but for the cascade identity. -/
def blobSound (s : Hub) (l : List Byte) (g : Geometry) : Bool :=
  let hasHead := fun (h b : Nat) => g.heads.any (fun x => x.hub == h && x.bay == b)
  fld l 0 4 == 0x5041524B && fld l (blobLength l - 4) 4 == crc32 (l.take (blobLength l - 4)) && blobRanges l g &&
    g.bays.all (fun b => simplePolygon b.verts && decide (0 < area2 b.verts)) && noPair (fun a b => overlap a.verts b.verts) g.bays &&
    (List.range 128).all (fun b => !(s.bay b).link.enabled || hasHead g.thisHub b) &&
    g.bays.all (fun b => b.cand.all (fun c => hasHead c.1 c.2 && c != (b.hub, b.bay)))

/-- The cascade identity of a blob. -/
def Geometry.ident (g : Geometry) : Nat × Nat × Nat := (g.hubCount, g.thisHub, g.masterHub)

/-- R324 lets a blob set a new identity. -/
def mayRename (s : Hub) : Bool :=
  (List.range 128).all (fun b => (s.bay b).sess.isNone) && decide (s.casc.lower.state ≠ .up) && decide (s.casc.upper.state ≠ .up)

/-- BAY_GEOMETRY_SET (R322 to R325, R540). -/
def bayGeometrySet (q : Req) (c : CmdRef) (s : Hub) : Reply × Hub :=
  let l := q.data
  let g := geometryOf l
  if l.length < 64 ∨ l.length ≠ blobLength l then fail .badLength s
  else if !blobSound s l g then fail .badParam s
  else
    let put := fun (s : Hub) => (Reply.later, { s with geomNext := s.geomNext ++ [(g, c)] })
    if g.ident = s.flash.cascId then put s
    else if !mayRename s then fail .badParam s
    else
      let x := pageBurst 1 s
      if x.1.status = .ok then put (siteWritten { x.2 with flash := { x.2.flash with cascId := g.ident } }) else fail x.1.status x.2

/-- The command table's row of BAY_GEOMETRY_SET. -/
def specBayGeometrySet : Spec :=
  { op := 0x0104, lc := lcFCF, len := len 0 }

def execBayGeometrySet (q : Req) : State → Turn := onHub fun s => .next (hostCommand specBayGeometrySet bayGeometrySet q s)

end Sys2Proof.Machine
end

