-- ==== Sys2Proof/Machine/Image.lean ====
section
/-! DEFINITION. Firmware images (R757 to R761, R766): the checks of a header and payload, and which slots are valid. -/

namespace Sys2Proof.Machine

/-- STEPPING of the part (R501). -/
def stepping : Nat := 0x0B01

/-- Step 1 of R758. -/
def imageShape (kind : Nat) (i : Image) : Bool :=
  let n := i.payload.length
  fld i.hdr 0 4 == 0x4B494D47 && i.hdr.length == 256 && fld i.hdr 5 1 == 1 && fld i.hdr 4 1 == kind && fld i.hdr 20 4 == n && n % 4 == 0 &&
    decide (4096 ≤ n) && decide (n ≤ (if kind = 0 then 2097152 else 458752))

/-- Step 2 of R758, with R759: the key of KEY_ID, its hash in OTP, and SIG. -/
def imageSigned (s : Hub) (i : Image) : Bool :=
  let k := fld i.hdr 6 1
  let pub := i.payload.take 64
  decide (k ≤ 1) && !(if k = 0 then s.fuse.revoked0 else s.fuse.revoked1) && Config.sha256 pub == Config.imageKeyHash k &&
    Config.ecdsaVerify (BitVec.ofNat 512 (beNat pub)) (Config.sha256 (i.hdr.take 192)) (sigOf (i.hdr.drop 192))

/-- Step 3 of R758. -/
def imageStepping (i : Image) : Bool := decide (fld i.hdr 12 2 ≤ stepping) && decide (stepping ≤ fld i.hdr 14 2)

/-- Step 4 of R758. -/
def imageDigest (i : Image) : Bool := hashBytes (Config.sha256 i.payload) == (i.hdr.drop 32).take 32

/-- ABI_MAJOR and ABI_MINOR of an image. -/
def abiMajor (i : Image) : Nat := fld i.hdr 16 1
def abiMinor (i : Image) : Nat := fld i.hdr 17 1

/-- The supervisor image that runs (R774). -/
def runningSup (s : Hub) : Option Image := if s.fwReady then supImage s s.boot.supSlot else none

/-- A region image that needs the region ABI the running supervisor image offers (R758, R761). -/
def abiFits (s : Hub) (i : Image) : Bool :=
  match runningSup s with
  | some k => abiMajor i == abiMajor k
  | none => true

/-- The checks of R758 in their order; none where the image passes. -/
def imageStatus (s : Hub) (kind : Nat) (i : Image) : Option Status :=
  if !imageShape kind i || !imageSigned s i then some .imageBadSig
  else if !imageStepping i then some .imageIncompatible
  else if !imageDigest i then some .imageBadSig
  else if kind = 1 ∧ abiFits s i = false then some .imageIncompatible
  else none

/-- A slot whose image passes the checks that make it valid when starting (R758): all but the region ABI. -/
def slotValid (s : Hub) (kind : Nat) (i : Option Image) : Bool :=
  match i with
  | some i => imageShape kind i && imageSigned s i && imageStepping i && imageDigest i
  | none => false

/-- A region image that a region may start (R758, R761). -/
def regStarts (s : Hub) (slot : Nat) : Bool :=
  match regImage s slot with
  | some i => (imageStatus s 1 i).isNone
  | none => false

/-- Features above the supervisor's minor are masked (R643, R761). -/
def abiMasked (s : Hub) (slot : Nat) : Bool :=
  match regImage s slot, runningSup s with
  | some i, some k => decide (abiMinor k < abiMinor i)
  | _, _ => false

/-- The active region slot (R762). -/
def activeSlot (s : Hub) : Nat := (bootRec s).regActive

/-- The boot record is written: BR_SEQ rises by one, as a burst of 1 page program (R764). -/
def writeBoot (f : BootRec → BootRec) (s : Hub) : Commit × Hub :=
  match pageBurst 1 s with
  | (.done n, s) => (.done n, bootWritten f s)
  | x => x

end Sys2Proof.Machine
end

