-- ==== Sys2Proof/Machine/Region.lean ====
section
/-! DEFINITION. Region quarantine, restart and splice (R45, R76, R445, R604 to R607, R622 to R643): the states of a region, what moves them, and
the commands SPLICE, REGION_CONTROL and REGION_STATUS. -/

namespace Sys2Proof.Machine

/-! ## Entry to a state -/

/-- A region enters a state, which is told (R630). -/
def regionTo (r : Nat) (n : RegionSt) (why : RegionReason) (s : Hub) : Hub :=
  let old := (s.region r).st
  regionNotice r n old why (s.setRegion r (fun x => { x with st := n }))

/-- Reasons that start an automatic restart (R628). -/
def RegionReason.auto : RegionReason → Bool
  | .watchdog => true | .queueEcc => true
  | .none_ => false | .host => false | .imageIncompatible => false | .spliceFailed => false | .splice => false | .autoRestart => false
  | .restore => false | .power => false | .engineLost => false | .proxyLimit => false

/-- Automatic restarts of the last 3,600 s of RTC time. -/
def recentRestarts (s : Hub) (r : Nat) : List Nat := (s.region r).autoTimes.filter (fun t => decide (s.aon.rtc < t + 3600))

/-- The cut of R445 at one bay: a CHARGING bay's wrap begins with it, a WRAPPING bay gets it with the cause. -/
def quarCutBay (b : Nat) (s : Hub) : Hub :=
  if isCharging s b then beginWrap b cRegionFault true s .quarCut
  else if isWrapping s b then addCause b cRegionFault s .quarCut
  else s

/-- PWRPERMIT falls once the safety cuts of the region are complete (R445). -/
def permitAfterCuts (r : Nat) (s : Hub) : Hub := dropLines r (setBus r (fun u => { u with dropAfter := true }) s)

/-- Release at the entry to QUARANTINED with CUT (R445). -/
def quarCut (r : Nat) (s : Hub) : Hub := permitAfterCuts r (forBays r quarCutBay s)

/-- The status with which a command waiting for a restart ends at a quarantine (R606). -/
def quarStatus (why : RegionReason) : Status := if why = .imageIncompatible then .imageIncompatible else .internal

/-- Entry to QUARANTINED (R445, R623, R624, R628, R629). A region that is QUARANTINED already keeps its QUAR_RELEASE mode and its limit of
proxying. -/
def quarantine (r : Nat) (why : RegionReason) (s : Hub) : Hub :=
  let x := s.region r
  let fresh := decide (x.st ≠ .quarantined)
  let limit := why.auto && decide (3 ≤ (recentRestarts s r).length)
  let ref := x.restart.bind (·.ref)
  let s := s.setRegion r (fun x =>
    { x with st := .quarantined, reason := why, seqRuns := false, halted := false, restart := none, enteredAt := s.now, restartLimit := limit
             quarMode := if fresh then x.quarRelease else x.quarMode, proxyFrom := if fresh then s.now else x.proxyFrom
             proxyTold := x.proxyTold && !fresh })
  let s := forBays r (fun b s => abortAuth b .regionQuarantined s) s
  let s := discardAll r .regionQuarantined s
  let s := forBays r (fun b s => abandonTake b .regionQuarantined (declineBay b s)) s
  let s := forBays r (fun b s => endFreeDialogues b .dialogueEnd s) s
  let s := if fresh ∧ x.quarRelease = .cut then quarCut r s else s
  let s := regionNotice r .quarantined x.st why s
  finishOpt ref (quarStatus why) [] s

/-! ## Restarting (R639) -/

/-- REL_INTERVAL_MAX, ms (R639). -/
def intervalMax (s : Hub) (r : Nat) : Nat :=
  ((((baysOf r).filter (fun b => (s.rel b).cfg.enable)).map (fun b => (s.rel b).cfg.interval)).max?).getD 100

/-- All engine groups and streaming turns of a region are free, its queues with them, and its capture ring is clear (R639). -/
def clearRegion (r : Nat) (s : Hub) : Hub :=
  s.setRegion r (fun x =>
    { x with items := [], listens := [], capture := [], capNext := 0, engines := x.engines.map (fun e => { e with held := [], invalid := [] })
             coex := { x.coex with covered := [], clear := [], req := false, pri := false } })

/-- The sequencer is held in reset, the region is cleared, and an image that has passed its checks is loaded (R639). -/
def startImage (r slot : Nat) (back : Bool) (s : Hub) : Hub :=
  (clearRegion r s).setRegion r (fun x =>
    { x with seqRuns := false, halted := false
             restart := x.restart.map (fun y => { y with phase := .restarting, slot := slot, back := back, since := s.now }) })

/-- A restart begins that is no splice: on the active region slot (R606, R628, R629). -/
def startRestart (r : Nat) (why : RegionReason) (ref : Option CmdRef) (s : Hub) : Hub :=
  let slot := activeSlot s
  let s := s.setRegion r (fun x => { x with due := false, lost := false
                                            restart := some { phase := .restarting, splice := false, slot := slot, since := s.now, cause := why, ref := ref } })
  if regStarts s slot then startImage r slot false s else quarantine r .imageIncompatible s

/-- A restart in service counts (R607). -/
def countRestart (r : Nat) (s : Hub) : Hub := s.setRegion r (fun x => { x with restarts := satAdd x.restarts 1 })

/-! ## The splice run (R604, R605) -/

/-- A region of the run enters DRAINING (R637). -/
def startDrain (r slot : Nat) (s : Hub) : Hub :=
  let s := regionTo r .draining .splice s
  s.setRegion r (fun x => { x with restart := some { phase := .draining, splice := true, slot := slot, since := s.now, cause := .splice } })

/-- A region the run still has to splice: present, ACTIVE, and not running the image. -/
def toSplice (s : Hub) (slot r : Nat) : Bool :=
  let x := s.region r
  s.regionPresent r && decide (x.st = .active) && decide (x.imageSlot ≠ slot)

/-- The result of SPLICE: regions spliced and kept, the region that failed, the longest span. -/
def spliceResult (x : SpliceRun) (kept : List Nat) : List Fld :=
  [⟨8, 1, flags ((List.range 8).map (fun r => kept.contains r))⟩, ⟨9, 1, x.failed.getD 0xFF⟩, ⟨10, 2, min x.span 0xFFFF⟩]

/-- Every region is done: SLOT becomes the active region slot, or the run ends with its failure (R605). -/
def spliceEnds (x : SpliceRun) (s : Hub) : Hub :=
  let s := { s with splice := none }
  if x.back then finish x.ref x.status (spliceResult x []) [] s
  else
    match writeBoot (fun r => { r with regActive := x.slot }) s with
    | (.done _, s) => finish x.ref .ok (spliceResult x x.done) [] { s with boot := { s.boot with regSlot := x.slot } }
    | (c, s) => finish x.ref c.status (spliceResult x x.done) [] s

/-- The next region of the run, in index order. -/
def spliceNext (s : Hub) : Hub :=
  match s.splice with
  | none => s
  | some x =>
    let slot := if x.back then x.old else x.slot
    match x.todo.find? (toSplice s slot) with
    | some r => startDrain r slot { s with splice := some { x with todo := x.todo.filter (fun k => decide (r < k)) } }
    | none => spliceEnds x s

/-- The run has failed at a region: those spliced before it are spliced back. -/
def spliceBack (r : Nat) (st : Status) (s : Hub) : Hub :=
  match s.splice with
  | none => s
  | some x =>
    let x := if x.back then x else { x with back := true, status := st, failed := some r, todo := x.done, done := [] }
    spliceNext { s with splice := some x }

/-- The status of the run's failure at a region that restarts on the old image is kept until it has done so. -/
def noteFailure (r : Nat) (st : Status) (s : Hub) : Hub :=
  { s with splice := s.splice.map (fun x => if x.back ∨ x.failed.isSome then x else { x with failed := some r, status := st }) }

/-- A splice fails at a region (R641): it restarts on the old image, the region staying SPLICING; if that fails too, or the region was being
spliced back, it is QUARANTINED. -/
def spliceFails (r : Nat) (st : Status) (s : Hub) : Hub :=
  let again := ((s.region r).restart.map (·.back)).getD true
  let run := s.splice.getD { ref := { mbx := .smbus, op := 0, tag := 0, seq := 0, src := 0 }, slot := 0, old := 0, todo := [], done := [] }
  let s := noteFailure r st s
  if again || run.back || !regStarts s run.old then spliceBack r st (quarantine r .spliceFailed s)
  else
    let s := if (s.region r).st = .splicing then s else regionTo r .splicing .splice s
    startImage r run.old true s

/-- The region enters SPLICING and its image is loaded (R638, R639). -/
def enterSplicing (r : Nat) (s : Hub) : Hub :=
  let s := regionTo r .splicing .splice s
  let slot := ((s.region r).restart.map (·.slot)).getD 0
  if regStarts s slot then startImage r slot false s else spliceFails r .imageBadSig s

/-! ## The last handback (R640) -/

/-- A bay of a region that is ACTIVE again (R203, R205, R626). -/
def bayActive (b : Nat) (s : Hub) : Hub :=
  let x := s.bay b
  let s := if x.st = .watch then setPoll b (fun p => { p with holdFrom := s.now }) s else s
  let s :=
    if (x.poll.touchPending ∨ x.poll.wakePending) ∧ (x.st = .idle ∨ x.st = .dark) ∧ x.radio.test = none then
      wakeLink b (toWatch b (if x.poll.touchPending then countPoll b (fun c => { c with capWake := satAdd c.capWake 1 }) s else s))
    else s
  resumeBay b (advanceBay b s)

/-- The region enters ACTIVE; its command completes, and a splice run goes on. -/
def finishRestart (r : Nat) (s : Hub) : Hub :=
  match (s.region r).restart with
  | none => s
  | some y =>
    let x := s.region r
    let span := match x.ownFrom with
      | some t => (s.now - t) / ms 1
      | none => x.spanMs
    let s := s.setRegion r (fun x => { x with restart := none, ownFrom := none, spanMs := span, bus := { x.bus with stbyHigh := false } })
    let s := forBays r bayActive (regionTo r .active y.cause s)
    let s := finishOpt y.ref .ok [] s
    if !y.splice then s
    else
      let s := { s with splice := s.splice.map (fun (z : SpliceRun) => { z with span := max z.span span }) }
      match s.splice with
      | none => s
      | some z =>
        if y.back then spliceBack r z.status s
        else spliceNext { s with splice := some (if z.back then z else { z with done := z.done ++ [r] }) }

/-- What a change of ownership, or of the bays with REL_ENABLE, completes (R638, R640). -/
def regionStep (r : Nat) (s : Hub) : Hub :=
  let enabled := (baysOf r).filter (fun b => (s.rel b).cfg.enable)
  match (s.region r).restart with
  | some y =>
    (match y.phase with
     | .takeover => if enabled.all (fun b => (s.rel b).supervisor) then enterSplicing r s else s
     | .handback => if enabled.all (fun b => !(s.rel b).supervisor) then finishRestart r s else s
     | .draining => s
     | .restarting => s)
  | none => s

/-! ## Boundaries with their change of owner (R76, R421, R656) -/

/-- A boundary of a bay, what its handback takes up again, and what that completes for the region. -/
def boundaryStep (b : Nat) (s : Hub) : Hub :=
  let was := (s.rel b).supervisor
  let s := boundary b s
  regionStep (regionOf b) (if was && !(s.rel b).supervisor then resumeBay b s else s)

/-- RELEASE_BOUNDARY (R421). -/
def execReleaseBoundary (b : Nat) : State → Turn := onHub fun s => atBay b s (fun s => if boundaryDue s b then boundaryStep b s else s)

/-- TPLL_COAST_BOUNDARY (R656). -/
def execTpllCoastBoundary (b : Nat) : State → Turn := onHub fun s => atBay b s (fun s => if coastBoundaryDue s b then boundaryStep b s else s)

/-! ## What happens to a region -/

/-- A fault of a region (R45, R622, R641, R642). -/
def regionFault (r : Nat) (why : RegionReason) (s : Hub) : Hub :=
  let x := s.region r
  match x.restart with
  | some y =>
    if y.splice then
      (match y.phase with
       | .draining => spliceBack r .internal (quarantine r why s)
       | .takeover => spliceFails r .internal s
       | .restarting => spliceFails r .internal s
       | .handback => spliceFails r .internal s)
    else quarantine r why s
  | none => if x.st = .active then quarantine r why s else s

/-- QUEUE_STORE_ECC (R45). -/
def execQueueStoreEcc (r : Nat) (uncorrectable : Bool) : State → Turn := onHub fun s =>
  atRegion r s (fun s =>
    if (s.region r).power = .s2 ∨ (s.region r).power = .off then s
    else if uncorrectable then regionFault r .queueEcc s
    else s.setRegion r (fun x => { x with corrected := satAdd x.corrected 1 }))

/-- REGION_WATCHDOG_EXPIRY (R622): 10 ms without a service of the running sequencer's watchdog; in S1 and S2 the sequencer is not clocked. -/
def execRegionWatchdogExpiry (r : Nat) : State → Turn := onHub fun s =>
  atRegion r s (fun s => if (s.region r).seqRuns ∧ (s.region r).power = .s0 then regionFault r .watchdog s else s)

/-- A fault halts the sequencer: it hands no frame over until its watchdog has expired (R622, R624). -/
def haltSequencer (r : Nat) (s : Hub) : Hub := s.setRegion r (fun x => { x with halted := x.halted || x.seqRuns })

/-- SEQUENCER_MEMORY_ERROR (R622). -/
def execSequencerMemoryError (r : Nat) : State → Turn := onHub fun s => atRegion r s (haltSequencer r)

/-- CRYPTO_LANE_FAILURE (R622): an AES lane is taken out; the hash lane, or the last AES lane, halts the sequencer. -/
def execCryptoLaneFailure (r : Nat) (hash : Bool) : State → Turn := onHub fun s =>
  atRegion r s (fun s =>
    if hash then haltSequencer r (s.setRegion r (fun x => { x with hashLane := false }))
    else
      let s := s.setRegion r (fun x => { x with aesLanes := x.aesLanes - 1 })
      if (s.region r).aesLanes = 0 then haltSequencer r s else s)

/-- AUTO_RESTART (R628): 10 ms after the entry. -/
def execAutoRestart (r : Nat) : State → Turn := onHub fun s =>
  atRegion r s (fun s =>
    let x := s.region r
    if x.st = .quarantined ∧ x.restart = none ∧ x.reason.auto ∧ !x.restartLimit ∧ s.passed x.enteredAt (ms 10) then
      startRestart r .autoRestart none (countRestart r (s.setRegion r (fun x => { x with autoTimes := s.aon.rtc :: recentRestarts s r })))
    else s)

/-- PROXY_LIMIT (R627): each proxied CHARGING bay is cut as by a fault. -/
def execProxyLimit (r : Nat) : State → Turn := onHub fun s =>
  atRegion r s (fun s =>
    let x := s.region r
    if x.st = .quarantined ∧ x.quarMode = .proxy ∧ !x.proxyTold ∧ s.passed x.proxyFrom (sec 10) then
      let l := (baysOf r).filter (fun b => (s.rel b).supervisor && isCharging s b)
      let s := l.foldl (fun s b => trigger b cRegionFault s) (s.setRegion r (fun x => { x with proxyTold := true }))
      regionNotice r .quarantined .quarantined .proxyLimit s
    else s)

/-- DRAIN_TIMEOUT (R637): 50 ms after the entry, what still runs is pre-empted. -/
def execDrainTimeout (r : Nat) : State → Turn := onHub fun s =>
  atRegion r s (fun s =>
    match (s.region r).restart with
    | some y =>
      if y.phase = .draining ∧ s.passed y.since (ms 50) then
        let s := drainQueued r s
        (s.items r).foldl (fun s i => match s.item r i.q with
          | some j => preemptItem j s
          | none => s) s
      else s
    | none => s)

/-- DRAIN_COMPLETE (R637, R638): nothing runs; the takeover begins. -/
def execDrainComplete (r : Nat) : State → Turn := onHub fun s =>
  atRegion r s (fun s =>
    match (s.region r).restart with
    | some y =>
      if y.phase = .draining then
        let s := drainQueued r s
        if (s.items r).any (·.granted) then s
        else
          let s := forBays r (fun b s => endFreeDialogues b .dialogueEnd s) s
          regionStep r (s.setRegion r (fun x => { x with restart := x.restart.map (fun y => { y with phase := .takeover }) }))
      else s
    | none => s)

/-- READY (R639, R640): the sequencer runs its image; bays are handed back from here on. A region with no working hash or AES lane halts anew. -/
def execSequencerReady (r : Nat) : State → Turn := onHub fun s =>
  atRegion r s (fun s =>
    match (s.region r).restart with
    | some y =>
      if y.phase = .restarting ∧ !bit s.boot.regHeld r then
        let v := imageVersion (regImage s y.slot)
        let m := abiMasked s y.slot
        regionStep r (s.setRegion r (fun x =>
          { x with seqRuns := true, halted := !x.hashLane || x.aesLanes == 0, imageVersion := v, imageSlot := y.slot, masked := m
                   restart := x.restart.map (fun y => { y with phase := .handback }) }))
      else s
    | none => s)

/-- RESTART_LIMIT_EXPIRY (R606, R629, R639, R641). -/
def execRestartLimitExpiry (r : Nat) : State → Turn := onHub fun s =>
  atRegion r s (fun s =>
    match (s.region r).restart with
    | some y =>
      if y.phase = .restarting ∧ s.passed y.since (ms (3 * intervalMax s r)) then
        (if y.splice then spliceFails r .internal s else quarantine r .watchdog s)
      else s
    | none => s)

/-! ## SPLICE (R604, R605) -/

def spliceCommand (q : Req) (c : CmdRef) (s : Hub) : Reply × Hub :=
  let slot := fld q.payload 0 1
  if 1 < slot then fail .badParam s
  else if s.splice.isSome then fail .busy s
  else if !slotValid s 1 (regImage s slot) then fail .wrongState s
  else if ((regImage s slot).map (fun i => !abiFits s i)).getD false then fail .imageIncompatible s
  else (.later, spliceNext { s with splice := some { ref := c, slot := slot, old := activeSlot s, todo := List.range 8, done := [] } })

/-- The command table's row of SPLICE. -/
def specSplice : Spec :=
  { op := 0x0704, lc := lcCF, len := len 4, quar := true, reserved := [1, 2, 3], signed := fun _ _ => true }

def execSplice (q : Req) : State → Turn := onHub fun s =>
  .next (hostCommand specSplice spliceCommand q s)

/-! ## REGION_CONTROL (R606) -/

/-- The REGION_CONTROL row of an action; the QUARANTINE row answers an action that does not exist. Only SET_QUAR_RELEASE takes REGION 0xFF. -/
def regionSpec (act : Nat) : Spec :=
  { op := 0x0705, urgent := true, lc := lcFCF, len := len 4, quar := true, reserved := [3]
    target := fun l => .regions (fld l 0 1)
    mine := fun q => decide (fld q.payload 1 1 = act) || (decide (act = 1) && (fld q.payload 1 1 == 0 || decide (5 < fld q.payload 1 1))) }

/-- An action on one region: REGION must name one, and none of its restarts may run. -/
def onRegion (q : Req) (states : RegionSt → Bool) (f : Nat → Hub → Reply × Hub) (s : Hub) : Reply × Hub :=
  let r := fld q.payload 0 1
  if r = 0xFF then fail .badParam s
  else if (s.region r).restart.isSome then fail .busy s
  else if !states (s.region r).st then fail .wrongState s
  else f r s

/-- QUARANTINE. -/
def regQuarantine (q : Req) (_ : CmdRef) (s : Hub) : Reply × Hub :=
  if fld q.payload 1 1 ≠ 1 then fail .badParam s
  else onRegion q (fun x => x == .active || x == .draining) (fun r s => (.done .ok [] [], quarantine r .host s)) s

/-- The command table's row of REGION_CONTROL_QUARANTINE. -/
def specRegionControlQuarantine : Spec := regionSpec 1

def execRegionControlQuarantine (q : Req) : State → Turn := onHub fun s => .next (hostCommand specRegionControlQuarantine regQuarantine q s)

/-- RESTORE (R629): a slot that cannot start leaves the region QUARANTINED. -/
def regRestore (q : Req) (c : CmdRef) (s : Hub) : Reply × Hub :=
  onRegion q (fun x => x == .quarantined) (fun r s =>
    if !regStarts s (activeSlot s) then (.async .imageIncompatible [] [], s)
    else (.later, startRestart r .restore (some c) (countRestart r s))) s

/-- The command table's row of REGION_CONTROL_RESTORE. -/
def specRegionControlRestore : Spec := regionSpec 2

def execRegionControlRestore (q : Req) : State → Turn := onHub fun s => .next (hostCommand specRegionControlRestore regRestore q s)

/-- A region power change is told (R699). -/
def regionPowerTo (r : Nat) (p : RegionPower) (s : Hub) : Hub :=
  powerNotice (regionSrc r) 0x03 s.pwr.pl s.pwr.pl 0 (s.setRegion r (fun x => { x with power := p, powerStep := 0 }))

/-- A region goes OFF (R410, R429, R606). DESIGN CHOICE, log entry 120: the manual gives no handback for a QUARANTINED region that goes OFF; the
supervisor's ownership of its bays ends with it, without a boundary and without a RELEASE_STATE. -/
def regionOff (r : Nat) (s : Hub) : Hub :=
  let s := discardAll r .regionQuarantined s
  let s := forBays r (fun b s => endDialogues b .dialogueEnd (abandonTake b .regionQuarantined (abortAuth b .wrongState s))) s
  let s := forBays r (fun b s => setRel b (fun x => { x with supervisor := false, txSince := none, txFrame := [] }) (takeDown b .hostDisable s)) s
  let s := regionTo r .off .power (clearRegion r s)
  let s := setBus r (fun u => { u with stbyHigh := true, cutFrames := [], cutsOpen := [], dropAfter := true }) s
  let s := (dropLines r s).setRegion r (fun x =>
    { x with seqRuns := false, halted := false, ownFrom := none, imageVersion := 0, restartLimit := false, due := false, lost := false })
  regionPowerTo r .off s

def regOff (q : Req) (_ : CmdRef) (s : Hub) : Reply × Hub :=
  onRegion q (fun x => x == .active || x == .quarantined) (fun r s =>
    if liveBays s r ≠ [] then fail .wrongState s else (.async .ok [] [], regionOff r s)) s

/-- The command table's row of REGION_CONTROL_OFF. -/
def specRegionControlOff : Spec := regionSpec 3

def execRegionControlOff (q : Req) : State → Turn := onHub fun s => .next (hostCommand specRegionControlOff regOff q s)

/-- ON: powered up, and started as a restart is. -/
def regOn (q : Req) (c : CmdRef) (s : Hub) : Reply × Hub :=
  onRegion q (fun x => x == .off) (fun r s => (.later, startRestart r .power (some c) (regionPowerTo r .s0 s))) s

/-- The command table's row of REGION_CONTROL_ON. -/
def specRegionControlOn : Spec := regionSpec 4

def execRegionControlOn (q : Req) : State → Turn := onHub fun s => .next (hostCommand specRegionControlOn regOn q s)

/-- SET_QUAR_RELEASE: for the next entry to QUARANTINED. -/
def regSetRelease (q : Req) (_ : CmdRef) (s : Hub) : Reply × Hub :=
  let arg := fld q.payload 2 1
  let l := namedRegions (fld q.payload 0 1) s
  if l.any (fun r => (s.region r).restart.isSome) then fail .busy s
  else if 1 < arg then fail .badParam s
  else (.async .ok [] [], forAll l (fun r s => s.setRegion r (fun x => { x with quarRelease := if arg = 0 then .cut else .proxy })) s)

/-- The command table's row of REGION_CONTROL_SET_QUAR_RELEASE. -/
def specRegionControlSetQuarRelease : Spec := regionSpec 5

def execRegionControlSetQuarRelease (q : Req) : State → Turn := onHub fun s => .next (hostCommand specRegionControlSetQuarRelease regSetRelease q s)

/-! ## REGION_STATUS (R607) -/

/-- Cells retired in an engine, and its groups withdrawn. -/
def Engine.withdrawnCount (e : Engine) : Nat := 16 - e.offered.length

def regionStatusResult (s : Hub) (r : Nat) : List Fld :=
  let x := s.region r
  [⟨0, 1, x.st.code⟩, ⟨1, 1, x.reason.code⟩, ⟨2, 1, regionPwr s r⟩, ⟨3, 1, b2n (x.quarRelease == .proxy)⟩, ⟨4, 4, x.running⟩,
   ⟨8, 4, queuesTotal - x.items.length⟩, ⟨12, 1, x.turns⟩, ⟨13, 1, turnsUsed s r⟩, ⟨14, 1, b2n x.coex.enabled⟩,
   ⟨15, 1, (reservedEngine s r).getD 0xFF⟩] ++
  (List.range 8).map (fun e => ⟨16 + e, 1, (nth {} x.engines e).retired.length⟩) ++
  (List.range 8).map (fun e => ⟨24 + e, 1, (nth {} x.engines e).withdrawnCount⟩) ++
  [⟨32, 4, x.spanMs⟩, ⟨36, 4, x.restarts⟩]

def regionStatus (q : Req) (_ : CmdRef) (s : Hub) : Reply × Hub := (.done .ok (regionStatusResult s (fld q.payload 0 1)) [], s)

/-- The command table's row of REGION_STATUS. -/
def specRegionStatus : Spec :=
  { op := 0x0706, urgent := true, smbus := true, act := false, lc := lcAll, len := len 4, quar := true, reserved := [1, 2, 3]
    target := fun l => .region (fld l 0 1) }

def execRegionStatus (q : Req) : State → Turn := onHub fun s =>
  .next (hostCommand specRegionStatus regionStatus q s)

end Sys2Proof.Machine
end

