-- ==== Sys2Proof/Machine/BayCmd.lean ====
section
/-! DEFINITION. Bay commands: BAY_STATUS, BAY_CONFIG, BAY_CONTROL and TAKE (R534 to R539, R543), coexistence, compliance and the test commands
(R555 to R561). -/

namespace Sys2Proof.Machine

/-! ## BAY_STATUS (R534 to R536) -/

def RadioState.code : RadioState → Nat
  | .off => 0 | .sleep => 1 | .standby => 2 | .settle => 3 | .cal => 4 | .rx => 5 | .tx => 6

/-- RADIO: that of the last good header while the link is UP or DROWSE, otherwise 0. -/
def statusRadio (x : Bay) : Nat := if x.link.state = .up ∨ x.link.state = .drowse then x.sl.rep.radio.code else 0

/-- The link of a head runs: UP or DROWSE. -/
def linkRuns (x : Bay) : Bool := x.link.state == .up || x.link.state == .drowse

/-- A REQUIRE_V verdict is pending at a bay (R346). -/
def requireVPending (x : Bay) : Bool := [x.dlgV, x.dlgC, x.dlgF].any (fun d => (d.map (·.requireV)).getD false)

/-- FLAGS of BAY_STATUS. -/
def bayFlags (s : Hub) (b : Nat) : Nat :=
  let x := s.bay b
  flags [x.link.enabled, x.link.headChanged, linkRuns x && !x.link.ident.hasCap, x.poll.lfOpen, x.poll.hfOpen, x.poll.degraded, x.hf.imgLost,
         x.rel.seqLow, x.rel.exhausted, !calibrated s b, requireVPending x, x.rel.supervisor, x.radio.test.isSome]

/-- The result of BAY_STATUS. -/
def bayStatusResult (s : Hub) (b : Nat) : List Fld :=
  let x := s.bay b
  [⟨0, 2, b⟩, ⟨2, 1, bayStateCode x.st⟩, ⟨3, 1, x.link.state.code⟩, ⟨4, 1, statusRadio x⟩, ⟨5, 1, (s.region (regionOf b)).st.code⟩,
   ⟨6, 1, (x.dlgV.map (fun d => verdictCode d.verdict)).getD 0xFF⟩, ⟨7, 1, if x.rel.cfg.enable then relCode x.rel.state else 0xFF⟩,
   ⟨8, 4, bayFlags s b⟩, ⟨12, 8, sessionId s b⟩, ⟨20, 4, if x.rel.anySent then lastRelSeq s b else 0⟩, ⟨24, 4, linkDelay s b⟩,
   ⟨28, 8, x.link.ident.serial⟩, ⟨36, 8, x.poll.lastDetect⟩, ⟨44, 4, (s.geom.map (·.version)).getD 0⟩,
   ⟨48, 2, ownedBy (s.items (regionOf b)) b⟩, ⟨50, 1, flags [x.dlgV.isSome, x.dlgC.isSome, x.dlgF.isSome]⟩,
   ⟨51, 1, unsigned 8 x.sl.rep.temp⟩]

/-- The 95 counters of the counter block, in its order (R535). -/
def counterWords (s : Hub) (b : Nat) : List Nat :=
  let x := s.bay b
  let r := s.region (regionOf b)
  let p := x.sl.cnt
  let a := x.radio.cnt
  let o := x.poll.cnt
  let t := x.hf.cnt
  let g := x.rangeCnt
  let e := x.rapidCnt
  let n := x.bindCnt
  let u := x.authCnt
  let l := x.rel.cnt
  [p.fecCorr, p.fecUncorr, p.usCrc, p.usLost, p.dsLossRpt, p.cueMissing, p.cueUnknown, p.timeSlip, p.delayOutlier, p.trainFail, p.protoErr] ++
  [a.lockFail, a.calFail, a.radioBusy, a.txLateStart, a.txUnstaged, a.regRefused, a.coexDefer, a.coexDenied, a.mismatch] ++
  [o.lfTelegrams, o.hfPings, o.hfWake, o.hfFalseWake, o.capWake, o.coilOpenLf, o.coilOpenHf, o.darkEntry, r.wakeSpurious] ++
  [t.hfTxn, t.cardTimeout, t.cardProto, t.nonIsodep, t.marginRefused, t.writeUnknown, t.tagSelects, t.tagPwFail, t.tagPwLock, t.tagAesFail,
   t.tagWireBusy, t.tagCommitFail] ++
  [g.takes, g.takeOk, g.noResponse, g.stsLow, g.stsMismatch, g.reportBad, g.clockOdd, g.fpSuspect, g.listens, g.listenDeclined, g.uwbModeErr] ++
  [e.run, e.ok, e.noReply, e.wrongBit, e.early, e.suspect, e.periodShort, e.notRun, e.overBound] ++
  [n.fixOk, n.fixFail, n.listenReject, n.qualifying, n.conflict, n.boundEntry, n.contestedEntry, n.lostEntry, n.handedOver, n.engagedElsewhere,
   n.fobAmbig, s.casc.discard] ++
  [u.started, u.ok, u.fail, u.timeout, u.backoff, u.engageBusy, u.fobCrcErr, u.fobResync] ++
  [l.sent, l.safety, l.txLate, l.sync, l.statusBad, l.silent, l.meterOk, l.meterBad, l.meterTimeout, r.bus.busOffCnt, r.bus.foreign] ++
  [x.queueRefused, x.pollSkipped, r.sightLate]

/-- The counter block: 128 words. -/
def counterBlock (s : Hub) (b : Nat) : List Byte := ((counterWords s b ++ List.replicate 33 0).take 128).flatMap (toLe 4)

/-- The counters of a bay alone are cleared (R536). -/
def clearCounters (b : Nat) (s : Hub) : Hub :=
  s.setBay b (fun x =>
    { x with sl := { x.sl with cnt := {} }, radio := { x.radio with cnt := {} }, poll := { x.poll with cnt := {} }, hf := { x.hf with cnt := {} }
             rangeCnt := {}, rapidCnt := {}, bindCnt := {}, authCnt := {}, rel := { x.rel with cnt := {} }, queueRefused := 0, pollSkipped := 0 })

/-- Is a command from the active port? -/
def fromActive (q : Req) (s : Hub) : Bool :=
  match q.mbx with
  | .normal p => s.isActive p
  | .urgent p => s.isActive p
  | .smbus => false

def bayStatus (q : Req) (_ : CmdRef) (s : Hub) : Reply × Hub :=
  let b := fld q.payload 0 2
  let counters := bit (fld q.payload 2 1) 0
  let clear := bit (fld q.payload 2 1) 1
  if counters ∧ q.room < 512 then fail .badLength s
  else if clear ∧ !fromActive q s then fail .notAuthorised s
  else
    (.done .ok (bayStatusResult s b) (if counters then counterBlock s b else []), if clear then clearCounters b s else s)

/-- The command table's row of BAY_STATUS. -/
def specBayStatus : Spec :=
  { op := 0x0101, urgent := true, smbus := true, act := false, lc := lcAll, len := len 4, target := bayAt0, quar := true
    reserved := [3] }

def execBayStatus (q : Req) : State → Turn := onHub fun s =>
  .next (hostCommand specBayStatus bayStatus q s)

/-! ## BAY_CONFIG (R537, R538) -/

/-- The bays a BAY field names. -/
def namedBays (s : Hub) (n : Nat) : List Nat := if n = 0xFFFF then (List.range 128).filter s.bayPresent else [n]

/-- Every bay is checked before any is changed; a failure names the first that fails. -/
def configure (q : Req) (check : Nat → Option Status) (f : Nat → Hub → Hub) (s : Hub) : Reply × Hub :=
  let l := namedBays s (fld q.payload 0 2)
  let one := fun b => if (s.region (regionOf b)).st = .quarantined then some Status.regionQuarantined else check b
  match l.find? (fun b => (one b).isSome) with
  | some b => (.done ((one b).getD .ok) [⟨8, 2, b⟩] [], if one b = some .regLimit then regRefused b s else s)
  | none => (.done .ok [] [], forAll l f s)

/-- The BAY_CONFIG row of a section; the POLLING row answers a section that does not exist. -/
def configSpec (sec : Nat) (res : List Nat) : Spec :=
  { op := 0x0102, lc := lcFCF, len := len 48, target := fun l => .bays (fld l 0 2), reserved := 3 :: res
    mine := fun q => decide (fld q.payload 2 1 = sec) || (decide (sec = 0) && decide (3 < fld q.payload 2 1)) }

/-- The first check that fails. -/
def firstStatus : List (Bool × Status) → Option Status
  | [] => none
  | (good, st) :: r => if good then firstStatus r else some st

/-- A parameter from `lo` to `hi` in steps of `k`. -/
def inSteps (v lo hi k : Nat) : Bool := decide (lo ≤ v) && decide (v ≤ hi) && v % k == 0

/-- Section 0 as the payload gives it (R176). -/
def pollCfgOf (p : List Byte) : PollCfg :=
  { policy := if fld p 4 1 = 0 then .continuous else .capacitive, darkWeeks := fld p 5 1, watchHold := fld p 6 2, lfPeriod := fld p 8 2
    lfCmd := fld p 10 1, lfDrive := fld p 11 1, wakeSite := fld p 12 2, hfMode := if fld p 14 1 = 0 then .continuousField else .ping
    hfField := fld p 15 1, hfPingPeriod := fld p 16 2, hfPollPeriod := fld p 18 2, hfDetuneAmp := fld p 20 2, hfDetunePhase := fld p 22 2
    listenPeriod := fld p 24 2, capThresh := fld p 26 2, uhfBand := fld p 28 1 }

/-- The ranges of R176 and the limits of R153, in the order of the fields. -/
def pollCheck (l : Limits) (p : List Byte) : Option Status :=
  let c := pollCfgOf p
  firstStatus
    [(decide (fld p 4 1 ≤ 1), .badParam), (decide (c.darkWeeks ≤ 52), .badParam), (inSteps c.watchHold 5 600 1, .badParam),
     (inSteps c.lfPeriod 100 2000 50, .badParam), (decide (c.lfCmd ≤ 3), .badParam), (l.code false c.lfDrive, .regLimit),
     (decide (c.wakeSite ≤ 0x3FFF), .badParam), (decide (fld p 14 1 ≤ 1), .badParam), (l.code true c.hfField, .regLimit),
     (inSteps c.hfPingPeriod 100 500 10, .badParam), (inSteps c.hfPollPeriod 20 500 10, .badParam), (inSteps c.hfDetuneAmp 1 8192 1, .badParam),
     (inSteps c.hfDetunePhase 1 8192 1, .badParam), (c.listenPeriod == 0 || inSteps c.listenPeriod 250 10000 50, .badParam),
     (decide (1 ≤ c.capThresh), .badParam), (decide (c.uhfBand ≤ 1), .badParam), (l.band c.uhfBand, .regLimit)]

/-- Cues for the drive codes that have changed (R172, R198). -/
def pollCues (b : Nat) (old new : PollCfg) (s : Hub) : Hub :=
  let s := if old.lfDrive = new.lfDrive then s else coilCue b 0x40 new.lfDrive false s
  let s := if old.hfField = new.hfField then s else coilCue b 0x42 new.hfField true s
  if old.capThresh = new.capThresh then s else capCue b s

/-- New polling parameters act at once (R204, R538). -/
def setPolling (c : PollCfg) (b : Nat) (s : Hub) : Hub :=
  let old := (s.bay b).poll.cfg
  let s := setPoll b (fun p => { p with cfg := c }) s
  let s := if old.policy = c.policy then s else setPoll b (fun p => { p with holdFrom := s.now, darkFrom := s.aon.rtc }) s
  advanceBay b (pollCues b old c s)

/-- The command table's row of BAY_CONFIG_POLLING. -/
def specBayConfigPolling : Spec := configSpec 0 ((List.range 19).map (29 + ·))

def execBayConfigPolling (q : Req) : State → Turn := onHub fun s =>
  .next (hostCommand specBayConfigPolling (fun q _ s => if 3 < fld q.payload 2 1 then fail .badParam s
      else configure q (fun _ => pollCheck (limits s) q.payload) (setPolling (pollCfgOf q.payload)) s) q s)

/-- Section 1 (R254, R297). -/
def rangeCfgOf (p : List Byte) : RangeCfg :=
  { uwbCh := fld p 4 1, pcode := fld p 5 1, txAnt := fld p 6 1, stsUnits := fld p 7 1
    rapidMode := if fld p 8 1 = 0 then .off else if fld p 8 1 = 1 then .ifCapable else .required
    rapidRecheck := fld p 9 1, boundMm := fld p 10 2, txPower := fld p 12 1 }

def rangeCheck (l : Limits) (p : List Byte) : Option Status :=
  let c := rangeCfgOf p
  firstStatus
    [(c.uwbCh == 5 || c.uwbCh == 9, .badParam), (l.channel c.uwbCh 0, .regLimit), (inSteps c.pcode 9 12 1, .badParam), (decide (c.txAnt ≤ 3), .badParam),
     (c.stsUnits == 32 || c.stsUnits == 64 || c.stsUnits == 128, .badParam), (decide (fld p 8 1 ≤ 2), .badParam),
     (inSteps c.boundMm 1000 6000 1, .badParam), (decide (c.txPower ≤ 63), .badParam), (l.channel c.uwbCh c.txPower, .regLimit)]

/-- New ranging parameters: a dialogue keeps its own; a head in STANDBY gets a changed channel or power at once (R255, R538). -/
def setRanging (c : RangeCfg) (b : Nat) (s : Hub) : Hub :=
  let s := s.setBay b (fun x => { x with range := c })
  if (s.bay b).radio.copy = .standby then needChannel b s else s

/-- The command table's row of BAY_CONFIG_RANGING. -/
def specBayConfigRanging : Spec := configSpec 1 ((List.range 35).map (13 + ·))

def execBayConfigRanging (q : Req) : State → Turn := onHub fun s =>
  .next (hostCommand specBayConfigRanging (fun q _ s => configure q (fun _ => rangeCheck (limits s) q.payload) (setRanging (rangeCfgOf q.payload)) s) q s)

/-- Section 2. -/
def bindCfgOf (p : List Byte) : BindCfg :=
  { requireV := bit (fld p 4 1) 0, allowUncal := bit (fld p 4 1) 1, cRstrMin := fld p 5 1, fLfMin := fld p 6 1, fUhfMin := signed 8 (fld p 7 1)
    engageLimit := fld p 8 2 }

def bindCheck (p : List Byte) : Option Status :=
  let c := bindCfgOf p
  firstStatus
    [(decide (fld p 4 1 ≤ 3), .badParam), (decide (c.cRstrMin ≤ 80), .badParam), (decide (-120 ≤ c.fUhfMin) && decide (c.fUhfMin ≤ -20), .badParam),
     (inSteps c.engageLimit 10 600 1, .badParam), (decide (fld p 10 1 ≤ 3), .badParam), (decide (fld p 11 1 ≤ 80), .badParam)]

def setBinding (p : List Byte) (b : Nat) (s : Hub) : Hub :=
  s.setBay b (fun x => { x with bindCfg := bindCfgOf p, hf := { x.hf with rateMax := fld p 10 1, fieldMargin := fld p 11 1 } })

/-- The command table's row of BAY_CONFIG_BINDING. -/
def specBayConfigBinding : Spec := configSpec 2 ((List.range 36).map (12 + ·))

def execBayConfigBinding (q : Req) : State → Turn := onHub fun s =>
  .next (hostCommand specBayConfigBinding (fun q _ s => configure q (fun _ => bindCheck q.payload) (setBinding q.payload) s) q s)

/-- Section 3 (R420). -/
def relCfgOf (p : List Byte) : RelCfg :=
  { enable := fld p 4 1 == 1, faultRelease := if fld p 5 1 = 0 then .holdFirst else .cutAtOnce, interval := fld p 6 2, holdTime := fld p 8 2
    meterId := fld p 10 8 }

def relCheck (s : Hub) (p : List Byte) (b : Nat) : Option Status :=
  let c := relCfgOf p
  let old := (s.rel b).cfg
  let live := isCharging s b || isWrapping s b
  firstStatus
    [(decide (fld p 4 1 ≤ 1), .badParam), (decide (fld p 5 1 ≤ 1), .badParam), (inSteps c.interval 50 1000 10, .badParam),
     (inSteps c.holdTime 5 100 1, .badParam), (!(live && (c.meterId != old.meterId || (old.enable && !c.enable))), .wrongState),
     (!c.enable || (vaultKey s 0x04 b).present, .wrongState)]

/-- New release parameters: REL_INTERVAL waits for the next boundary under the old period (R422). -/
def setRelease (c : RelCfg) (b : Nat) (s : Hub) : Hub :=
  regionStep (regionOf b) (setRel b (fun r =>
    { r with cfg := c, period := if r.cfg.enable then r.period else 10 * c.interval, supervisor := r.supervisor && c.enable }) s)

/-- The command table's row of BAY_CONFIG_RELEASE. -/
def specBayConfigRelease : Spec := configSpec 3 ((List.range 30).map (18 + ·))

def execBayConfigRelease (q : Req) : State → Turn := onHub fun s =>
  .next (hostCommand specBayConfigRelease (fun q _ s => configure q (relCheck s q.payload) (setRelease (relCfgOf q.payload)) s) q s)

/-! ## BAY_CONTROL (R539) -/

/-- The BAY_CONTROL row of an action; the ENABLE row answers an action that does not exist. -/
def controlSpec (act : Nat) (quar : Bool) (states : Req → Nat → Bay → Bool) : Spec :=
  { op := 0x0103, lc := lcFCF, len := len 4, target := bayAt0, quar := quar, states := states
    mine := fun q => decide (fld q.payload 2 1 = act) || (decide (act = 1) && (fld q.payload 2 1 == 0 || decide (5 < fld q.payload 2 1))) }

/-- ENABLE: a port in FAULT with INCOMPATIBLE or DUPLICATE is enabled anew (R113). -/
def bayEnable (q : Req) (_ : CmdRef) (s : Hub) : Reply × Hub :=
  let b := fld q.payload 0 2
  let l := (s.bay b).link
  if fld q.payload 2 1 ≠ 1 then fail .badParam s
  else if l.enabled then
    (.done .ok [] [], if l.state = .fault ∧ (l.reason = .incompatible ∨ l.reason = .duplicate) then takeDown b .none_ s else s)
  else (.done .ok [] [], setLink b (fun l => { l with enabled := true }) s)

/-- The command table's row of BAY_CONTROL_ENABLE. -/
def specBayControlEnable : Spec := controlSpec 1 false (fun _ _ _ => true)

def execBayControlEnable (q : Req) : State → Turn := onHub fun s => .next (hostCommand specBayControlEnable bayEnable q s)

/-- DISABLE: with a session, the wrap runs first; in a QUARANTINED region the port goes DOWN at once. -/
def bayDisable (q : Req) (c : CmdRef) (s : Hub) : Reply × Hub :=
  let b := fld q.payload 0 2
  if (s.bay b).link.disableDue then fail .busy s
  else if isCharging s b ∨ isWrapping s b then
    let s := if isCharging s b then trigger b cHostWrap s else s
    let s := setLink b (fun l => { l with disableRef := some c, disableDue := true }) s
    (.later, if (s.region (regionOf b)).st = .quarantined then takeDown b .hostDisable s else s)
  else (.done .ok [] [], disabled b (abortAuth b .wrongState s))

/-- The command table's row of BAY_CONTROL_DISABLE. -/
def specBayControlDisable : Spec := controlSpec 2 true (fun q _ x => bit (fld q.payload 3 1) 0 || (x.st != .charging && x.st != .wrapping))

def execBayControlDisable (q : Req) : State → Turn := onHub fun s =>
  .next (hostCommand specBayControlDisable bayDisable q s)

/-- WAKE: out of IDLE and DARK; while the region is not ACTIVE or a test runs, the move waits as a TOUCH does (R169, R205). -/
def bayWake (q : Req) (_ : CmdRef) (s : Hub) : Reply × Hub :=
  let b := fld q.payload 0 2
  let st := (s.bay b).st
  if st = .idle ∨ st = .dark then
    if (s.region (regionOf b)).st = .active ∧ (s.bay b).radio.test = none then (.done .ok [] [], wakeLink b (toWatch b s))
    else (.done .ok [] [], setPoll b (fun p => { p with wakePending := true }) s)
  else (.done .ok [] [], s)

/-- The command table's row of BAY_CONTROL_WAKE. -/
def specBayControlWake : Spec := controlSpec 3 false (fun _ _ x => x.st != .offline && x.st != .fault)

def execBayControlWake (q : Req) : State → Turn := onHub fun s =>
  .next (hostCommand specBayControlWake bayWake q s)

/-- REARM_COILS (R192, R194). -/
def bayRearm (q : Req) (_ : CmdRef) (s : Hub) : Reply × Hub :=
  (.done .ok [] [], setPoll (fld q.payload 0 2) (fun p => { p with lfOpen := false, hfOpen := false, degraded := false, lfLow := 0, hfLow := 0 }) s)

/-- The command table's row of BAY_CONTROL_REARM_COILS. -/
def specBayControlRearmCoils : Spec := controlSpec 4 false (fun _ _ x => x.st != .offline)

def execBayControlRearmCoils (q : Req) : State → Turn := onHub fun s =>
  .next (hostCommand specBayControlRearmCoils bayRearm q s)

/-- RETRAIN: the port goes DOWN; the signal of its head trains it again. -/
def bayRetrain (q : Req) (_ : CmdRef) (s : Hub) : Reply × Hub :=
  (.done .ok [] [], takeDown (fld q.payload 0 2) .hostDisable s)

/-- The command table's row of BAY_CONTROL_RETRAIN. -/
def specBayControlRetrain : Spec := controlSpec 5 false (fun _ _ x => x.st == .offline || x.st == .idle || x.st == .dark || x.st == .watch || x.st == .fault)

def execBayControlRetrain (q : Req) : State → Turn := onHub fun s =>
  .next (hostCommand specBayControlRetrain bayRetrain q s)

/-! ## TAKE (R139, R290, R543) -/

def takeCommand (q : Req) (c : CmdRef) (s : Hub) : Reply × Hub :=
  let b := fld q.payload 0 2
  let fl := fld q.payload 2 1
  match (s.bay b).dlgV with
  | none => fail .wrongState s
  | some d =>
    if d.auth.phase ≠ .done ∨ !bayPlans s b then fail .wrongState s
    else if (s.bay b).take.isSome then fail .busy s
    else if (s.bay b).radio.copy = .cal then fail .radioBusy (radioBusyCount b s)
    else if !(limits s).channel d.cfg.uwbCh 0 then fail .regLimit (regRefused b s)
    else
      let p := planTake b { due := s.slot, latest := s.slot + 500, rapid := rapidSelected d (bit fl 0), noListen := bit fl 1, ref := some c, room := q.room } s
      if p.1 then (.later, p.2) else fail .noResource p.2

/-- The command table's row of TAKE. -/
def specTake : Spec :=
  { op := 0x0107, lc := lcCF, len := len 4, target := bayAt0, reserved := [3]
    states := fun _ _ x => x.st == .engaged || x.st == .charging }

def execTake (q : Req) : State → Turn := onHub fun s =>
  .next (hostCommand specTake takeCommand q s)

/-! ## COEX_SET (R555) -/

/-- Coexistence of a region as it is set: a setting that waits for the boundary counts. -/
def coexSetting (s : Hub) (r : Nat) : Bool := (s.region r).coex.pending.getD (s.region r).coex.enabled

def coexSet (q : Req) (_ : CmdRef) (s : Hub) : Reply × Hub :=
  let en := fld q.payload 1 1
  if 1 < en then fail .badParam s
  else
    let s := forAll (namedRegions (fld q.payload 0 1) s) (fun r s => setCoex r (fun c => { c with pending := some (en == 1) }) s) s
    (.done .ok [⟨8, 1, flags ((List.range 8).map (coexSetting s))⟩] [], s)

/-- The command table's row of COEX_SET. -/
def specCoexSet : Spec :=
  { op := 0x0209, lc := lcFCF, len := len 4, target := fun l => .regions (fld l 0 1), quar := true, reserved := [2, 3] }

def execCoexSet (q : Req) : State → Turn := onHub fun s =>
  .next (hostCommand specCoexSet coexSet q s)

/-! ## Compliance (R147 to R151, R556, R557) -/

/-- MAGIC and CRC of a page. -/
def pageIntact (p : List Byte) : Bool := fld p 0 4 == 0x434F4D50 && fld p 444 4 == crc32 (p.take 444)

/-- SIG under the compliance authority's key. -/
def pageSigned (s : Hub) (p : List Byte) : Bool :=
  let k := vaultKey s 0x02 0
  k.present && Config.ecdsaVerify (BitVec.ofNat 512 k.val) (Config.sha256 (p.take 448)) (sigOf (p.drop 448))

/-- PAGE_VERSION of the page in flash. -/
def flashVersion (s : Hub) : Option Nat := (compPage s).map (fun p => fld p 4 4)

/-- The sector that is not in force takes a new page, which then is in force (R556). -/
def compWritten (p : List Byte) (s : Hub) : Hub :=
  let hi := if (compPage s).isSome then !s.boot.compHi else false
  let s := s.program (flashComp + (if hi then 4096 else 0)) p
  { s with flash := { s.flash with comp := s.flash.comp.set hi (some { data := p, seq := fld p 4 4 }) }
           boot := { s.boot with compHi := hi, compValid := true } }

def complianceWrite (q : Req) (_ : CmdRef) (s : Hub) : Reply × Hub :=
  let p := signedData q
  let v := fld p 4 4
  if !pageIntact p then fail .badParam s
  else if !pageSigned s p then fail .authFail s
  else if (match flashVersion s with | some o => decide (v ≤ o) | none => false) then fail .badParam s
  else
    let x := pageBurst 16 s
    if x.1.status ≠ .ok then fail x.1.status x.2
    else
      (.async .ok [⟨8, 4, v⟩] [], postEvent 0xC chipSrc [⟨0, 4, v⟩] (compWritten p x.2))

/-- Every link that runs is trained again with the new limits (R151). -/
def retrainAll (s : Hub) : Hub := forAllBays (fun b s => if linkRuns (s.bay b) then takeDown b .none_ s else s) s

/-- The command table's row of COMPLIANCE_WRITE. -/
def specComplianceWrite : Spec :=
  { op := 0x0901, lc := [2], len := len 0, dataLen := fun n => n == 4176, signed := fun _ _ => true }

def execComplianceWrite (q : Req) : State → Turn := onHub fun s =>
  let t := hostCommand specComplianceWrite complianceWrite q s
  .next (if compPage t = compPage s then t else retrainAll t)

/-- The set in force (R149): 0 nothing allowed, 1 factory set, 2 page. -/
def limitSet (s : Hub) : Nat :=
  if s.lc = factory then 1 else if (s.lc = commissioning ∨ s.lc = fielded) ∧ (validPage s).isSome then 2 else 0

def complianceRead (q : Req) (_ : CmdRef) (s : Hub) : Reply × Hub :=
  let l := limits s
  (.done .ok
    [⟨8, 4, (flashVersion s).getD 0⟩, ⟨12, 1, b2n (validPage s).isSome⟩, ⟨13, 1, b2n l.testPermit⟩, ⟨14, 1, limitSet s⟩,
     bytesFld 16 (toLe 30 (limitsPayload l)).reverse]
    (if 4096 ≤ q.room then (compPage s).getD (List.replicate 4096 0xFF) else []), s)

/-- The command table's row of COMPLIANCE_READ. -/
def specComplianceRead : Spec :=
  { op := 0x0902, smbus := true, act := false, lc := lcAll, len := len 0 }

def execComplianceRead (q : Req) : State → Turn := onHub fun s =>
  .next (hostCommand specComplianceRead complianceRead q s)

/-! ## Test emissions (R139, R164, R167 to R170, R558, R559) -/

/-- Fields of a TEST_EMIT in range. -/
def testFields (opc power arg dur : Nat) : Bool :=
  decide (0x60 ≤ opc) && decide (opc ≤ 0x63) && decide (1 ≤ dur) && decide (dur ≤ 600000) &&
    (if opc ≤ 0x61 then decide (power ≤ 63) && (arg % 256 == 5 || arg % 256 == 9) && decide (arg < 1024) else power == 0 && decide (arg < 256))

/-- The limits a test emission keeps (R153, R168). -/
def testAllowed (l : Limits) (opc power arg : Nat) : Bool :=
  l.testPermit && (if opc ≤ 0x61 then l.channel (arg % 256) power else l.coil (opc == 0x63) (arg % 256))

def testEmit (q : Req) (c : CmdRef) (s : Hub) : Reply × Hub :=
  let p := q.payload
  let b := fld p 0 2
  let opc := fld p 2 1
  let power := fld p 3 1
  let arg := fld p 4 2
  if !testFields opc power arg (fld p 8 4) then fail .badParam s
  else if (s.bay b).radio.test.isSome then fail .busy s
  else if opc ≤ 0x61 ∧ (s.bay b).radio.copy = .cal then fail .radioBusy (radioBusyCount b s)
  else if !testAllowed (limits s) opc power arg then fail .regLimit (regRefused b s)
  else
    let s := endPolling b s
    let s := s.setBay b (fun x => { x with st := .idle })
    let s := setRadio b (fun r => { r with test := some { opc := opc, power := power, arg := arg + 4096 * fld p 8 4, ref := c, started := none } }) s
    (.later, tryTest b (wakeLink b s))

/-- The command table's row of TEST_EMIT. -/
def specTestEmit : Spec :=
  { op := 0x0903, lc := lcFC, len := len 12, target := bayAt0, reserved := [6, 7]
    states := fun _ _ x => x.st == .idle || (x.st == .watch && x.dialogues == []) }

def execTestEmit (q : Req) : State → Turn := onHub fun s =>
  .next (hostCommand specTestEmit testEmit q s)

def testEnd (q : Req) (c : CmdRef) (s : Hub) : Reply × Hub :=
  let b := fld q.payload 0 2
  match (s.bay b).radio.test with
  | none => (.done .ok [] [], s)
  | some t =>
    if t.started.isNone then (.async .ok [] [], endTest b .ok 0 s)
    else if t.endRef.isSome then fail .busy s
    else
      (.later, cueNow b 0x6F 0 .testEnd (setRadio b (fun r => { r with test := some { t with endRef := some c } }) s))

/-- The command table's row of TEST_END. -/
def specTestEnd : Spec :=
  { op := 0x0904, urgent := true, lc := lcFC, len := len 4, target := bayAt0, quar := true, reserved := [2, 3]
    states := fun _ _ x => x.st == .idle }

def execTestEnd (q : Req) : State → Turn := onHub fun s =>
  .next (hostCommand specTestEnd testEnd q s)

/-! ## QUEUE_DUMP and CAPTURE_READ (R42, R560, R561) -/

def QKind.code : QKind → Nat
  | .poll => 0 | .discovery => 1 | .auth => 2 | .take => 3 | .rapid => 4 | .continuity => 5 | .tag => 6 | .releaseIo => 7

def Item.isListen (i : Item) : Bool :=
  match i.what with
  | .listen _ _ => true
  | .lfTelegram => false | .hfPing => false | .hfPoll => false | .listenFree => false | .listenLinked _ => false | .calibrate => false
  | .measure _ => false | .authPass => false | .take => false | .rapid => false | .meterReq => false | .tagTxn => false

/-- Groups held as a mask. -/
def groupMask (l : List Nat) : Nat := flags ((List.range 16).map (fun g => l.contains g))

/-- The descriptor of a queue (R42). -/
def descriptor (i : Item) : List Byte :=
  let ord := i.order % 2 ^ 25
  let w0 := atBit 1 31 + atBit i.kind.code 28 + atBit (classCode i.cls) 26 + atBit (i.bay % 16) 22 + atBit (b2n i.isListen) 21 + atBit (b2n i.parked) 20 +
    i.link % 2 ^ 20
  let w3 := atBit (i.cred % 2 ^ 18) 14 + atBit (i.tclass % 4) 12 + atBit (b2n (i.groups != [])) 11 + atBit (i.engine.getD 0 % 8) 8 + bits ord 23 16
  let w4 := atBit (groupMask i.groups) 16 + atBit (i.step % 256) 8 + i.retries % 256
  let w5 := atBit (i.outcome % 256) 24 + atBit (bits ord 24 24) 23 + i.capoff % 2 ^ 22
  let w7 := atBit (bits ord 15 0) 16 + i.hostTag % 65536
  toLe 4 w0 ++ toLe 4 i.earliest ++ toLe 4 i.latest ++ toLe 4 w3 ++ toLe 4 w4 ++ toLe 4 w5 ++ toLe 4 i.session ++ toLe 4 w7

/-- Items in queue order. -/
def insertByQueue (a : Item) : List Item → List Item
  | [] => [a]
  | b :: r => if a.q ≤ b.q then a :: b :: r else b :: insertByQueue a r

/-- The descriptors a QUEUE_DUMP asks for; a queue that is not allocated reads as zeros, VALID 0. -/
def dumped (s : Hub) (r mode b q : Nat) : List (List Byte) :=
  let l := (s.items r).foldl (fun l i => insertByQueue i l) []
  if mode = 0 then [((l.find? (fun i => i.q == q)).map descriptor).getD (List.replicate 32 0)]
  else (if mode = 1 then l.filter (fun i => i.bay == b) else l).map descriptor

def queueDump (q : Req) (_ : CmdRef) (s : Hub) : Reply × Hub :=
  let p := q.payload
  let r := fld p 0 1
  let mode := fld p 1 1
  let b := fld p 2 2
  if 2 < mode ∨ (mode = 1 ∧ regionOf b ≠ r) ∨ (mode = 0 ∧ queuesTotal ≤ fld p 4 4) then fail .badParam s
  else if q.room < 32 then fail .badLength s
  else if (s.region r).st = .off then fail .wrongState s
  else
    let l := dumped s r mode b (fld p 4 4)
    let n := min l.length (q.room / 32)
    (.done .ok [⟨8, 4, n⟩, ⟨12, 4, l.length⟩] (l.take n).flatten, s)

/-- The command table's row of QUEUE_DUMP. -/
def specQueueDump : Spec :=
  { op := 0x0905, act := false, lc := lcFCF, len := len 8, target := fun l => .region (fld l 0 1), quar := true }

def execQueueDump (q : Req) : State → Turn := onHub fun s =>
  .next (hostCommand specQueueDump queueDump q s)

/-- A block of the capture ring: clear, or the samples of a draw. -/
def captureBlock (x : Region) (k : Nat) : List Byte :=
  let n := Tab.get 0 x.capture k
  if n = 0 then List.replicate 4096 0 else toLe 4096 (Config.free (n - 1) 32768).toNat

/-- `n` bytes of the capture ring from offset `o`, wrapping at 4 MiB. -/
def captureBytes (x : Region) (o n : Nat) : List Byte :=
  let first := o / 4096
  (((List.range (n / 4096 + 1)).flatMap (fun k => captureBlock x ((first + k) % 1024))).drop (o % 4096)).take n

def captureRead (q : Req) (_ : CmdRef) (s : Hub) : Reply × Hub :=
  let p := q.payload
  let n := fld p 1 1
  if n < 1 ∨ 16 < n ∨ 0x3FFFFF < fld p 4 4 then fail .badParam s
  else if q.room < 4096 * n then fail .badLength s
  else (.done .ok [] (captureBytes (s.region (fld p 0 1)) (fld p 4 4) (4096 * n)), s)

/-- The command table's row of CAPTURE_READ. -/
def specCaptureRead : Spec :=
  { op := 0x0906, lc := lcFC, len := len 8, target := fun l => .region (fld l 0 1), quar := true, reserved := [2, 3] }

def execCaptureRead (q : Req) : State → Turn := onHub fun s =>
  .next (hostCommand specCaptureRead captureRead q s)

end Sys2Proof.Machine
end

