-- ==== Sys2Proof/Machine/Clocks.lean ====
section
/-! DEFINITION. Clocks (R645 to R668): sources, PLLs that coast and relock, multiplexers, clock measurements, CLOCK_EVENT, and what service does
meanwhile (R655 to R658). -/

namespace Sys2Proof.Machine

def setClk (f : Clk → Clk) (s : Hub) : Hub := { s with clk := f s.clk }

/-- The clock block runs: not in reset, not in S3. -/
def clkRuns (s : Hub) : Bool := decide (s.boot.phase ≠ .held) && decide (s.pwr.chip ≠ .s3)

/-! ## Names and numbers -/

/-- UNIT of CLOCK_EVENT. -/
def pllUnit : Pll → Nat
  | .fpll => 0 | .spll => 1 | .tpll => 2 | .cpll => 3 | .serdes => 4
def muxUnit : Mux → Nat
  | .sclk => 0x10 | .cbclk => 0x11 | .xspi => 0x12 | .rtc => 0x13
def srcUnit : Src → Nat
  | .refclk => 0x20 | .txo => 0x21 | .xtal => 0x22

/-- Bit of CLK_EVENT (R666). -/
def pllBit : Pll → Nat
  | .fpll => 5 | .spll => 6 | .tpll => 7 | .cpll => 8 | .serdes => 9
def muxBit : Mux → Nat
  | .sclk => 0 | .cbclk => 1 | .xspi => 2 | .rtc => 3
def srcBit : Src → Nat
  | .refclk => 10 | .txo => 11 | .xtal => 12

/-- The source of a PLL (R645). -/
def pllSource : Pll → Src
  | .tpll => .txo
  | .fpll => .refclk | .spll => .refclk | .cpll => .refclk | .serdes => .refclk

def allPlls : List Pll := [.fpll, .spll, .tpll, .cpll, .serdes]

def Hub.pll (s : Hub) : Pll → PllSt
  | .fpll => s.clk.fpll | .spll => s.clk.spll | .tpll => s.clk.tpll | .cpll => s.clk.cpll | .serdes => s.clk.serdes

def setPll (p : Pll) (f : PllSt → PllSt) (s : Hub) : Hub :=
  setClk (fun c => match p with
    | .fpll => { c with fpll := f c.fpll }
    | .spll => { c with spll := f c.spll }
    | .tpll => { c with tpll := f c.tpll }
    | .cpll => { c with cpll := f c.cpll }
    | .serdes => { c with serdes := f c.serdes }) s

def Hub.source (s : Hub) : Src → SrcSt
  | .refclk => s.clk.refclk | .txo => s.clk.txo | .xtal => s.aon.xtal

def setSource (x : Src) (f : SrcSt → SrcSt) (s : Hub) : Hub :=
  match x with
  | .refclk => setClk (fun c => { c with refclk := f c.refclk }) s
  | .txo => setClk (fun c => { c with txo := f c.txo }) s
  | .xtal => { s with aon := { s.aon with xtal := f s.aon.xtal } }

def Hub.mux (s : Hub) : Mux → MuxSt
  | .sclk => s.clk.sclk | .cbclk => s.clk.cbclk | .xspi => s.clk.xspi | .rtc => s.aon.rtcMux

def setMux (m : Mux) (f : MuxSt → MuxSt) (s : Hub) : Hub :=
  match m with
  | .sclk => setClk (fun c => { c with sclk := f c.sclk }) s
  | .cbclk => setClk (fun c => { c with cbclk := f c.cbclk }) s
  | .xspi => setClk (fun c => { c with xspi := f c.xspi }) s
  | .rtc => { s with aon := { s.aon with rtcMux := f s.aon.rtcMux } }

/-- A flag of CLK_EVENT is set. -/
def flagClk (n : Nat) (s : Hub) : Hub := setClk (fun c => { c with event := c.event ||| 2 ^ n }) s

/-! ## Service while a PLL coasts (R655 to R658) -/

/-- An item that holds a streaming turn loses its evidence. -/
def loseTurn (i : Item) (s : Hub) : Hub :=
  match i.what with
  | .take => failTake i.bay .evidenceInvalid .internal s
  | .rapid => invalidateRapid i.bay s
  | .listen _ _ => invalidateItem i s
  | .listenFree => windowDone i.bay i.q s
  | .listenLinked _ => windowDone i.bay i.q s
  | .lfTelegram => s | .hfPing => s | .hfPoll => s | .calibrate => s | .measure _ => s | .authPass => s | .meterReq => s | .tagTxn => s

/-- Every streaming turn on the chip is withdrawn. -/
def withdrawTurns (s : Hub) : Hub :=
  forRegions (fun r s =>
    let l := (s.items r).filter (·.turn)
    l.foldl (fun s i => match s.item r i.q with
      | some j => if j.turn then loseTurn j s else s
      | none => s) (s.setRegion r (fun x => { x with turns := 0 }))) s

/-- A wrap whose controller stops goes straight to its seal (R658). -/
def wrapToSeal (b : Nat) (s : Hub) : Hub :=
  match (s.bay b).sess with
  | some x =>
    if x.wrapping ∧ x.phase ≠ .sealing then requestSeal b (dropMeterItem b (setRel b (fun r => { r with req := none }) s)) else s
  | none => s

/-- What a coast entry does to service. -/
def coastEffect (p : Pll) (s : Hub) : Hub :=
  match p with
  | .fpll => withdrawTurns (setClk (fun c => { c with fclkDiv := 3 }) s)
  | .spll => s
  | .tpll =>
    let s := forAllBays unsettle s
    if s.hubIndex = s.masterHub then s else holdover s
  | .cpll => forAllBays wrapToSeal s
  | .serdes =>
    let s := forAllBays (fun b s =>
      let l := (s.bay b).link.state
      if l = .down ∨ l = .fault then s else toFault b .lockLost s) s
    let side := fun (c : CSide) (s : Hub) => if sideUsed s c then setSide c .fault 1 s else s
    side .upper (side .lower s)

/-- A PLL enters its coast (R653): the flag and its counter, a DVFS change that fails, the notice. -/
def coastEntry (p : Pll) (s : Hub) : Hub :=
  let s := setPll p (fun x => { x with lock := false, coast := true, since := s.now }) s
  let s := flagClk (pllBit p) s
  let s := setClk (fun c => match p with
    | .fpll => { c with fpllCnt := min 255 (c.fpllCnt + 1) }
    | .spll => { c with spllCnt := min 255 (c.spllCnt + 1) }
    | .tpll => { c with tpllCnt := min 255 (c.tpllCnt + 1), measCoast := c.measCoast || (c.measSince.isSome && c.measSel == 3) }
    | .cpll => { c with cpllCnt := min 255 (c.cpllCnt + 1), measCoast := c.measCoast || (c.measSince.isSome && c.measSel != 3) }
    | .serdes => c) s
  let s := levelFailed s
  clockEvent 0x01 (pllUnit p) 0 0 0 (coastEffect p s)

/-! ## Multiplexers (R659 to R663) -/

/-- The RTC changes its source (R663, R667). -/
def rtcSource (was : Bool) (s : Hub) : Hub :=
  let n := s.aon.rtcMux.main
  if n = was then s else clockEvent 0x09 0x13 (b2n (!n)) (b2n (!was)) 0 s

/-- A switch releases its output: the input selected, and a request that waited begins. -/
def muxDone (m : Mux) (main : Bool) (s : Hub) : Hub :=
  let was := s.aon.rtcMux.main
  rtcSource was (setMux m (fun x => { main := main, busy := x.queued, queued := none }) s)

/-- A request; one that arrives during a switch waits (R662). -/
def muxRequest (m : Mux) (main : Bool) (s : Hub) : Hub :=
  setMux m (fun x => if x.busy.isSome then { x with queued := some main } else { x with busy := some main }) s

/-- The input a switch of a multiplexer now leads to: that of the request in progress; without one, firmware's request for the other input of
the SCLK or xSPI multiplexer, SPLL only once it has locked. -/
def muxTarget (s : Hub) (m : Mux) : Option Bool :=
  let x := s.mux m
  match x.busy with
  | some t => some t
  | none =>
    match m with
    | .sclk => if x.main ∨ s.clk.spll.lock then some (!x.main) else none
    | .xspi => if x.main ∨ s.clk.spll.lock then some (!x.main) else none
    | .cbclk => none
    | .rtc => none

/-- The multiplexer's clock domain runs: the RTC's always does. -/
def muxRuns (s : Hub) (m : Mux) : Bool := decide (m = .rtc) || clkRuns s

/-- CLOCK_MUX_SWITCH (R660, R662): a request for an input and its normal handshake. -/
def execClockMuxSwitch (m : Mux) (main : Bool) : State → Turn := onHub fun s =>
  .next (
    if !muxRuns s m then s
    else
      match muxTarget s m with
      | some t => if t = main then muxDone m t s else if (s.mux m).busy.isSome then muxRequest m main s else s
      | none => s)

/-- CLKSW_FORCED (R661): the old input gives no edge. -/
def execClkswForced (m : Mux) : State → Turn := onHub fun s =>
  .next (
    if !muxRuns s m then s
    else
      match muxTarget s m with
      | some t =>
        let s := if clkRuns s then flagClk (muxBit m) s else s
        clockEvent 0x03 (muxUnit m) 0 0 0 (muxDone m t s)
      | none => s)

/-- CLKSW_FAIL (R662): the new input gives too few edges, and the fallback input is selected. -/
def execClkswFail (m : Mux) : State → Turn := onHub fun s =>
  .next (
    if !muxRuns s m then s
    else
      match muxTarget s m with
      | some _ =>
        let s := if clkRuns s then flagClk 4 s else s
        clockEvent 0x04 (muxUnit m) 0 0 0 (muxDone m false s)
      | none => s)

/-! ## Sources and PLLs (R651 to R654) -/

/-- A PLL that is locked or relocking coasts when its source is lost. -/
def coastIfFed (x : Src) (p : Pll) (s : Hub) : Hub :=
  let l := s.pll p
  if pllSource p = x ∧ (l.lock ∨ l.coast) then coastEntry p s else s

/-- SOURCE_LOST (R651, R653, R663). -/
def execSourceLost (x : Src) : State → Turn := onHub fun s =>
  .next (
    if !(clkRuns s || decide (x = .xtal)) || !(s.source x).present then s
    else
      let s := setSource x (fun y => { y with present := false, lostAt := s.now }) s
      let s := if clkRuns s then flagClk (srcBit x) s else s
      let s := clockEvent 0x07 (srcUnit x) 0 0 0 s
      if x = .xtal then muxRequest .rtc false s else allPlls.foldl (fun s p => coastIfFed x p s) s)

/-- PLL_PHASE_ERROR (R652). -/
def execPllPhaseError (p : Pll) : State → Turn := onHub fun s =>
  .next (if clkRuns s && (s.source (pllSource p)).present && (s.pll p).lock then coastEntry p s else s)

/-- SOURCE_RETURNED (R651, R663). -/
def execSourceReturned (x : Src) : State → Turn := onHub fun s =>
  .next (
    let y := s.source x
    if !(clkRuns s || decide (x = .xtal)) || y.present then s
    else
      let s := setSource x (fun y => { y with present := true }) s
      let s := clockEvent 0x08 (srcUnit x) 0 0 ((s.now - y.lostAt) / ms 1) s
      if x = .xtal then muxRequest .rtc true s else s)

/-- The PLLs without which no region starts (R668). -/
def regionPlls (s : Hub) : Bool := s.clk.fpll.lock && s.clk.tpll.lock && s.clk.cpll.lock && s.clk.serdes.lock

/-- The level the profile needs is in force (R671). -/
def levelThere (s : Hub) : Bool := s.pwr.dvfs.isNone && decide (s.pwr.pl ≤ levelFor s s.pwr.profile)

/-- The regions that are due start, in index order (R668, R671, R689, R762). -/
def startRegions (s : Hub) : Hub :=
  if s.fwReady && regionPlls s && levelThere s then
    forRegions (fun r s => if (s.region r).due then startRestart r .none_ none (regionPowerTo r .s0 s) else s) s
  else s

/-- Service at the end of a coast, and at a first lock. -/
def lockEffect (p : Pll) (s : Hub) : Hub :=
  match p with
  | .fpll => setClk (fun c => { c with fclkDiv := levelDiv s.pwr.pl }) s
  | .spll => s
  | .tpll => setClk (fun c => { c with tpllBack := some s.now }) s
  | .cpll =>
    let s := if s.clk.cbclk.main ∨ s.clk.cbclk.busy.isSome then s else muxRequest .cbclk true s
    forRegions (fun r s => if busSends s r then busDrain r s else s) s
  | .serdes => s

/-- COAST_EXIT (R654): the PLL has relocked and restores its operating divider; one that has not locked since its reset locks. -/
def execCoastExit (p : Pll) : State → Turn := onHub fun s =>
  .next (
    let l := s.pll p
    if !clkRuns s || !(s.source (pllSource p)).present || l.lock then s
    else
      let s := lockEffect p (setPll p (fun x => { x with lock := true, coast := false }) s)
      let s := if l.coast then clockEvent 0x02 (pllUnit p) 0 0 ((s.now - l.since) / ms 1) s else s
      startRegions s)

/-! ## Level changes (R672 to R675) -/

/-- DVFS_STEP (R273, R648, R671, R672, R675). -/
def execDvfsStep : State → Turn := onHub fun s =>
  .next (match s.pwr.dvfs with
    | some d => startRegions (dvfsStep d s)
    | none => s)

/-- VOLTAGE_SETTLED (R672, R673): a Voltage read within ±10 mV of the set point. -/
def execVoltageSettled (mv : Nat) : State → Turn := onHub fun s =>
  .next (match s.pwr.dvfs with
    | some d =>
      if d.step = .settle ∧ mv ≤ s.pwr.setMv + 10 ∧ s.pwr.setMv ≤ mv + 10 then
        (if d.new < d.old then setDvfs (fun d => { d with step := .assist }) s else startRegions (levelDone d s))
      else s
    | none => s)

/-- DVFS_FAIL (R674): no settled voltage, or no AVSBus transaction. -/
def execDvfsFail : State → Turn := onHub fun s =>
  .next (match s.pwr.dvfs with
    | some d => if d.step = .settle ∨ d.step = .voltage then levelFailed s else s
    | none => s)

/-! ## Clock measurement (R666) -/

/-- CLK_MEAS_DONE: 1 ms of the reference has been counted; the frequency is what the clocks gave. -/
def execClkMeasDone : State → Turn := onHub fun s =>
  .next (
    match s.clk.measSince with
    | some t =>
      if clkRuns s && s.passed t (ms 1) then
        let f := freeVal 29 s
        setClk (fun c => { c with measSince := none, measValid := true, measValue := f.1, measUnitHz := c.measSel == 6 || c.measSel == 7 }) f.2
      else s
    | none => s)

end Sys2Proof.Machine
end

