-- ==== Sys2Proof/Machine/Power.lean ====
section
/-! DEFINITION. Power states (R676 to R689) and the commands POWER_SET, RAPID_RESERVE and POWER_STATUS (R586, R588, R590). Each row of an
entry is one step between two abort points. -/

namespace Sys2Proof.Machine

/-! ## Regions (R679 to R685) -/

/-- A present region whose domain the power controller runs: not OFF, the chip in S0. -/
def gated (s : Hub) (r : Nat) : Bool :=
  s.regionPresent r && s.fwReady && decide (s.pwr.chip = .s0) && decide ((s.region r).power ≠ .off)

def stepTo (r n : Nat) (s : Hub) : Hub := s.setRegion r (fun x => { x with powerStep := n })

/-- No port of the region is UP. -/
def noneUp (s : Hub) (r : Nat) : Bool := (baysOf r).all (fun b => !isUp s b)

/-- The ports of a region that something keeps UP are woken. -/
def wakePorts (r : Nat) (s : Hub) : Hub := forBays r (fun b s => if wantsUp s b then wakeLink b s else s) s

/-- S1_ENTRY (R679, R681): its UP ports go to DROWSE (R118), then FCLK is gated. -/
def execS1Entry (r : Nat) : State → Turn := onHub fun s =>
  atRegion r s (fun s =>
    let x := s.region r
    if !gated s r || decide (regionVotes s r ≠ 0) || decide (x.power ≠ .s0) then s
    else if x.powerStep = 0 then if nth 0 s.pwr.floors r = 1 then stepTo r 1 s else s
    else if x.powerStep = 1 ∧ noneUp s r then regionPowerTo r .s1 s
    else s)

/-- S1_EXIT (R679, R681): a vote, in S1 or during its entry. -/
def execS1Exit (r : Nat) : State → Turn := onHub fun s =>
  atRegion r s (fun s =>
    let x := s.region r
    if !gated s r || decide (regionVotes s r = 0) then s
    else if x.power = .s1 ∧ x.powerStep = 0 then wakePorts r (regionPowerTo r .s0 s)
    else if x.powerStep = 1 then wakePorts r (stepTo r 0 s)
    else s)

/-- LINKDOWN on every port, REL_STBY[r] high, the power switch open (R113, R410, R682). -/
def openSwitch (r : Nat) (s : Hub) : Hub :=
  let s := forBays r (takeDown · .hostDisable) s
  regionPowerTo r .s2 (setBus r (fun u => { u with stbyHigh := true }) s)

/-- S2_ENTRY (R679, R682): from S0 or S1 with floor S2; each step waits at its abort point for no vote. -/
def execS2Entry (r : Nat) : State → Turn := onHub fun s =>
  atRegion r s (fun s =>
    let x := s.region r
    if !gated s r || decide (regionVotes s r ≠ 0) || decide (x.power = .s2) then s
    else if x.powerStep = 0 then if nth 0 s.pwr.floors r = 2 then stepTo r 2 s else s
    else if x.powerStep = 2 then if noneUp s r then stepTo r 3 s else s
    else if x.powerStep = 3 then stepTo r 4 s
    else if x.powerStep = 4 then openSwitch r s
    else s)

/-- PWR_EVENT counts an aborted entry (R683). -/
def countAbort (s : Hub) : Hub := setPwr (fun p => { p with abortCount := satAddAt 0xFF p.abortCount 1, entryAborted := true }) s

/-- S2_ABORT (R683): a vote at an abort point; the region goes on in the state the entry began from, its ports woken. -/
def execS2Abort (r : Nat) : State → Turn := onHub fun s =>
  atRegion r s (fun s =>
    let x := s.region r
    if !gated s r || decide (regionVotes s r = 0) || decide (x.powerStep < 2) || (decide (x.powerStep = 2) && !noneUp s r) then s
    else wakePorts r (countAbort (stepTo r 0 s)))

/-- A voltage step runs (R675). -/
def voltageRuns (s : Hub) : Bool :=
  match s.pwr.dvfs with
  | some d => decide (d.step = .settle)
  | none => false

/-- S2_EXIT (R675, R685): a vote; regions of lower index that leave S2 at once go first. A region whose SRAM was lost in S3 comes up as in a
restart (R689). -/
def execS2Exit (r : Nat) : State → Turn := onHub fun s =>
  atRegion r s (fun s =>
    let x := s.region r
    let first := (List.range r).all (fun k => !(decide ((s.region k).power = .s2) && decide (regionVotes s k ≠ 0)))
    if !gated s r || decide (regionVotes s r = 0) || decide (x.power ≠ .s2) || !first || voltageRuns s then s
    else if x.lost then startRegions (s.setRegion r (fun x => { x with due := true }))
    else regionPowerTo r .s0 (setBus r (fun u => { u with stbyHigh := decide (x.st = .off) }) s))

/-! ## S3 (R686 to R689) -/

/-- Step 1: the flash in deep power-down, both PCI Express ports disabled. -/
def s3Ports (s : Hub) : Hub :=
  forPorts (fun p s => s.setPort p (fun h =>
    { h with normal := h.normal.cleared, urgent := h.urgent.cleared, linkUp := false
             ntc := { h.ntc with enable := false, head := 0, tail := 0 } })) s

/-- Step 2: SCLK and the xSPI clock on FIO, the PLLs stopped, VDD_CORE at the PL3 set point. -/
def s3Clocks (s : Hub) : Hub :=
  let stop := fun (l : PllSt) => ({ l with lock := false, coast := false } : PllSt)
  let s := setClk (fun c => { c with sclk := {}, xspi := {}, fpll := stop c.fpll, spll := stop c.spll, tpll := stop c.tpll
                                     serdes := stop c.serdes, fclkDiv := 3 }) s
  let s := if s.pwr.setMv = levelMv s 3 then s else s.emit (.avs (levelMv s 3))
  setPwr (fun p => { p with pl := 3, plTarget := 3, fbb := false, readAssist := true, setMv := levelMv s 3 }) s

/-- A region's SRAM is lost: it holds nothing and is OFF until it is brought up. -/
def loseRegion (r : Nat) (s : Hub) : Hub :=
  if s.regionPresent r ∧ (s.region r).power = .s2 then
    (clearRegion r s).setRegion r (fun x =>
      { x with st := .off, lost := true, seqRuns := false, halted := false, restartLimit := false, imageVersion := 0 })
  else s

/-- A noise source starts out (R722). -/
def NoiseSrc.restart (x : NoiseSrc) : NoiseSrc := { x with admitted := false, started := false }

/-- Step 4: what S3 loses (R676): the regions' SRAM, the credential store, the DRBG state, the reserve; the cascade's links stay down. -/
def s3Lose (s : Hub) : Hub :=
  let s := rngDown s
  let s := s.setRng (fun g => { g with reserve := [], srcs := g.srcs.map NoiseSrc.restart })
  let s := setSide .upper .down 0 (setSide .lower .down 0 s)
  forRegions loseRegion { s with creds := { s.creds with slots := [] } }

def setChip (x : ChipPower) (s : Hub) : Hub := setPwr (fun p => { p with chip := x }) s

/-- S3_ENTRY (R679, R686): begun with the last chip vote withdrawn; each step waits at its abort point for no wake event. -/
def execS3Entry : State → Turn := onHub fun s =>
  .next (
    match s.pwr.chip with
    | .s0 =>
      if s.fwReady && decide (chipVotes s = 0) then s3Ports (setPwr (fun p => { p with chip := .entering 1, wakeDuring := false }) s) else s
    | .entering n =>
      if s.pwr.wakeDuring then s
      else if n = 1 then setChip (.entering 2) (s3Clocks s)
      else if n = 2 then setChip (.entering 3) s
      else setChip .s3 (s3Lose s)
    | .s3 => s)

/-- A PLL locks at a wake, where its source is there. -/
def lockNow (p : Pll) (s : Hub) : Hub :=
  if (s.source (pllSource p)).present ∧ !(s.pll p).lock then setPll p (fun x => { x with lock := true, coast := false }) s else s

/-- Clocks and level at a wake (R689): the PLLs lock, SCLK and the xSPI clock go to the SPLL, the level the profile needs is asked for. -/
def wakeClocks (s : Hub) : Hub :=
  let s := [Pll.fpll, .spll, .tpll, .serdes].foldl (fun s p => lockNow p s) s
  let s := if s.clk.spll.lock then setClk (fun c => { c with sclk := { main := true }, xspi := { main := true } }) s else s
  let l := levelFor s s.pwr.profile
  if l = s.pwr.pl ∨ s.pwr.dvfs.isSome then s else startLevel l none s

/-- S3_ABORT (R683, R686, R688): a wake event at an abort point; the steps taken are undone. -/
def execS3Abort : State → Turn := onHub fun s =>
  .next (
    match s.pwr.chip with
    | .s0 => s
    | .s3 => s
    | .entering n =>
      if s.pwr.wakeDuring then
        let s := countAbort (setPwr (fun p => { p with chip := .s0, wakeDuring := false, smbStretch := false }) s)
        if n = 1 then s else wakeClocks s
      else s)

/-- S3_EXIT (R687, R689): a wake event; the store is reloaded, the DRBG instantiated anew once its sources have started, and the regions with
votes brought up. -/
def execS3Exit : State → Turn := onHub fun s =>
  .next (
    match s.pwr.chip with
    | .s0 => s
    | .entering _ => s
    | .s3 =>
      if s.pwr.wakeDuring || decide (s.pwr.wakeSrc ≠ 0) then
        let s := setPwr (fun p => { p with chip := .s0, wakeDuring := false, smbStretch := false, s3Resumed := true }) s
        let s := wakeClocks { s with creds := { s.creds with loading := true } }
        let s := powerNotice chipSrc 0x04 s.pwr.pl s.pwr.pl s.pwr.wakeSrc s
        startRegions (forRegions (fun r s => if (s.region r).lost ∧ regionVotes s r ≠ 0 then s.setRegion r (fun x => { x with due := true }) else s) s)
      else s)

/-- WAKE_SOURCE_SERVED (R680): an SMBus wake 100 ms after the last transaction; a wake line once R196 has been served at its region. -/
def execWakeSourceServed (n : Nat) : State → Turn := onHub fun s =>
  atUnit 16 n s (fun s =>
    let served :=
      if n = 0 then s.passed s.host.smb.lastUse (ms 100) && !s.host.smb.busy
      else if n = 1 then decide (s.pwr.wakeSrc / 256 = 0)
      else if 8 ≤ n then !((s.region (n - 8)).wakeLow && !(s.region (n - 8)).wakeMasked)
      else true
    if s.fwReady && decide (s.pwr.chip = .s0) && bit s.pwr.wakeSrc n && served then
      setPwr (fun p => { p with wakeSrc := w1c p.wakeSrc (2 ^ n) 0xFF0F }) s
    else s)

/-! ## Commands -/

/-- POWER_SET (R586): floors and S3_ALLOW; entries of fused-off regions are ignored. -/
def powerSet (q : Req) (_ : CmdRef) (s : Hub) : Reply × Hub :=
  let l := (List.range 8).map (fun r => fld q.payload r 1)
  let a := fld q.payload 8 1
  if (List.range 8).any (fun r => s.regionPresent r && decide (2 < nth 0 l r)) || decide (1 < a) then fail .badParam s
  else
    (.done .ok [bytesFld 0 (q.payload.take 9)] [],
     setPwr (fun p => { p with floors := (List.range 8).map (fun r => if s.regionPresent r then nth 0 l r else 0), s3Allow := a == 1 }) s)

/-- The command table's row of POWER_SET. -/
def specPowerSet : Spec :=
  { op := 0x0503, lc := lcFCF, len := len 12, reserved := [9, 10, 11] }

def execPowerSet (q : Req) : State → Turn := onHub fun s =>
  .next (hostCommand specPowerSet powerSet q s)

/-- RAPID_RESERVE (R312, R588): takes effect at the next slot boundary, after those that came before it. -/
def rapidReserve (q : Req) (c : CmdRef) (s : Hub) : Reply × Hub :=
  let v := fld q.payload 0 1
  if 1 < v then fail .badParam s
  else (.later, { s with reserveNext := s.reserveNext ++ [(v == 1, c)] })

/-- The command table's row of RAPID_RESERVE. -/
def specRapidReserve : Spec :=
  { op := 0x0505, lc := lcFCF, len := len 4, reserved := [1, 2, 3] }

def execRapidReserve (q : Req) : State → Turn := onHub fun s =>
  .next (hostCommand specRapidReserve rapidReserve q s)

/-- The hottest junction, 0.1 °C. -/
def hottest (s : Hub) : Int := (s.sens.temp.max?).getD 0

/-- A PLL coasts. -/
def anyCoast (s : Hub) : Bool := allPlls.any (fun p => (s.pll p).coast)

def powerStatusResult (s : Hub) : List Fld :=
  let c := s.boot.cal
  [⟨0, 1, s.pwr.pl⟩, ⟨1, 1, profileInForce s⟩, ⟨2, 1, s.pwr.plPin.getD 0xFF⟩, ⟨3, 1, b2n s.reserve⟩] ++
  (List.range 8).map (fun r => ⟨4 + r, 1, regionPwr s r⟩) ++
  [⟨12, 1, b2n s.pwr.s3Allow⟩,
   ⟨13, 1, flags [s.eng.mainPresent, s.eng.mainLost, decide (c.cHold = 0), s.pwr.dvfs.isSome, anyCoast s]⟩,
   ⟨16, 2, s.pwr.setMv⟩, ⟨18, 2, unsigned 16 (hottest s)⟩, ⟨20, 4, min sat32 (eAvail s / 2000000000000)⟩, ⟨24, 4, c.cHold⟩, ⟨28, 4, c.pLoad⟩,
   ⟨32, 2, c.vMin⟩, ⟨34, 1, c.vDiv⟩, ⟨35, 1, c.tPage⟩]

/-- POWER_STATUS (R590). -/
def powerStatus (_ : Req) (_ : CmdRef) (s : Hub) : Reply × Hub := (.done .ok (powerStatusResult s) [], s)

/-- The command table's row of POWER_STATUS. -/
def specPowerStatus : Spec :=
  { op := 0x0507, urgent := true, smbus := true, act := false, lc := lcAll, len := len 0 }

def execPowerStatus (q : Req) : State → Turn := onHub fun s =>
  .next (hostCommand specPowerStatus powerStatus q s)

end Sys2Proof.Machine
end

