-- ==== Sys2Proof/Machine/Chip.lean ====
section
/-! DEFINITION. Resets, chip faults (R631 to R635), junction sensors (R828, R829), tamper inputs and alarms (R690 to R697), the vault's alarm
(R742), and brown-out (R807). -/

namespace Sys2Proof.Machine

/-! ## Reset (R746, R748) -/

/-- Every domain but the always-on one takes its reset value, fuses and flash stay, and every PWRPERMIT line is low; `k` is what the reset
keeps beside them. Temperatures and the levels at TCAP are the surroundings', not the hub's. -/
def resetHub (k : Kept) (s : Hub) : Hub :=
  { out := s.out, draws := s.draws, now := s.now, fuse := s.fuse, flash := s.flash, aon := s.aon, kept := k
    nv := { s.nv with reel := { s.nv.reel with erasing := 0 } }, sens := { temp := s.sens.temp }, tmu := { tcap := s.tmu.tcap }
    bays := baysReset s.fuse.order }

/-- A reset that keeps nothing but the always-on domain: POR_N, and a rail below its brown-out threshold. -/
def powerOnReset (s : Hub) : Hub := resetHub {} s

/-- POR_N_ASSERT (R10, R27, R746). -/
def execPorNAssert : State → Turn := onHub fun s => .next (powerOnReset s)

/-- SYS_RST_N_ASSERT (R746, R747): no further effect while POR_N holds the hub. -/
def execSysRstNAssert : State → Turn := onHub fun s =>
  .next (if s.boot.phase = .held ∧ s.kept.cause = .por then s else resetHub { s.kept with cause := .sys } s)

/-- RST_OUT_N is low: a reset is in force, and for 1 ms more (R746, R748). -/
def rstOutLow (s : Hub) : Bool := decide (s.boot.phase = .held) || !s.passed s.boot.releasedAt (ms 1)

/-- Brown-out thresholds, mV (R815). -/
def brownOutMv : Rail → Nat
  | .core => 550 | .sup => 660 | .keep => 660 | .io33 => 2800

/-- BROWN_OUT (R483, R807, R815): the hub holds itself in reset as POR_N does. `torn` slots of the reel page in progress are left programmed
with what fails its CRC (R471). -/
def execBrownOut (rail : Rail) (mv torn : Nat) : State → Turn := onHub fun s =>
  .next (
    if mv < brownOutMv rail then
      let l := s.nv.reel
      let k := if s.fwReady then min torn (min (4 - l.nextSlot % 4) (l.erasedTo - l.nextSlot)) else 0
      powerOnReset (s.setReel (fun l => { l with tornSlots := max l.tornSlots k }))
    else s)

/-! ## Chip faults (R631 to R635) -/

/-- Four chip faults within 3,600 s, the newest first. -/
def fourWithin (l : List Nat) : Bool :=
  match l with
  | a :: _ :: _ :: d :: _ => decide (a ≤ d + 3600)
  | _ => false

/-- What a chip fault leaves behind (R633, R635). -/
def Kept.record (k : Kept) (cause tamper rtc : Nat) : Kept :=
  let h := (rtc :: k.history).take 4
  { cfValid := true, cfCause := cause, cfTamper := tamper, cfCount := satAddAt 0xFFFF k.cfCount 1, cfRtc := rtc, history := h
    faultLimit := k.faultLimit || fourWithin h, cause := k.cause }

/-- A chip fault (R632): every PWRPERMIT low, CHIP_FAULT written, and the internal reset. One that falls while SYS_RST_N is low is recorded,
and SYS_RESET stays the cause (R774); while POR_N holds the hub nothing is. -/
def chipFault (cause : Nat) (s : Hub) : Hub :=
  let k := s.kept.record cause s.aon.tamperAct s.aon.rtc
  if s.boot.phase ≠ .held then resetHub { k with cause := .fault } s
  else if s.kept.cause = .por then s
  else { s with kept := k }

/-- CHIP_FAULT (R631, R632): SUP_MEMORY, or any other of the five. -/
def execChipFault (cause : Nat) : State → Turn := onHub fun s =>
  if cause = 0 then .fault .noSuchUnit else atUnit 6 cause s (chipFault cause)

/-- The supervisor is clocked. -/
def supRuns (s : Hub) : Bool := decide (s.boot.phase ≠ .held) && decide (s.pwr.chip ≠ .s3)

/-- SUP_WATCHDOG (R631): 50 ms without a service. -/
def execSupWatchdog : State → Turn := onHub fun s => .next (if supRuns s then chipFault 1 s else s)

/-- VAULT_ALARM (R742): volatile keys, DRBG state and pool are erased with the reset. -/
def execVaultAlarm : State → Turn := onHub fun s => .next (chipFault 3 s)

/-- One sample of each sensor that is sampled now: all 12, in S3 the vault's alone. -/
def sampleSensors (t : List Int) (s : Hub) : Hub :=
  let seen := fun (i : Nat) => decide (s.pwr.chip ≠ .s3) || i == 9
  let temp := (List.range 12).map (fun i => if seen i then nth 0 t i else nth 0 s.sens.temp i)
  let hot := (List.range 12).map (fun i => if seen i then (if 1180 ≤ nth 0 t i then nth 0 s.sens.hot i + 1 else 0) else nth 0 s.sens.hot i)
  { s with sens := { temp := temp, hot := hot } }

/-- TEMP_SENSOR_SAMPLE (R828, R829): 118 °C or more in 4 consecutive samples is THERMAL_TRIP. -/
def execTempSensorSample (t : List Int) : State → Turn := onHub fun s =>
  if t.length ≠ 12 then .fault .noSuchUnit
  else if s.boot.phase = .held then .next s
  else
    let s := sampleSensors t s
    .next (if s.sens.hot.any (fun n => decide (4 ≤ n)) then chipFault 5 s else s)

/-! ## Tamper inputs, alarms, backup (R690 to R697) -/

/-- An entry of the backup event buffer (R691). -/
def backupEntry (src level : Nat) (s : Hub) : Hub :=
  if s.aon.buffer.length < 16 then
    { s with aon := { s.aon with buffer := s.aon.buffer ++ [{ src := src, level := level, rtc := s.aon.rtc % 2 ^ 48 }] } }
  else { s with aon := { s.aon with dropped := satAdd s.aon.dropped 1 } }

/-- The level at which input `n` is active. -/
def tamperLevelOf (s : Hub) (n : Nat) : Nat := b2n (bit s.aon.tamperLevel n)

/-- TAMPER_ACTIVE (R687, R691, R695): input `n` becomes active. -/
def execTamperActive (n : Nat) : State → Turn := onHub fun s =>
  atUnit 4 n s (fun s =>
    if !bit s.aon.tamperEn n then s
    else
      let s := { s with aon := { s.aon with tamperAct := s.aon.tamperAct ||| 2 ^ n } }
      if s.aon.inS4 then backupEntry n (tamperLevelOf s n) s else chipFault 4 s)

/-- What an alarm does outside S4 (R697): the EVENT, and in S3 and during its entry the wake. -/
def alarmInService (n : Nat) (s : Hub) : Hub :=
  let s := if s.fwReady then postEvent 6 chipSrc [⟨0, 1, n⟩] s else s
  match s.pwr.chip with
  | .s0 => s
  | .entering _ => setPwr (fun p => { p with wakeSrc := p.wakeSrc ||| 8, wakeDuring := true }) s
  | .s3 => setPwr (fun p => { p with wakeSrc := p.wakeSrc ||| 8, wakeDuring := true }) s

/-- RTC_ALARM (R691, R693, R697): the RTC has entered the compare value of an enabled alarm. -/
def execRtcAlarm (n : Nat) : State → Turn := onHub fun s =>
  atUnit 2 n s (fun s =>
    if !bit s.aon.alarmDue n then s
    else
      let s := { s with aon := { s.aon with alarmDue := s.aon.alarmDue &&& (3 ^^^ 2 ^ n), alarmFired := s.aon.alarmFired ||| 2 ^ n } }
      if s.aon.inS4 then
        let s := backupEntry (8 + n) 0 s
        if bit s.aon.alarmWakeOut n then { s with aon := { s.aon with wakeOut := true, wakeOutAt := s.now } } else s
      else if s.boot.phase = .held then s
      else alarmInService n s)

/-- WAKE_OUT_END (R693): VDD_KEEP is back and has been for 10 ms, or 60 s are over. -/
def execWakeOutEnd : State → Turn := onHub fun s =>
  .next (if s.aon.wakeOut && (!s.aon.inS4 || s.passed s.aon.wakeOutAt (sec 60)) then { s with aon := { s.aon with wakeOut := false } } else s)

/-- S4_ENTRY (R690, R802, R817): the always-on domain moves to VBAT; the hub is in reset before that. -/
def execS4Entry : State → Turn := onHub fun s =>
  .next (
    if s.aon.inS4 then s
    else
      let s := powerOnReset s
      { s with aon := { s.aon with inS4 := true, outages := satAdd s.aon.outages 1 } })

end Sys2Proof.Machine
end

