-- ==== Sys2Proof/Machine/Boot.lean ====
section
/-! DEFINITION. Boot (R749 to R766): the ROM's decision, what the supervisor image finds and repairs at its start, and the first seconds of
service. BOOT is everything from the release of a reset to FW_READY and the start of what has limits of its own: the store load, recovery, RNG
startup, level and regions run on by their own rows. -/

namespace Sys2Proof.Machine

def setBoot (f : Boot → Boot) (s : Hub) : Hub := { s with boot := f s.boot }

/-! ## Release of a reset -/

/-- The always-on domain at the return (R690, R693, R694): content lost where VBAT was, WAS_BACKUP after POR_N. -/
def aonBack (m : BootInput) (s : Hub) : Hub :=
  let a := s.aon
  let a : Aon := if a.inS4 ∧ !m.vbat then { xtal := a.xtal, rtcMux := a.rtcMux } else if s.kept.cause = .por then { a with wasBackup := a.inS4 } else a
  { s with aon := { a with inS4 := false, tamperAct := a.tamperAct &&& (15 ^^^ ((m.tamper ^^^ a.tamperLevel) % 16)) } }

/-- Sources, PLLs that lock, and the multiplexers that follow (R659). -/
def clocksUp (m : BootInput) (s : Hub) : Hub :=
  let k := fun (p : Bool) => ({ lock := p } : PllSt)
  setClk (fun c => { c with refclk := { present := m.refclk }, txo := { present := m.txo }, fpll := k m.refclk, spll := k m.refclk, tpll := k m.txo
                            cpll := k m.refclk, serdes := k m.refclk, sclk := { main := m.refclk }, xspi := { main := m.refclk }
                            cbclk := { main := m.refclk } }) s

/-- The largest power of two up to 256 MiB that fits (R756). -/
def firstReelMiB (s : Hub) : Nat := if s.flash.densityMiB < 384 then 128 else 256

/-- A loss of the store goes to the reel (R367): EVENT STORE_LOSS with the block and the slots lost. -/
def storeLoss (k n : Nat) (s : Hub) : Hub := postEvent 4 chipSrc [⟨0, 2, k⟩, ⟨2, 2, n⟩] s

/-- Sectors that fail their checks from this start on (R367, R556, R740, R755, R764). -/
def sectorsFail (m : BootInput) (s : Hub) : Hub :=
  m.lost.foldl (fun s (x : FlashArea × Nat × Bool) =>
    let hi := x.2.2
    match x.1 with
    | .boot => { s with flash := { s.flash with boot := s.flash.boot.fails hi } }
    | .comp => { s with flash := { s.flash with comp := s.flash.comp.fails hi } }
    | .site => { s with flash := { s.flash with site := s.flash.site.fails hi } }
    | .vault => s.setNv (fun v => { v with vaultStore := Tab.put {} x.2.1 ((twinAt v.vaultStore x.2.1).fails hi) v.vaultStore })
    | .fleet => s.setNv (fun v => { v with fleetStore := Tab.put {} x.2.1 ((twinAt v.fleetStore x.2.1).fails hi) v.fleetStore })) s

/-- What the two-sector areas hold comes into force: the vault's records, the fleet table, the site record, whose values after BLANK stand in for it
where neither sector is sound (log entry 187). -/
def flashRead (m : BootInput) (s : Hub) : Hub :=
  let s := sectorsFail m s
  let s := s.setNv (fun v => { v with vault := vaultRead m.vaultLost v.vaultStore, fleets := fleetRead v.fleetStore })
  siteRead (s.flash.site.now.getD { sizeMiB := firstReelMiB s }) s

/-- Losses of the vault go to the reel (R740): per block, the records that fail their CRC or unwrap; a block with no sound sector loses all 32. -/
def vaultLosses (m : BootInput) (s : Hub) : Hub :=
  s.nv.vaultStore.foldl (fun s p =>
    let n := match p.2.now with
      | some t => (t.filter (fun x => m.vaultLost.contains x.1)).length
      | none => if p.2.s0.isSome || p.2.s1.isSome then 32 else 0
    if n = 0 then s else storeLoss (p.1 + 0x8000) n s) s

/-- A reset is released: straps, links, sources, main power (R747, R749, R809). -/
def released (m : BootInput) (s : Hub) : Hub :=
  let s := flashRead m (clocksUp m (aonBack m s))
  let s := forPorts (fun p s => s.setPort p (fun h => { h with linkUp := match p with | .a => m.linkA | .b => m.linkB })) s
  setBoot (fun b => { b with smbStrap := m.strap % 8, releasedAt := s.now, vaultUp := m.vaultOk && rootMatches s }) (s.setEng (fun e => { e with mainPresent := m.main }))

/-! ## The ROM (R750, R764, R765) -/

/-- The ROM writes the boot record: only with main power, which BOOT waits for. -/
def romBoot (f : BootRec → BootRec) (s : Hub) : Hub := bootWritten f s

/-- BOOT_TRY − TRY_BASE. -/
def trialRun (s : Hub) : Nat := cellVal s cellBootTry - (bootRec s).tryBase

/-- The rules of a trial at the start (R765). -/
def romTrial (s : Hub) : Hub :=
  let r := bootRec s
  if !r.trial then s
  else if 3 ≤ trialRun s then romBoot (fun r => { r with supActive := 1 - r.supActive, trial := false, fellBack := true }) s
  else cellRaise cellBootTry (cellVal s cellBootTry + 1) s

def toRecovery (reason : Nat) (s : Hub) : Hub := setBoot (fun b => { b with phase := .rom, recovery := reason }) s

/-- The slot the ROM starts (R750): the one named, or the other where that fails. -/
def romSlot (s : Hub) : Option Nat :=
  let n := (bootRec s).supActive
  if slotValid s 0 (supImage s n) then some n else if slotValid s 0 (supImage s (1 - n)) then some (1 - n) else none

/-- The supervisor image of a slot starts (R774). -/
def startSup (slot : Nat) (s : Hub) : Hub :=
  let r := bootRec s
  let other := decide (slot ≠ r.supActive)
  setBoot (fun b => { b with phase := .running, readyAt := s.now, supSlot := slot, regSlot := r.regActive, fellBack := other || r.fellBack
                             trial := r.trial && !other, tries := if r.trial then min 0xFF (trialRun s) else 0 }) s

/-! ## The life-cycle fuses (R769, R770) -/

/-- Every copy of the fields below a state programmed. -/
def lcFilled (l : List Nat) : List Nat := (List.range 12).map (fun i => if i < 3 * lcState l then 0xA5 else nth 0 l i)

/-- The state from which the transition to the present one began: that of the highest lower field programmed. -/
def lcOld (l : List Nat) : Nat := (((List.range (lcState l)).filter (fun n => n == 0 || lcProgrammed l (n - 1))).getLast?).getD 0

/-- The reel holds an EVENT of KIND LIFECYCLE to a state. -/
def lifecycleOnReel (s : Hub) (n : Nat) : Bool :=
  s.nv.reel.recs.any (fun r => r.typ == 8 && fld r.body 0 2 == 8 && fld r.body 17 1 == n)

/-- The EVENT of a transition (R457). -/
def lifecycleDetail (old new torn : Nat) : List Fld := [⟨0, 1, old⟩, ⟨1, 1, new⟩, ⟨2, 1, torn⟩]

/-- LC_TORN_REPAIR (R770). -/
def lcRepair (s : Hub) : Hub :=
  if !lcTorn s.fuse.lc then s
  else
    let old := lcOld s.fuse.lc
    let n := s.lc
    let s := { s with fuse := { s.fuse with lc := lcFilled s.fuse.lc } }
    if lifecycleOnReel s n then s else postEvent 8 chipSrc (lifecycleDetail old n 1) s

/-- Every vault record but the device's public key is cleared, block by block (R743, R744). -/
def vaultCleared (s : Hub) : Hub :=
  let keep := fun (p : Nat × VKey) => decide (p.1 = vaultNo 0x13 0)
  let ks := (List.range 17).filter (fun k => (vaultPart s k).any (fun p => !keep p))
  ks.foldl (fun s k => vaultProgram k (vaultErase k s)) (s.setNv (fun v => { v with vault := v.vault.filter keep }))

/-! ## What the supervisor checks (R147, R149, R777) -/

/-- The compliance page in force: the valid one with the higher PAGE_VERSION (R556); none valid, the newer that lies there, which is not in force. -/
def compChecked (s : Hub) : Hub :=
  let l := s.flash.comp
  match l.inUse (fun x => pageIntact x.data && pageSigned s x.data) with
  | some (hi, _) => setBoot (fun b => { b with compHi := hi, compValid := true }) s
  | none => setBoot (fun b => { b with compHi := ((l.inUse anySector).map (·.1)).getD false, compValid := false }) s

def pagesChecked (s : Hub) : Hub :=
  let s := compChecked s
  match s.flash.cal with
  | some c => if c.serial = Config.serial.toNat then setBoot (fun b => { b with cal := c, calValid := true }) s else s
  | none => s

/-- The region slot (R766). -/
def regionSlotChecked (s : Hub) : Hub :=
  let a := activeSlot s
  if regStarts s a ∨ !regStarts s (1 - a) ∨ !s.eng.mainPresent then s
  else
    let s := setBoot (fun b => { b with regFellBack := true, regSlot := 1 - a }) (romBoot (fun r => { r with regActive := 1 - a }) s)
    postEvent 9 chipSrc [⟨0, 1, 1⟩, ⟨1, 1, 1 - a⟩, ⟨2, 4, imageVersion (regImage s (1 - a))⟩] s

/-! ## The reel, the journal and the cells (R249, R461, R471, R490, R756) -/

/-- Every cell whose copies disagree is repaired (R249). -/
def cellsRepaired (s : Hub) : Hub := (s.nv.cells.map (·.1)).foldl (fun s n => cellRepair n s) s

/-- The first initialisation: an erased area and the EVENT of KIND REEL_INIT. -/
def reelMade (s : Hub) : Hub :=
  if s.nv.reel.made then s
  else
    let n := firstReelMiB s
    postEvent 1 chipSrc [⟨0, 2, 0x9144⟩, ⟨2, 2, stepping⟩, ⟨4, 8, Config.serial.toNat⟩, ⟨12, 4, n⟩]
      (siteWritten (s.setReel (fun l => { l with made := true, sizeMiB := n, erasedTo := l.nextSlot + n * 16384 })))

/-- Slots that a torn program left are VOID (R471). -/
def reelVoided (s : Hub) : Hub :=
  let k := s.nv.reel.tornSlots
  if k = 0 then s
  else
    let first := s.nv.reel.nextSeq
    let at_ := fun (i : Nat) => flashReel + 64 * ((s.nv.reel.nextSlot + i) % (64 * reelSectors s.nv.reel))
    let s := (List.range k).foldl (fun s i => s.program (at_ i) (List.replicate 64 0)) s
    let s := s.setReel (fun l => { l with nextSlot := l.nextSlot + k, voidedSince := l.voidedSince + k, tornSlots := 0 })
    postEvent 3 chipSrc [⟨0, 8, first⟩, ⟨8, 4, k⟩] (s.setEng (fun e => { e with cnt := { e.cnt with voided := satAdd e.cnt.voided k } }))

/-- The highest session counter named on the reel or in the journal (R461). -/
def namedSession (s : Hub) : Nat :=
  let l := (s.nv.reel.recs.filter (fun r => r.typ == 1 && r.part == 0)).map (fun r => fld r.body 0 8 % 2 ^ 48)
  let j := s.nv.journal.entries.filterMap (fun r => match r.e with | .open_ n .. => some (n % 2 ^ 48) | _ => none)
  (l ++ j).foldl max 0

def sessionRaised (s : Hub) : Hub :=
  let n := namedSession s
  if cellVal s cellSession < n then cellRaise cellSession n s else s

/-- The EVENT of an entry of the backup buffer (R490, R691, R692). -/
def backupWhat (e : BackupEvent) : NvWhat :=
  if e.src < 8 then .event 5 chipSrc 1 e.rtc [⟨0, 1, e.src⟩, ⟨1, 1, e.level⟩] true else .event 6 chipSrc 1 e.rtc [⟨0, 1, e.src - 8⟩] true

/-- A DAILIES is due at power-up (R465). -/
def dailiesOwed (s : Hub) : Bool :=
  match s.nv.reel.lastDailiesRtc with
  | some t => decide (t + 86400 < s.aon.rtc)
  | none => true

/-- REEL_RECOVERING, and the requests of R490 in their order. -/
def startRecovery (s : Hub) : Hub :=
  let l := (openSessions s.nv.journal).map NvWhat.recover ++ s.aon.buffer.map backupWhat ++
    (if s.aon.dropped = 0 then [] else [.event 7 chipSrc 1 s.aon.rtc [⟨0, 4, s.aon.dropped⟩, ⟨4, 4, s.aon.outages⟩] false]) ++
    (if dailiesOwed s then [.dailies] else []) ++ [.recoverDone]
  s.setEng (fun e => { e with recovering := true, queue := e.queue ++ l, dailiesAt := nextDailies s.aon.rtc s.nv.reel.dailiesOfs })

/-! ## What a chip fault and a tamper input left (R520, R634, R695) -/

/-- CHIP_ALARM with SMB_ALERT_N (R528), the EVENT and the notice of the fault before this start. -/
def faultTold (s : Hub) : Hub :=
  let k := s.kept
  let s := if k.cfValid then (forPorts (fun p => raiseCause p 16) s).setSmb (fun m => { m with alertLow := true }) else s
  if k.cause ≠ .fault then s
  else if k.cfCause = 4 then
    let l := (List.range 4).filter (fun n => bit k.cfTamper n)
    let s := l.foldl (fun s n => postEvent 5 chipSrc [⟨0, 1, n⟩, ⟨1, 1, tamperLevelOf s n⟩] s) s
    tamperNotice 1 k.cfTamper (k.cfTamper &&& s.aon.tamperLevel) k.cfRtc s
  else if k.cfCause = 3 then tamperNotice 1 0x80 0 k.cfRtc (postEvent 5 chipSrc [⟨0, 1, 0x80⟩] s)
  else s

/-- Enabled inputs already active at power-up (R695). -/
def tamperAtPower (m : BootInput) (s : Hub) : Hub :=
  if s.kept.cause ≠ .por then s
  else
    let l := (List.range 4).filter (fun n => bit s.aon.tamperEn n && (bit m.tamper n == bit s.aon.tamperLevel n))
    l.foldl (fun s n => postEvent 5 chipSrc [⟨0, 1, n⟩, ⟨1, 1, tamperLevelOf s n⟩] s) s

/-! ## Bays (R176, R200, R243, R254, R418) -/

/-- A bay's parameters that follow the limits in force, its stored times and its tag image. -/
def bayBoots (b : Nat) (s : Hub) : Hub :=
  let l := limits s
  let ch := if l.ch9 then 9 else 5
  let t := storedImage s b
  let d := Tab.get 0 s.nv.detect b
  s.setBay b (fun x =>
    { x with range := { x.range with uwbCh := ch, txPower := min 48 (if ch = 9 then l.max9 else l.max5) }
             poll := { x.poll with cfg := { x.poll.cfg with uhfBand := if l.uhf433 then 0 else 1 }, lastDetect := d
                                   darkFrom := if d = 0 then (s.aon.rtc : Int) else (d : Int) }
             hf := { x.hf with img := t.getD { failBase := cellVal s (cellTagFail b) }, imgLost := t.isNone } })

/-- SEQ_RAW takes up at the end of the reserved range, and the next range is asked for (R417, R418). -/
def releaseBoots (b : Nat) (s : Hub) : Hub :=
  if !s.bayPresent b then s
  else request (.relRange b) (setRel b (fun r => { r with seqRaw := cellVal s (cellRelRange b) * 65536, advPending := true }) s)

/-! ## The supervisor image -/

/-- The level the profile needs is asked for before any region starts (R671), and every present region is due. -/
def regionsDue (s : Hub) : Hub :=
  let s := forRegions (fun r s => if s.regionPresent r then s.setRegion r (fun x => { x with due := true }) else s) s
  startRegions (if levelFor s s.pwr.profile = s.pwr.pl then s else startLevel (levelFor s s.pwr.profile) none s)

/-- What the supervisor image does from its start on (R749). -/
def supervisorStarts (m : BootInput) (s : Hub) : Hub :=
  let s := faultTold s
  let s := lcRepair s
  let s := if s.lc = decommissioned then vaultCleared s else s
  let s := pagesChecked (vaultLosses m s)
  let s := reelVoided (reelMade (cellsRepaired s))
  let s := sessionRaised s
  let s := tamperAtPower m s
  let s := regionSlotChecked s
  let s := forAllBays (fun b s => releaseBoots b (bayBoots b s)) s
  let s := startRecovery (s.setReel (fun l => { l with level := fillLevel s }))
  regionsDue { s with creds := { s.creds with loading := true } }

/-- The boot itself has to write to flash or fuses, for which it waits for main power. -/
def bootWrites (s : Hub) : Bool :=
  (bootRec s).trial || lcTorn s.fuse.lc || (decide (s.lc = decommissioned) && s.nv.vault.any (fun p => decide (p.1 ≠ vaultNo 0x13 0))) ||
    s.nv.cells.any (fun p => decide (p.2.a.val ≠ p.2.b.val)) || decide (cellVal s cellSession < namedSession s) ||
      (!regStarts s (activeSlot s) && regStarts s (1 - activeSlot s))

/-- The ROM decides (R750), and what it starts runs; in BLANK the TEST_EN strap selects the scan mode instead (R810); a vault that fails its checks
raises its alarm (R742). -/
def romStarts (m : BootInput) (s : Hub) : Hub :=
  if s.lc = blank then (if m.testEn then setBoot (fun b => { b with scan := true }) s else toRecovery 4 s)
  else if s.kept.faultLimit then toRecovery 2 s
  else if !m.flashOk then toRecovery 3 s
  else
    let s := romTrial s
    match romSlot s with
    | none => toRecovery 1 s
    | some slot =>
      let s := startSup slot s
      if m.vaultOk && rootMatches s then supervisorStarts m s else chipFault 3 s

/-- BOOT: POR_N or SYS_RST_N is released, or the internal reset ends. -/
def execBoot (m : BootInput) : State → Turn := onHub fun s =>
  .next (if s.boot.phase ≠ .held ∨ s.boot.scan ∨ (!m.main && bootWrites s) then s else romStarts m (released m s))

/-! ## After the start -/

/-- TRIAL_CONFIRM (R765): 60 s of FW_READY. -/
def execTrialConfirm : State → Turn := onHub fun s =>
  .next (
    if s.fwReady && s.boot.trial && s.passed s.boot.readyAt (sec 60) then
      match writeBoot (fun r => { r with trial := false }) s with
      | (.done _, s) => setBoot (fun b => { b with trial := false, tries := 0 }) s
      | (_, s) => s
    else s)

/-- FOB_COUNTER entries of the journal that lie ahead of their slot (R403). -/
def fobApplied (s : Hub) : Hub :=
  s.nv.journal.entries.foldl (fun s r =>
    match r.e with
    | .fobCounter i c => if (s.cred i).valid ∧ serialAhead 32 c (s.cred i).fobCounter then setCred i (fun x => { x with fobCounter := c }) s else s
    | _ => s) s

/-- One block is read (R367): the slots of its sector in use, those whose CRC fails cleared; with no valid sector, 32 free slots. A block that never
held a valid sector is no loss. -/
def loadBlock (lost : List Nat) (k : Nat) (b : Twin (List Cred)) (s : Hub) : Hub :=
  match b.inUse (sectorCounts s.nv.journal) with
  | some (_, x) =>
    let bad := (blockSlots k).filter lost.contains
    let s := (blockSlots k).foldl (fun s i => if bad.contains i then s else setCred i (fun _ => nth {} x.data (i % 32)) s) s
    if bad = [] then s
    else storeLoss k bad.length { s with creds := { s.creds with slotLost := satAdd s.creds.slotLost bad.length } }
  | none =>
    if !(b.s0.any (sectorCounts s.nv.journal) || b.s1.any (sectorCounts s.nv.journal)) then s
    else storeLoss k 32 { s with creds := { s.creds with blockLost := satAdd s.creds.blockLost 1 } }

/-- What a reading of the store finds (R367): the sectors that fail their CRC or their integrity check, each a block and whether it is the block's
second, and the slots whose CRC fails. It is a free value (DESIGN CHOICE, log entry 94). -/
def storeCheck (s : Hub) : (List (Nat × Bool) × List Nat) × Hub := (Config.storeFails s.draws, { s with draws := s.draws + 1 })

/-- The store is read from flash; a sector that fails is not valid from then on. -/
def storeRead (sectors : List (Nat × Bool)) (lost : List Nat) (s : Hub) : Hub :=
  let s := sectors.foldl (fun s p => s.setNv (fun v => { v with store := Tab.put {} p.1 ((twinAt v.store p.1).fails p.2) v.store })) s
  s.nv.store.foldl (fun s p => loadBlock lost p.1 p.2 s) { s with creds := { s.creds with slots := [], loading := false } }

/-- CRED_STORE_LOADED (R367, R368, R380, R403). -/
def execCredStoreLoaded : State → Turn := onHub fun s =>
  .next (
    if s.fwReady && decide (s.pwr.chip = .s0) && s.creds.loading then
      let f := storeCheck s
      let s := fobApplied (storeRead f.1.1 f.1.2 f.2)
      if s.eng.recovering then s else clearRetiring s
    else s)

/-- CRED_STORE_ECC (R362): a correctable error is counted; an uncorrectable one has the slot's block loaded from flash again, IN_SESSION kept
and the journal's fob counters applied. -/
def execCredStoreEcc (slot : Nat) (uncorrectable : Bool) : State → Turn := onHub fun s =>
  atUnit 262144 slot s (fun s =>
    if !s.fwReady ∨ s.creds.loading ∨ s.pwr.chip ≠ .s0 then s
    else if uncorrectable then
      fobApplied ((blockSlots (slot / 32)).foldl (fun s i => setCred i (fun c => { credAtRest s i with inSession := c.inSession }) s) s)
    else { s with creds := { s.creds with ecc := satAdd s.creds.ecc 1 } })

/-! ## JTAG (R773) -/

/-- Debug instructions act in every state but FIELDED and DECOMMISSIONED. -/
def debugAllowed (s : Hub) : Bool := !(decide (s.lc = fielded) || decide (s.lc = decommissioned)) && decide (s.boot.phase ≠ .held)

/-- JTAG_INSTRUCTION (R677, R678, R773): a hold of the supervisor or of a region's sequencer sets its debug vote; BYPASS and boundary scan
leave the hub as it is. -/
def execJtagInstruction (i : Jtag) : State → Turn := onHub fun s =>
  let at_ := fun (r : Nat) (f : Hub → Hub) => atRegion r s (fun s => if debugAllowed s ∧ s.regionPresent r then f s else s)
  match i with
  | .bypass => .next s
  | .boundaryScan => .next s
  | .holdSupervisor => .next (if debugAllowed s then setBoot (fun b => { b with supHeld := some (b.supHeld.getD s.now) }) s else s)
  | .releaseSupervisor => .next (if debugAllowed s then setBoot (fun b => { b with supHeld := none }) s else s)
  | .holdRegion r => at_ r (setBoot (fun b => { b with regHeld := b.regHeld ||| 2 ^ r }))
  | .releaseRegion r => at_ r (setBoot (fun b => { b with regHeld := b.regHeld &&& (255 ^^^ 2 ^ r) }))

end Sys2Proof.Machine
end

