-- ==== Sys2Proof/Machine/Cred.lean ====
section
/-! DEFINITION. Credential commands (R377 to R385, R568 to R573): enrolment, revocation, queries, fleets. -/

namespace Sys2Proof.Machine

/-! ## What the commands share -/

/-- A change is refused while CRED_LOADING is set or a bulk load is open (R382, R568). -/
def storeBusy (s : Hub) : Bool := s.creds.loading || s.creds.bulk.isSome

/-- A command that ends by COMMAND_DONE with a status and no result. -/
def late (st : Status) (s : Hub) : Reply × Hub := (.async st [] [], s)

/-- One slot takes new contents with its block (R366). -/
def commitSlot (i : Nat) (c : Cred) (s : Hub) : Commit × Hub := commitBlock (i / 32) [(i, c)] s

/-! ## CRED_ENROL (R374, R378, R569) -/

def enrolResult (i n : Nat) (made : Bool) (s : Hub) : List Fld :=
  [⟨8, 4, i⟩, ⟨12, 1, n⟩, ⟨13, 1, b2n made⟩, ⟨14, 2, enrolled s (s.cred i).fleet⟩, ⟨16, 8, cellVal s cellEnrol⟩, ⟨24, 8, (s.cred i).enrolNo⟩]

/-- The order of R374 for one record. -/
def enrol (l : List Byte) (key : BitVec 128) (s : Hub) : Reply × Hub :=
  let rec_ := recordCred l key
  let found := findCred s rec_.cls rec_.tokenId
  let i := found.getD (firstFree 0 s.creds.slots)
  let old := s.cred i
  let n := if counts old rec_ then 1 else 0
  let joins := !old.valid || old.retiring || old.fleet != rec_.fleet
  let no := cellVal s cellEnrol + n
  if credSlots ≤ i then fail .noResource s
  else if joins ∧ (fleetOf s rec_.fleet).quota < enrolled s rec_.fleet + 1 then fail .quota s
  else if enrolMax < no ∧ n ≠ 0 then fail .limitReached s
  else
    let a := if n = 0 then (Commit.done 0, s) else cellAdvance cellEnrol no s
    match a with
    | (.done _, s) =>
      (match commitSlot i (enrolInto old rec_ no) s with
       | (.done _, s) => (.async .ok (enrolResult i n (!old.valid) s) [], s)
       | (_, s) => late .holdupLow s)
    | (_, s) => late .holdupLow s

def credEnrol (q : Req) (_ : CmdRef) (s : Hub) : Reply × Hub :=
  if storeBusy s then fail .busy s
  else
    let l := q.data.take 64
    if !recordOk l then fail .badParam s
    else
      match recordKey s l with
      | none => fail .badParam s
      | some k => enrol l k s

/-- The command table's row of CRED_ENROL. -/
def specCredEnrol : Spec :=
  { op := 0x0301, lc := lcCF, len := len 0, dataLen := len 144, signed := fun _ _ => true }

def execCredEnrol (q : Req) : State → Turn := onHub fun s =>
  .next (hostCommand specCredEnrol credEnrol q s)

/-! ## CRED_REVOKE (R379, R570) -/

def revokeResult (i fleet outcome : Nat) : List Fld := [⟨8, 4, i⟩, ⟨12, 2, fleet⟩, ⟨14, 1, outcome⟩]

/-- Bays whose open session rests on a slot. -/
def sessionBays (s : Hub) (i : Nat) : List Nat :=
  (List.range 128).filter (fun b => match (s.bay b).sess with
    | some y => y.opened && y.slots.contains i
    | none => false)

def credRevoke (q : Req) (_ : CmdRef) (s : Hub) : Reply × Hub :=
  let p := q.payload
  if storeBusy s then fail .busy s
  else if 2 < fld p 0 1 then fail .badParam s
  else
    match findCred s (classOf (fld p 0 1)) (fld p 4 8) with
    | none => fail .badParam s
    | some i =>
      let c := s.cred i
      if c.retiring then (.async .ok (revokeResult i c.fleet 1) [], s)
      else if c.inSession then
        if !bit (fld p 1 1) 0 then fail .wrongState s
        else
          (match commitSlot i { c with retiring := true } s with
           | (.done _, s) => (.async .ok (revokeResult i c.fleet 1) [], (sessionBays s i).foldl (fun s b => trigger b cRevoked s) s)
           | (_, s) => late .holdupLow s)
      else
        match commitSlot i {} s with
        | (.done _, s) => (.async .ok (revokeResult i c.fleet 0) [], dropToken i s)
        | (_, s) => late .holdupLow s

/-- The command table's row of CRED_REVOKE. -/
def specCredRevoke : Spec :=
  { op := 0x0302, lc := lcCF, len := len 12, dataLen := len 80, reserved := [2, 3], signed := fun _ _ => true }

def execCredRevoke (q : Req) : State → Turn := onHub fun s =>
  .next (hostCommand specCredRevoke credRevoke q s)

/-! ## CRED_QUERY (R571) -/

def queryResult (i : Nat) (c : Cred) : List Fld :=
  [⟨0, 4, i⟩, ⟨4, 1, classNo c.cls⟩, ⟨5, 1, credFlags c⟩, ⟨6, 2, c.fleet⟩, ⟨8, 8, c.tokenId⟩, ⟨16, 4, c.fobCounter⟩, ⟨20, 2, c.failRun⟩,
   ⟨24, 8, c.validFrom⟩, ⟨32, 8, c.validUntil⟩, ⟨40, 8, c.hostRef⟩, ⟨48, 8, c.lastAuth⟩]

/-- Bytes 0 to 91 of a slot (R362), its KEY left out. -/
def slotBytes (c : Cred) : List Byte := render 92 (slotRows c)

/-- The slot a query names: none where it names nothing, some none where MODE 2 finds none. -/
def queried (p : List Byte) (s : Hub) : Option (Option Nat) :=
  match fld p 0 1 with
  | 0 => if fld p 4 4 < credSlots then some (some (fld p 4 4)) else none
  | 1 => if fld p 1 1 ≤ 2 then (findCred s (classOf (fld p 1 1)) (fld p 8 8)).map some else none
  | 2 => some ((s.creds.slots.find? (fun x => x.2.valid && decide (fld p 4 4 ≤ x.1))).map (·.1))
  | _ => none

def credQuery (q : Req) (_ : CmdRef) (s : Hub) : Reply × Hub :=
  if s.creds.loading then fail .busy s
  else
    match queried q.payload s with
    | none => fail .badParam s
    | some none => (.done .ok [⟨0, 4, noSlot⟩] [], s)
    | some (some i) =>
      let b := slotBytes (s.cred i)
      (.done .ok (queryResult i (s.cred i)) (if 76 ≤ q.room then b.take 16 ++ b.drop 32 else []), s)

/-- The command table's row of CRED_QUERY. -/
def specCredQuery : Spec :=
  { op := 0x0303, urgent := true, act := false, lc := lcFCF, len := len 16, reserved := [2, 3] }

def execCredQuery (q : Req) : State → Turn := onHub fun s =>
  .next (hostCommand specCredQuery credQuery q s)

/-! ## Fleets (R370, R572, R573) -/

def fleetSet (q : Req) (_ : CmdRef) (s : Hub) : Reply × Hub :=
  let p := q.payload
  let f := fld p 0 2
  let quota := fld p 2 2
  let w := fld p 4 1
  if storeBusy s then fail .busy s
  else if 4095 < f ∨ w = 0 ∨ 64 < w then fail .badParam s
  else if quota < enrolled s f then fail .quota s
  else
    match pageBurst 9 (fleetErase (f / 256) s) with
    | (.done _, s) =>
      let s := fleetProgram (f / 256) (s.setNv (fun v => { v with fleets := Tab.put {} f { quota := quota, fobW := w } v.fleets }))
      (.async .ok [⟨8, 2, f⟩, ⟨10, 2, quota⟩, ⟨12, 2, enrolled s f⟩, ⟨14, 1, w⟩] [], s)
    | (_, s) => late .holdupLow s

/-- The command table's row of FLEET_SET. -/
def specFleetSet : Spec :=
  { op := 0x0304, lc := lcCF, len := len 8, dataLen := len 80, reserved := [5, 6, 7], signed := fun _ _ => true }

def execFleetSet (q : Req) : State → Turn := onHub fun s =>
  .next (hostCommand specFleetSet fleetSet q s)

/-- Slots of a fleet that are RETIRING. -/
def retiringOf (s : Hub) (f : Nat) : Nat := (s.creds.slots.filter (fun p => p.2.valid && p.2.retiring && p.2.fleet == f)).length

def fleetQuery (q : Req) (_ : CmdRef) (s : Hub) : Reply × Hub :=
  let f := fld q.payload 0 2
  if s.creds.loading then fail .busy s
  else if 4095 < f then fail .badParam s
  else
    (.done .ok [⟨0, 2, f⟩, ⟨2, 2, (fleetOf s f).quota⟩, ⟨4, 2, enrolled s f⟩, ⟨6, 1, (fleetOf s f).fobW⟩, ⟨8, 4, retiringOf s f⟩] [], s)

/-- The command table's row of FLEET_QUERY. -/
def specFleetQuery : Spec :=
  { op := 0x0305, urgent := true, act := false, lc := lcFCF, len := len 4, reserved := [2, 3] }

def execFleetQuery (q : Req) : State → Turn := onHub fun s =>
  .next (hostCommand specFleetQuery fleetQuery q s)

/-! ## CRED_STATUS (R578) -/

/-- Tokens in back-off (R405). -/
def backoffCount (s : Hub) : Nat :=
  (s.creds.backoff.filter (fun e => match e.until_ with
    | some t => decide (s.now < t)
    | none => false)).length

def credStatus (q : Req) (_ : CmdRef) (s : Hub) : Reply × Hub :=
  let clear := bit (fld q.payload 0 1) 0
  if clear && !fromActive q s then fail .notAuthorised s
  else
    let c := s.creds
    let load := match c.bulk with
      | some x => [⟨20, 4, x.loadId⟩, ⟨24, 4, x.records.length⟩]
      | none => []
    let res : List Fld :=
      [⟨0, 4, (c.slots.filter (fun p => p.2.valid)).length⟩, ⟨4, 4, (c.slots.filter (fun p => p.2.retiring)).length⟩,
       ⟨8, 8, cellVal s cellEnrol⟩, ⟨16, 1, flags [c.loading, c.bulk.isSome, decide (enrolMax ≤ cellVal s cellEnrol)]⟩,
       ⟨28, 4, c.ecc⟩, ⟨32, 4, c.slotLost⟩, ⟨36, 4, c.blockLost⟩, ⟨40, 4, backoffCount s⟩, ⟨44, 4, c.resync.length⟩] ++ load
    (.done .ok res [], if clear then setCreds (fun c => { c with ecc := 0, slotLost := 0, blockLost := 0 }) s else s)

/-- The command table's row of CRED_STATUS. -/
def specCredStatus : Spec :=
  { op := 0x030A, urgent := true, smbus := true, act := false, lc := lcAll, len := len 4, reserved := [1, 2, 3] }

def execCredStatus (q : Req) : State → Turn := onHub fun s =>
  .next (hostCommand specCredStatus credStatus q s)

end Sys2Proof.Machine
end

