-- ==== Sys2Proof/Machine/Bulk.lean ====
section
/-! DEFINITION. Bulk loads (R382 to R386, R574 to R577): BULK_BEGIN, BULK_DATA, BULK_COMMIT, BULK_ABORT and the time limit. -/

namespace Sys2Proof.Machine

/-- The load that is open: one whose journal entry is committed is the store already. -/
def openLoad (s : Hub) : Option Bulk := if s.creds.switch.isSome then none else s.creds.bulk

/-- The open load is closed with nothing changed. -/
def abortLoad (s : Hub) : Hub := setCreds (fun c => { c with bulk := none }) s

/-- A list of distinct numbers. -/
def distinct (l : List Nat) : Bool := l.eraseDups.length == l.length

/-! ## BULK_BEGIN (R574) -/

/-- Fleet numbers of 2 bytes each. -/
def fleetList (l : List Byte) : List Nat := (List.range (l.length / 2)).map (fun i => fld l (2 * i) 2)

def bulkBegin (q : Req) (_ : CmdRef) (s : Hub) : Reply × Hub :=
  let fs := fleetList (signedData q)
  if storeBusy s then fail .busy s
  else if !distinct fs || fs.any (fun f => decide (4095 < f)) then fail .badParam s
  else
    let n := cellVal s cellLoad + 1
    match cellAdvance cellLoad n s with
    | (.done _, s) =>
      (.async .ok [⟨8, 4, n⟩] [], setCreds (fun c => { c with bulk := some { fleets := fs, loadId := n % 2 ^ 32, lastAt := s.now } }) s)
    | (_, s) => late .holdupLow s

/-- The command table's row of BULK_BEGIN. -/
def specBulkBegin : Spec :=
  { op := 0x0306, lc := lcCF, len := len 0, dataLen := fun n => decide (82 ≤ n ∧ n ≤ 592) && n % 2 == 0, signed := fun _ _ => true }

def execBulkBegin (q : Req) : State → Turn := onHub fun s =>
  .next (hostCommand specBulkBegin bulkBegin q s)

/-! ## BULK_DATA (R575) -/

/-- Records in a load at most. -/
def loadMax : Nat := 262144

/-- The records of a command's data. -/
def recordList (l : List Byte) : List (List Byte) := (List.range (l.length / 64)).map (fun i => (l.drop (64 * i)).take 64)

/-- CLASS and TOKEN_ID of a record. -/
def recordToken (l : List Byte) : Nat × Nat := (fld l 10 1, fld l 0 8)

/-- A record that a load takes. -/
def recordFits (s : Hub) (fleets : List Nat) (seen : List (Nat × Nat)) (l : List Byte) : Bool :=
  recordOk l && fleets.contains (fld l 8 2) && !seen.contains (recordToken l) && (recordKey s l).isSome

/-- Index of the first record, counted from `i`, that a load does not take. -/
def firstBad (s : Hub) (fleets : List Nat) : List (Nat × Nat) → Nat → List (List Byte) → Option Nat
  | _, _, [] => none
  | seen, i, l :: r => if recordFits s fleets seen l then firstBad s fleets (recordToken l :: seen) (i + 1) r else some i

def dataResult (taken bad : Nat) : List Fld := [⟨8, 4, taken⟩, ⟨12, 4, bad⟩]

def bulkData (q : Req) (_ : CmdRef) (s : Hub) : Reply × Hub :=
  match openLoad s with
  | none => (.async .badParam (dataResult 0 noSlot) [], s)
  | some b =>
    let b : Bulk := { b with lastAt := s.now }
    let s := setCreds (fun c => { c with bulk := some b }) s
    let new := recordList q.data
    let bad := firstBad s b.fleets (b.records.map recordToken) 0 new
    if fld q.payload 0 4 ≠ b.loadId ∨ fld q.payload 4 4 ≠ b.records.length ∨ loadMax < b.records.length + new.length then
      (.async .badParam (dataResult b.records.length noSlot) [], s)
    else
      match bad with
      | some i => (.async .badParam (dataResult b.records.length i) [], s)
      | none =>
        (.async .ok (dataResult (b.records.length + new.length) noSlot) [],
         setCreds (fun c => { c with bulk := some { b with records := b.records ++ new } })
           (s.program (flashStaging + 64 * b.records.length) (new.flatMap id)))

/-- The command table's row of BULK_DATA. -/
def specBulkData : Spec :=
  { op := 0x0307, lc := lcCF, len := len 8, dataLen := fun n => decide (64 ≤ n ∧ n ≤ 262144) && n % 64 == 0 }

def execBulkData (q : Req) : State → Turn := onHub fun s =>
  .next (hostCommand specBulkData (fun q c s => if s.creds.loading then fail .busy s else bulkData q c s) q s)

/-! ## BULK_COMMIT (R383 to R385, R576) -/

/-- The store as a load leaves it: its slots, the enrol operations counted, the tokens that found no slot. -/
structure Loaded where
  slots : Tab Cred
  counted : Nat := 0
  unplaced : Nat := 0

/-- Slots of the named fleets whose token the load does not name. -/
def absent (b : Bulk) (s : Hub) : List Nat :=
  let names := b.records.map recordToken
  (s.creds.slots.filter (fun p => p.2.valid && b.fleets.contains p.2.fleet && !names.contains (classNo p.2.cls, p.2.tokenId))).map (·.1)

/-- One record is given its slot (R383). -/
def place (s : Hub) (x : Loaded) (l : List Byte) : Loaded :=
  let r := recordCred l ((recordKey s l).getD 0)
  let i := (findCred s r.cls r.tokenId).getD (firstFree 0 x.slots)
  let old := Tab.get {} x.slots i
  let n := x.counted + (if counts old r then 1 else 0)
  if credSlots ≤ i then { x with unplaced := x.unplaced + 1 }
  else { x with slots := Tab.put {} i (enrolInto old r (cellVal s cellEnrol + n)) x.slots, counted := n }

/-- The store that a load makes: slots of absent tokens freed, or RETIRING while their session is open, then each record in load order. -/
def loadStore (b : Bulk) (s : Hub) : Loaded :=
  let t := (absent b s).foldl (fun t i =>
    let c := Tab.get {} t i
    Tab.put {} i (if c.inSession then { c with retiring := true } else {}) t) s.creds.slots
  b.records.foldl (place s) { slots := t }

/-- Blocks in which two stores differ. -/
def changedBlocks (a b : Tab Cred) : List Nat :=
  (((a.map (·.1)) ++ (b.map (·.1))).filter (fun i => decide (Tab.get {} a i ≠ Tab.get {} b i))).map (· / 32) |>.eraseDups

/-- The changed blocks are written, one burst each, with the load's LOAD_ID: R367 ignores them until the load is committed (R384). -/
def writeBlocks (loadId : Nat) (t : Tab Cred) : List Nat → Hub → Commit × Hub
  | [], s => (.done 0, s)
  | k :: r, s =>
    match pageBurst 13 (eraseSpare k s) with
    | (.done _, s) => writeBlocks loadId t r (programSpare k loadId ((blockSlots k).map (fun i => atRest (Tab.get {} t i))) s)
    | x => x

def commitResult (b : Bulk) (x : Loaded) (freed retiring count : Nat) : List Fld :=
  [⟨8, 4, b.loadId⟩, ⟨12, 4, b.records.length⟩, ⟨16, 4, x.counted⟩, ⟨20, 4, freed⟩, ⟨24, 4, retiring⟩, ⟨28, 8, count⟩]

/-- A load becomes the store: blocks, lifetime count, journal entry, then the switch. -/
def commitLoad (b : Bulk) (x : Loaded) (c : CmdRef) (s : Hub) : Reply × Hub :=
  let ks := changedBlocks s.creds.slots x.slots
  let gone := absent b s
  let retiring := (gone.filter (fun i => (s.cred i).inSession && !(s.cred i).retiring)).length
  let freed := (gone.filter (fun i => !(s.cred i).inSession)).length
  let no := cellVal s cellEnrol + x.counted
  let lost := fun (s : Hub) => late .holdupLow (abortLoad s)
  match writeBlocks b.loadId x.slots ks s with
  | (.done _, s) =>
    (match (if x.counted = 0 then (Commit.done 0, s) else cellAdvance cellEnrol no s) with
     | (.done _, s) =>
       (match commit { js := [.bulkCommit b.loadId (cellVal s cellEnrol)] } s with
        | (.done _, s) =>
          let res := commitResult b x freed retiring (cellVal s cellEnrol)
          let s := setCreds (fun c => { c with fobDirty := c.fobDirty.filter (fun i => !ks.contains (i / 32)) }) s
          if ks = [] then (.async .ok res [], abortLoad s)
          else (.later, setCreds (fun y => { y with switch := some { blocks := ks, newSlots := x.slots, ref := c, res := res } }) s)
        | (_, s) => lost s)
     | (_, s) => lost s)
  | (_, s) => lost s

/-- SHA-256 over every record taken, in load order. -/
def loadDigest (b : Bulk) : List Byte := hashBytes (Config.sha256 b.records.flatten)

def bulkCommit (q : Req) (c : CmdRef) (s : Hub) : Reply × Hub :=
  match openLoad s with
  | none => fail .badParam s
  | some b =>
    let x := loadStore b s
    let excess := b.fleets.any (fun f =>
      decide ((fleetOf s f).quota < (b.records.filter (fun l => fld l 8 2 == f)).length))
    if fld q.payload 0 4 ≠ b.loadId ∨ signedData q ≠ loadDigest b then fail .badParam (abortLoad s)
    else if x.unplaced ≠ 0 then fail .noResource (abortLoad s)
    else if excess then fail .quota (abortLoad s)
    else if x.counted ≠ 0 ∧ enrolMax < cellVal s cellEnrol + x.counted then fail .limitReached (abortLoad s)
    else commitLoad b x c s

/-- The command table's row of BULK_COMMIT. -/
def specBulkCommit : Spec :=
  { op := 0x0308, lc := lcCF, len := len 4, dataLen := len 112, signed := fun _ _ => true }

def execBulkCommit (q : Req) : State → Turn := onHub fun s =>
  .next (hostCommand specBulkCommit (fun q c s => if s.creds.loading then fail .busy s else bulkCommit q c s) q s)

/-! ## The end of a load (R382, R577) -/

def bulkAbort (q : Req) (_ : CmdRef) (s : Hub) : Reply × Hub :=
  match openLoad s with
  | some b => if fld q.payload 0 4 = b.loadId then (.done .ok [] [], abortLoad s) else fail .badParam s
  | none => fail .badParam s

/-- The command table's row of BULK_ABORT. -/
def specBulkAbort : Spec :=
  { op := 0x0309, lc := lcCF, len := len 4 }

def execBulkAbort (q : Req) : State → Turn := onHub fun s =>
  .next (hostCommand specBulkAbort (fun q c s => if s.creds.loading then fail .busy s else bulkAbort q c s) q s)

/-- BULK_TIMEOUT (R382): no BULK_DATA or BULK_COMMIT for 600 s. -/
def execBulkTimeout : State → Turn := onHub fun s =>
  .next (
    match openLoad s with
    | some b => if s.passed b.lastAt (sec 600) then abortLoad s else s
    | none => s)

end Sys2Proof.Machine
end

