-- ==== Sys2Proof/Machine/LogCmd.lean ====
section
/-! DEFINITION. The commands of the reel and of time (R472 to R477, R465 to R468, R579 to R585): LOG_READ, LOG_ACK, LOG_CONFIG, LOG_STATUS,
DAILIES_GET, TIME_SET, TIME_GET. -/

namespace Sys2Proof.Machine

/-- The newest and the oldest SEQ in flash; 0 where there is no record. -/
def newestSeq (s : Hub) : Nat := s.nv.reel.nextSeq - 1
def oldestSeq (s : Hub) : Nat := ((s.nv.reel.recs.head?).map (·.seq)).getD 0

/-! ## LOG_READ (R472, R579) -/

def logRead (q : Req) (_ : CmdRef) (s : Hub) : Reply × Hub :=
  let start := fld q.payload 0 8
  let max_ := fld q.payload 8 4
  if max_ = 0 ∨ 1048576 < max_ then fail .badParam s
  else if q.room < 64 then fail .badLength s
  else
    let l := s.nv.reel.recs.filter (fun r => decide (start ≤ r.seq))
    let out := l.take (min max_ (q.room / 64))
    let res : List Fld :=
      [⟨8, 8, ((out.head?).map (·.seq)).getD 0⟩, ⟨16, 4, out.length⟩,
       ⟨20, 1, flags [decide (start < oldestSeq s), decide (out.length < l.length)]⟩, ⟨24, 8, newestSeq s⟩, ⟨32, 8, cellVal s cellReelAck⟩]
    (.async .ok res (out.flatMap recBytes), s)

/-- The command table's row of LOG_READ. -/
def specLogRead : Spec :=
  { op := 0x0401, act := false, lc := lcAll, len := len 12 }

def execLogRead (q : Req) : State → Turn := onHub fun s => .next (hostCommand specLogRead logRead q s)

/-! ## LOG_ACK (R473, R474, R580) -/

def ackResult (s : Hub) : List Fld := [⟨8, 8, cellVal s cellReelAck⟩, ⟨16, 4, reelFreeKiB s⟩, ⟨20, 1, fillLevel s⟩]

def logAck (q : Req) (_ : CmdRef) (s : Hub) : Reply × Hub :=
  let n := fld q.payload 0 8
  if newestSeq s < n then fail .badParam s
  else if n ≤ cellVal s cellReelAck then (.async .ok (ackResult s) [], s)
  else
    match cellAdvance cellReelAck n s with
    | (.done _, s) => (.async .ok (ackResult s) [], s)
    | (_, s) => late .holdupLow s

/-- The command table's row of LOG_ACK. -/
def specLogAck : Spec :=
  { op := 0x0402, lc := lcFCFD, len := len 8 }

def execLogAck (q : Req) : State → Turn := onHub fun s => .next (hostCommand specLogAck logAck q s)

/-! ## LOG_CONFIG (R465, R468, R581) -/

/-- A REEL_SIZE that R581 and R756 allow. -/
def sizeOk (s : Hub) (n : Nat) : Bool :=
  [16, 32, 64, 128, 256, 512, 1024].contains n && decide (n + 128 ≤ s.flash.densityMiB)

/-- Every record on the reel is acknowledged. -/
def allAcked (s : Hub) : Bool := decide (newestSeq s ≤ cellVal s cellReelAck)

/-- The area erased at a new size; SEQ and the chain go on. -/
def resizedReel (n : Nat) (l : Reel) : Reel :=
  { l with sizeMiB := n, recs := [], nextSlot := 0, erasedTo := n * 16384, erasing := 0, tornSlots := 0 }

/-- A resize: the erased area begins with REEL_RESIZED, in one burst with the site record. -/
def resize (n : Nat) (s : Hub) : Commit × Hub :=
  let old := s.nv.reel
  match commit { ents := [eventEnt 2 chipSrc 1 s.aon.rtc [⟨0, 4, old.sizeMiB⟩, ⟨4, 4, n⟩] false], other := 1 } (s.setReel (resizedReel n)) with
  | (.done k, s) => (.done k, s)
  | (c, s) => (c, s.setReel (fun _ => old))

/-- A new offset: the next dailies lies 3,600 s or more after the change. -/
def setOffset (o : Nat) (s : Hub) : Hub :=
  (s.setReel (fun l => { l with dailiesOfs := o })).setEng (fun e => { e with dailiesAt := nextDailies (s.aon.rtc + 3599) o })

def configResult (s : Hub) : List Fld := [⟨8, 4, s.nv.reel.sizeMiB⟩, ⟨12, 4, s.nv.reel.dailiesOfs⟩]

def logConfig (q : Req) (_ : CmdRef) (s : Hub) : Reply × Hub :=
  let n := fld q.payload 0 2
  let o := fld q.payload 4 4
  let ofs := decide (o ≠ 0xFFFFFFFF)
  if (n ≠ 0 ∧ sizeOk s n = false) ∨ (ofs = true ∧ 86399 < o) then fail .badParam s
  else if n ≠ 0 ∧ (!(decide (s.lc = factory) || decide (s.lc = commissioning)) || !allAcked s) then fail .wrongState s
  else
    let x := if n ≠ 0 then resize n s else if ofs then pageBurst 1 s else (.done 0, s)
    match x with
    | (.done _, s) =>
      let s := if ofs then setOffset o s else s
      let s := if n ≠ 0 ∨ ofs then siteWritten s else s
      (.async .ok (configResult s) [], s)
    | (_, s) => late .holdupLow s

/-- The command table's row of LOG_CONFIG. -/
def specLogConfig : Spec :=
  { op := 0x0403, lc := lcFCF, len := len 8, reserved := [2, 3] }

def execLogConfig (q : Req) : State → Turn := onHub fun s => .next (hostCommand specLogConfig logConfig q s)

/-! ## LOG_STATUS, DAILIES_GET (R582, R583, R492) -/

/-- The nine counters of R492, in its order. -/
def reelCounters (c : NvCnt) : List Byte :=
  [c.records, c.voided, c.stall, c.thinned, c.bursts, c.refused, c.torn, c.interrupted, c.copies].flatMap (toLe 4)

def logStatus (q : Req) (_ : CmdRef) (s : Hub) : Reply × Hub :=
  let fl := fld q.payload 0 1
  if bit fl 1 && !fromActive q s then fail .notAuthorised s
  else if bit fl 0 ∧ q.room < 36 then fail .badLength s
  else
    let l := s.nv.reel
    let res : List Fld :=
      [⟨0, 1, fillLevel s⟩, ⟨4, 4, l.sizeMiB⟩, ⟨8, 4, reelFreeKiB s⟩, ⟨12, 4, l.dailiesOfs⟩, ⟨16, 8, oldestSeq s⟩, ⟨24, 8, newestSeq s⟩,
       ⟨32, 8, cellVal s cellReelAck⟩, ⟨40, 8, l.lastDailiesSeq⟩, ⟨48, 8, cellVal s cellSession⟩]
    (.done .ok res (if bit fl 0 then reelCounters s.eng.cnt else []), if bit fl 1 then s.setEng (fun e => { e with cnt := {} }) else s)

/-- The command table's row of LOG_STATUS. -/
def specLogStatus : Spec :=
  { op := 0x0404, urgent := true, smbus := true, act := false, lc := lcAll, len := len 4, reserved := [1, 2, 3] }

def execLogStatus (q : Req) : State → Turn := onHub fun s =>
  .next (hostCommand specLogStatus logStatus q s)

def dailiesGet (_ : Req) (_ : CmdRef) (s : Hub) : Reply × Hub :=
  let l := s.nv.reel
  (.done .ok [⟨0, 8, l.lastDailiesSeq⟩, ⟨8, 8, l.lastDailiesRtc.getD 0⟩, bytesFld 16 (hashBytes l.lastDailiesH)] [], s)

/-- The command table's row of DAILIES_GET. -/
def specDailiesGet : Spec :=
  { op := 0x0405, urgent := true, smbus := true, act := false, lc := lcAll, len := len 0 }

def execDailiesGet (q : Req) : State → Turn := onHub fun s =>
  .next (hostCommand specDailiesGet dailiesGet q s)

/-! ## TIME_SET (R199, R467, R584, R697) -/

/-- A bay's last detection moves with the RTC, so that its dark clock gains and loses nothing. -/
def moveTimes (old new b : Nat) (s : Hub) : Hub :=
  setPoll b (fun p =>
    { p with lastDetect := if p.lastDetect = 0 then 0 else p.lastDetect + new - old, darkFrom := p.darkFrom + new - old }) s

/-- The RTC takes a new value. A dailies instant that a forward step passes is due at once; a backward step has the next one after the new
value. An alarm whose compare value is the new one fires. -/
def setRtc (new : Nat) (s : Hub) : Hub :=
  let old := s.aon.rtc
  let due := if new = old then 0 else alarmsEntering s.aon new
  let s := { s with aon := { s.aon with rtc := new, rtcFrac := 0, rtcSet := true, alarmDue := s.aon.alarmDue ||| due } }
  let s := if new < old then s.setEng (fun e => { e with dailiesAt := nextDailies new s.nv.reel.dailiesOfs }) else s
  forAllBays (moveTimes old new) s

def timeSet (q : Req) (_ : CmdRef) (s : Hub) : Reply × Hub :=
  let new := fld q.payload 0 8
  let old := s.aon.rtc
  if new = 0 then fail .badParam s
  else
    match commit { ents := [eventEnt 0xA chipSrc 1 new [⟨0, 8, old⟩] false] } s with
    | (.done _, s) => (.async .ok [⟨8, 8, old⟩, ⟨16, 8, new⟩] [], setRtc new s)
    | (_, s) => late .holdupLow s

/-- The command table's row of TIME_SET. -/
def specTimeSet : Spec :=
  { op := 0x0501, lc := lcFCF, len := len 8 }

def execTimeSet (q : Req) : State → Turn := onHub fun s => .next (hostCommand specTimeSet timeSet q s)

/-! ## TIME_GET (R585) -/

/-- The clapper state: the master's is always LOCKED (R355). -/
def clapCode (s : Hub) : Nat := if s.hubIndex = s.masterHub then 2 else s.casc.clap.code

def timeGet (_ : Req) (_ : CmdRef) (s : Hub) : Reply × Hub :=
  let fl := b2n s.aon.rtcSet + 2 * clapCode s + 8 * b2n (decide (s.hubIndex = s.masterHub))
  (.done .ok [⟨0, 8, s.aon.rtc⟩, ⟨8, 8, s.ticks⟩, ⟨16, 8, s.tmu.time.toNat⟩, ⟨24, 1, fl⟩, ⟨28, 4, s.aon.outages⟩, ⟨32, 4, s.slot⟩] [], s)

/-- The command table's row of TIME_GET. -/
def specTimeGet : Spec :=
  { op := 0x0502, urgent := true, smbus := true, act := false, lc := lcAll, len := len 0 }

def execTimeGet (q : Req) : State → Turn := onHub fun s =>
  .next (hostCommand specTimeGet timeGet q s)

end Sys2Proof.Machine
end

