-- ==== Sys2Proof/Machine/KeyCmd.lean ====
section
/-! DEFINITION. Keys and the life cycle (R591 to R597, R738 to R744, R768 to R771): KEY_INSTALL, KEY_STATUS, DEVICE_KEY_GET, LIFECYCLE_SET and
the manufacturing step MFG_STEP. -/

namespace Sys2Proof.Machine

/-! ## Keys -/

/-- The prime of P-256 and the constant of its equation. -/
def p256 : Nat := 2 ^ 256 - 2 ^ 224 + 2 ^ 192 + 2 ^ 96 - 1
def p256b : Nat := 0x5AC635D8AA3A93E7B3EBBD55769886BC651D06B0CC53B0F63BCE3C3E27D2604B

/-- A point x then y, 32 bytes each, big-endian, lies on P-256. -/
def onCurve (l : List Byte) : Bool :=
  let x := beNat (l.take 32)
  let y := beNat ((l.drop 32).take 32)
  decide (x < p256) && decide (y < p256) && decide ((y * y + 3 * x) % p256 = (x * x * x + p256b) % p256)

/-- Kinds of KEY_INSTALL (R591): length of the blob, and of the key where the blob is wrapped. -/
def keyKind (k : Nat) : Option (Nat × Option Nat) :=
  match k with
  | 1 => some (64, none)
  | 2 => some (64, none)
  | 3 => some (40, some 32)
  | 4 => some (24, some 16)
  | 5 => some (64, none)
  | 6 => some (24, some 16)
  | _ => none

/-- The key a blob carries: a point as it is, a secret key unwrapped under K_IMPORT. -/
def blobKey (s : Hub) (wrapped : Option Nat) (l : List Byte) : Option (List Byte) :=
  match wrapped with
  | none => if onCurve l then some l else none
  | some n =>
    let k := vaultKey s 0x12 0
    if k.present then
      match Config.kwUnwrap (BitVec.ofNat 256 k.val) l with
      | some m => if m.length = n then some m else none
      | none => none
    else none

/-- The check value of a key (R593). -/
def keyCheck (wrapped : Option Nat) (m : List Byte) : List Byte :=
  match wrapped with
  | none => (hashBytes (Config.sha256 m)).take 4
  | some n =>
    if n = 32 then (bytes16 (cmac256Whole (BitVec.ofNat 256 (beNat m)) 0)).take 4
    else (bytes16 (Config.aesCmac (BitVec.ofNat 128 (beNat m)) (List.replicate 16 0))).take 4

/-- KIND, INDEX and REMOVE. -/
def keyOf (q : Req) : Nat × Nat × Bool := (fld q.payload 0 1, fld q.payload 1 1, bit (fld q.payload 2 1) 0)

/-- Operator keys in FACTORY alone come unsigned. -/
def keySigned (q : Req) (s : Hub) : Bool := !(decide (s.lc = factory) && decide ((keyOf q).1 = 1))

/-- The bay of kinds 0x04 to 0x06. -/
def keyTarget (l : List Byte) : Target := if 4 ≤ fld l 0 1 ∧ fld l 0 1 ≤ 6 then .bay (fld l 1 1) else .none_

/-- Bay states of kinds 0x04 and 0x05. -/
def keyStates (q : Req) (_ : Nat) (x : Bay) : Bool := (keyOf q).1 == 6 || !(x.st == .charging || x.st == .wrapping)

/-- Operator keys present, as a mask. -/
def operatorMask (s : Hub) : Nat := flags ((List.range 4).map (fun i => (vaultKey s 0x01 i).present))

/-- The rules of the last column of R591. -/
def keyAllowed (kind idx : Nat) (remove : Bool) (s : Hub) : Bool :=
  if kind = 1 then !(remove && operatorMask s == 2 ^ idx)
  else if kind = 2 then decide (s.lc ≠ fielded)
  else if kind = 4 then !(remove && (s.rel idx).cfg.enable)
  else true

/-- A record as a command leaves it (R592, R740). -/
def newRecord (kind idx : Nat) (m : Option (List Byte)) (s : Hub) : VKey :=
  let v := (vaultKey s kind idx).version + 1
  match m with
  | some l => { val := beNat l, version := v, keyBase := if kind = 4 then (s.rel idx).seqRaw else 0, present := true }
  | none => { version := v }

/-- The tag image follows its key (R242, R591). -/
def tagFollows (idx : Nat) (set_ : Bool) (s : Hub) : Bool × Hub := commitImage idx 0 { s.img idx with aesSet := set_ } s

/-- Vault record, and with KT the tag image; where the image is not admitted the record in force stays. -/
def installKey (kind idx : Nat) (m : Option (List Byte)) (s : Hub) : Bool × Hub :=
  let n := vaultNo kind idx
  let old := s.nv
  match vaultCommit n (newRecord kind idx m s) s with
  | (.done _, s) =>
    if kind = 6 then
      let x := tagFollows idx m.isSome s
      if x.1 then x else (false, x.2.setNv (fun v => { v with vault := old.vault, vaultStore := old.vaultStore }))
    else if kind = 4 ∧ m.isSome then (true, setRel idx (fun r => { r with seqLow := false, exhausted := false }) s)
    else (true, s)
  | (_, s) => (false, s)

/-- KEY_INSTALL (R591 to R593). A compliance page is not judged again where the authority's key changes: that is done at BOOT and COMPLIANCE_WRITE
(DESIGN CHOICE, log entry 193). -/
def keyInstall (q : Req) (_ : CmdRef) (s : Hub) : Reply × Hub :=
  let (kind, idx, remove) := keyOf q
  let blob := if keySigned q s then signedData q else q.data
  match keyKind kind with
  | none => fail .badParam s
  | some (n, w) =>
    if (if kind = 1 then 4 ≤ idx else kind ≤ 3 ∧ idx ≠ 0) then fail .badParam s
    else if blob.length ≠ (if remove then 0 else n) then fail .badLength s
    else
      match (if remove then some none else (blobKey s w blob).map some) with
      | none => fail .badParam s
      | some m =>
        if !keyAllowed kind idx remove s then fail .wrongState s
        else
          let x := installKey kind idx m s
          if x.1 then (.async .ok [⟨8, 1, kind⟩, ⟨9, 1, idx⟩, bytesFld 12 (match m with | some l => keyCheck w l | none => [])] [], x.2)
          else late .holdupLow x.2

/-- The command table's row of KEY_INSTALL. -/
def specKeyInstall : Spec :=
  { op := 0x0601, lc := lcFCF, len := len 4, target := keyTarget, states := keyStates, reserved := [3], signed := keySigned }

def execKeyInstall (q : Req) : State → Turn := onHub fun s =>
  .next (hostCommand specKeyInstall keyInstall q s)

/-- Which bays have a key of a kind. -/
def keyMap (s : Hub) (kind : Nat) : Nat := flags ((List.range 128).map (fun b => (vaultKey s kind b).present))

def keyStatus (_ : Req) (_ : CmdRef) (s : Hub) : Reply × Hub :=
  let has := fun k => (vaultKey s k 0).present
  (.done .ok
    [⟨0, 1, flags [has 0x10, has 0x02, has 0x03, has 0x12]⟩, ⟨1, 1, operatorMask s⟩, ⟨8, 16, keyMap s 4⟩, ⟨24, 16, keyMap s 5⟩,
     ⟨40, 16, keyMap s 6⟩] [], s)

/-- The command table's row of KEY_STATUS. -/
def specKeyStatus : Spec :=
  { op := 0x0602, urgent := true, smbus := true, act := false, lc := lcAll, len := len 0 }

def execKeyStatus (q : Req) : State → Turn := onHub fun s =>
  .next (hostCommand specKeyStatus keyStatus q s)

/-- The device identity public key, x then y. -/
def devicePoint (s : Hub) : List Byte := (toLe 64 (vaultKey s 0x13 0).val).reverse

def deviceKeyGet (q : Req) (_ : CmdRef) (s : Hub) : Reply × Hub :=
  if (vaultKey s 0x13 0).present then
    (.done .ok [bytesFld 0 (hashBytes (Config.sha256 (devicePoint s)))] (if 64 ≤ q.room then devicePoint s else []), s)
  else fail .wrongState s

/-- The command table's row of DEVICE_KEY_GET. -/
def specDeviceKeyGet : Spec :=
  { op := 0x0603, act := false, lc := lcFCFD, len := len 0 }

def execDeviceKeyGet (q : Req) : State → Turn := onHub fun s => .next (hostCommand specDeviceKeyGet deviceKeyGet q s)

/-! ## LIFECYCLE_SET (R596, R597, R744, R770) -/

/-- A transition that LIFECYCLE_SET makes. -/
def transition (old new : Nat) : Bool :=
  (old == 1 && new == 2) || (old == 2 && new == 3) || ((old == 2 || old == 3) && new == 4)

/-- A bay is CHARGING or WRAPPING. -/
def anyLive (s : Hub) : Bool := (List.range 128).any (fun b => (s.bay b).st == .charging || (s.bay b).st == .wrapping)

/-- Conditions of a transition. -/
def transitionReady (new : Nat) (s : Hub) : Bool :=
  if new = 2 then (vaultKey s 0x10 0).present && operatorMask s != 0
  else if new = 3 then s.boot.compValid && s.boot.calValid && (vaultKey s 0x03 0).present && !s.rng.rawActive
  else !anyLive s

/-- The three copies of a state's field are programmed (R770). -/
def programField (n : Nat) (s : Hub) : Hub :=
  { s with fuse := { s.fuse with lc := (List.range 12).map (fun i => if i / 3 + 1 = n then 0xA5 else nth 0 s.fuse.lc i) } }

/-- Bays whose test runs end it with the permit (R597). -/
def testsEnd (s : Hub) : Hub :=
  forAllBays (fun b s => if (s.bay b).radio.test.isSome then endTest b .internal 0 s else s) s

/-- A changed set of limits reaches the heads (R151, R597). -/
def limitsApplied (old : Hub) (s : Hub) : Hub := if limits s = limits old then s else testsEnd (retrainAll s)

def lifecycleSet (q : Req) (_ : CmdRef) (s : Hub) : Reply × Hub :=
  let new := fld q.payload 0 1
  let old := s.lc
  if !transition old new then fail .badParam s
  else if !transitionReady new s then fail .wrongState s
  else
    match pageBurst 1 s with
    | (.done _, s) =>
      let s := programField new s
      let s := if new = decommissioned then vaultCleared s else s
      let torn := b2n (lcTorn s.fuse.lc)
      (.async .ok [⟨8, 1, old⟩, ⟨9, 1, new⟩, ⟨10, 1, torn⟩] [], postEvent 8 chipSrc (lifecycleDetail old new torn) s)
    | (_, s) => late .holdupLow s

/-- The command table's row of LIFECYCLE_SET. -/
def specLifecycleSet : Spec :=
  { op := 0x0604, lc := lcFCF, len := len 4, dataLen := len 80, reserved := [1, 2, 3], signed := fun _ _ => true }

def execLifecycleSet (q : Req) : State → Turn := onHub fun s =>
  .next (limitsApplied s
    (hostCommand specLifecycleSet lifecycleSet q s))

/-! ## MFG_STEP (R743, R770, R771) -/

/-- The vault's records that the step to FACTORY writes. -/
def baseKeys (device kCred kImport : Nat) (v : Tab VKey) : Tab VKey :=
  let put := fun (k val : Nat) (t : Tab VKey) => Tab.put {} (vaultNo k 0) { val := val, version := 1, present := true } t
  put 0x13 Config.devicePublic.toNat (put 0x12 kImport (put 0x11 kCred (put 0x10 device v)))

/-- MFG_STEP: K_ROOT unless it is fused already, the keys drawn from the hub's own DRBG, the vault records in one burst, the FACTORY field. -/
def mfgStep (kImport : Nat) (s : Hub) : Hub :=
  let root := match s.fuse.kRoot with
    | some k => some (k, s)
    | none => (drawRandom 32 s).map (fun (x : Nat × Hub) => (BitVec.ofNat 256 x.1, x.2))
  match root with
  | none => s
  | some (k, s) =>
    match drawRandom 32 s with
    | none => s
    | some (dev, s) =>
      match drawRandom 32 s with
      | none => s
      | some (cred, s) =>
        let s := { s with fuse := { s.fuse with kRoot := some k, rootCheck := rootCheckOf k } }
        match pageBurst 13 (vaultErase 0 s) with
        | (.done _, s) =>
          let s := vaultProgram 0 (s.setNv (fun v => { v with vault := baseKeys dev cred (kImport % 2 ^ 256) v.vault }))
          (match pageBurst 1 s with
           | (.done _, s) => programField factory s
           | (_, s) => s)
        | (_, s) => s

/-- MFG_STEP acts in BLANK alone, and not while the RNG is unavailable. -/
def execMfgStep (kImport : Nat) : State → Turn := onHub fun s =>
  .next (if s.boot.phase ≠ .held ∧ s.lc = blank ∧ s.rng.available then mfgStep kImport s else s)

end Sys2Proof.Machine
end

