-- ==== Sys2Proof/Machine/RngCmd.lean ====
section
/-! DEFINITION. The RNG commands (R598 to R600, R728, R736, R737): RNG_READ, RUSHES_SET, RUSHES_READ. -/

namespace Sys2Proof.Machine

/-! ## RNG_READ (R598) -/

def rngRead (q : Req) (c : CmdRef) (s : Hub) : Reply × Hub :=
  let n := fld q.payload 0 2
  if n = 0 ∨ 4096 < n then fail .badParam s
  else if 48 < n ∧ q.room < n then fail .badLength s
  else
    match s.rng.generate n with
    | some (l, g) =>
      let s := { s with rng := g }
      (if n ≤ 48 then .done .ok [bytesFld 0 l] [] else .done .ok [] l, s)
    | none =>
      -- due for a reseed with no two blocks in the pool: it waits for them (R728)
      if s.rng.available && !s.rng.rawActive then (.later, s.setRng (fun g => { g with waiting := g.waiting ++ [{ ref := c, len := n }] }))
      else fail .rngUnavailable s

/-- The command table's row of RNG_READ. -/
def specRngRead : Spec :=
  { op := 0x0605, lc := lcFCF, len := len 4, reserved := [2, 3] }

def execRngRead (q : Req) : State → Turn := onHub fun s => .next (hostCommand specRngRead rngRead q s)

/-! ## RUSHES_SET (R599) -/

/-- ON = 1. -/
def rushesOn (force : Bool) (dur : Nat) (c : CmdRef) (s : Hub) : Reply × Hub :=
  if s.rng.rawActive then (.async .ok [] [], s.setRng (fun g => { g with rawEnd := s.now + sec dur }))
  else if s.rng.rawPend.isSome then fail .wrongState s
  else if anyLive s then
    if force then
      let s := s.setRng (fun g => { g with rawPend := some (c, dur) })
      (.later, forAllBays (fun b s => trigger b cHostWrap s) s)
    else fail .wrongState s
  else (.async .ok [] [], rushesEnter dur s)

/-- ON = 0. -/
def rushesOff (c : CmdRef) (s : Hub) : Reply × Hub :=
  let s := match s.rng.rawPend with
    | some (p, _) => finish p .wrongState [] [] (s.setRng (fun g => { g with rawPend := none }))
    | none => s
  if s.rng.rawActive then (.later, rushesExit (some c) s) else (.async .ok [] [], s)

def rushesSet (q : Req) (c : CmdRef) (s : Hub) : Reply × Hub :=
  let on := fld q.payload 0 1
  let dur := fld q.payload 4 4
  if q.data.length ≠ (if s.lc = fielded then 80 else 0) then fail .badLength s
  else if 1 < on ∨ (on = 1 ∧ (dur = 0 ∨ 3600 < dur)) then fail .badParam s
  else if on = 1 then rushesOn (bit (fld q.payload 1 1) 0) dur c s
  else rushesOff c s

/-- The command table's row of RUSHES_SET. -/
def specRushesSet : Spec :=
  { op := 0x0606, lc := lcFCF, len := len 8, reserved := [2, 3], signed := fun _ s => decide (s.lc = fielded) }

def execRushesSet (q : Req) : State → Turn := onHub fun s =>
  .next (hostCommand specRushesSet rushesSet q s)

/-! ## RUSHES_READ (R600) -/

/-- Raw samples of a source, or of all four, are free values. -/
def rushesRead (q : Req) (_ : CmdRef) (s : Hub) : Reply × Hub :=
  let src := fld q.payload 0 1
  let n := fld q.payload 4 4
  if (3 < src ∧ src ≠ 0xFF) ∨ n = 0 ∨ 2 ^ 24 < n then fail .badParam s
  else if q.room < n then fail .badLength s
  else if !s.rng.rawActive then fail .wrongState s
  else
    let v := freeVal (8 * n) s
    (.async .ok [⟨8, 4, n⟩] (toLe n v.1), v.2)

/-- The command table's row of RUSHES_READ. -/
def specRushesRead : Spec :=
  { op := 0x0607, lc := lcFCF, len := len 8, reserved := [1, 2, 3] }

def execRushesRead (q : Req) : State → Turn := onHub fun s => .next (hostCommand specRushesRead rushesRead q s)

end Sys2Proof.Machine
end

