-- ==== Sys2Proof/Machine/ImageCmd.lean ====
section
/-! DEFINITION. The image commands (R601 to R603, R751, R758, R763 to R767): VERSION, IMAGE_STAGE, IMAGE_ACTIVATE. -/

namespace Sys2Proof.Machine

/-! ## VERSION (R601) -/

def versionImage (s : Hub) : List Fld :=
  let sup := runningSup s
  let regs := (List.range 8).map (fun r => (⟨20 + 4 * r, 4, (s.region r).running⟩ : Fld))
  [⟨0, 1, 3⟩, ⟨1, 1, 2⟩, ⟨2, 2, imageVersion sup % 2 ^ 16⟩, ⟨4, 4, imageVersion sup⟩, ⟨8, 1, s.boot.supSlot⟩, ⟨9, 1, activeSlot s⟩,
   ⟨10, 1, (sup.map abiMajor).getD 0⟩, ⟨11, 1, (sup.map abiMinor).getD 0⟩,
   ⟨52, 1, flags [s.splice.isSome, (List.range 8).any (fun r => (s.region r).masked)]⟩] ++ regs

def version (_ : Req) (_ : CmdRef) (s : Hub) : Reply × Hub :=
  let part : List Fld := [⟨12, 2, 0x9144⟩, ⟨14, 2, stepping⟩, ⟨16, 4, Config.romVersion.toNat⟩]
  (.done .ok (part ++ (if s.romRecovery then [] else versionImage s)) [], s)

/-- The command table's row of VERSION. -/
def specVersion : Spec :=
  { op := 0x0701, urgent := true, smbus := true, act := false, lc := lcAll, len := len 0 }

def execVersion (q : Req) : State → Turn := onHub fun s =>
  .next (hostCommand specVersion version q s)

/-! ## Image commands in ROM recovery (R751, R767) -/

/-- ROM recovery for want of flash. -/
def flashAbsent (s : Hub) : Bool := s.romRecovery && decide (s.boot.recovery = 3)

/-- The image commands carry an operator signature, but in ROM recovery without the vault, and where recovery refuses them outright. -/
def imageSigns (_ : Req) (s : Hub) : Bool :=
  !s.romRecovery || (s.boot.vaultUp && !flashAbsent s && decide (s.lc ≠ blank) && decide (s.lc ≠ decommissioned))

/-- The data before the signature block, where there is one. -/
def imageData (q : Req) (s : Hub) : List Byte := if imageSigns q s then signedData q else q.data

/-! ## IMAGE_STAGE (R602, R763) -/

/-- The slot of a kind that is not in use: for the supervisor the one that does not run, in ROM recovery the one that the boot record does
not name. -/
def stageSlot (kind : Nat) (s : Hub) : Nat :=
  if kind = 1 then 1 - activeSlot s else if s.fwReady then 1 - s.boot.supSlot else 1 - (bootRec s).supActive

def writeSlot (kind slot : Nat) (i : Image) (f : Flash) : Flash :=
  if kind = 0 then (if slot = 0 then { f with supA := some i } else { f with supB := some i })
  else if slot = 0 then { f with regA := some i } else { f with regB := some i }

def imageStage (q : Req) (_ : CmdRef) (s : Hub) : Reply × Hub :=
  let kind := fld q.payload 0 1
  let l := imageData q s
  let i : Image := { hdr := l.take 256, payload := l.drop 256 }
  let slot := stageSlot kind s
  if flashAbsent s then fail .internal s
  else if 1 < kind then fail .badParam s
  else if kind = 1 ∧ s.splice.isSome then fail .busy s
  else
    match imageStatus s kind i with
    | some st => fail st s
    | none =>
      -- R763: the slot named for the next start gives way to the one that runs
      let x := if kind = 0 ∧ (bootRec s).supActive = slot then writeBoot (fun r => { r with supActive := 1 - slot, trial := false }) s
        else (.done 0, s)
      match x with
      | (.done _, s) =>
        let v := imageVersion (some i)
        (.async .ok [⟨8, 1, kind⟩, ⟨9, 1, slot⟩, ⟨12, 4, v⟩] [],
         postEvent 9 chipSrc [⟨0, 1, kind⟩, ⟨1, 1, slot⟩, ⟨2, 4, v⟩] ({ s with flash := writeSlot kind slot i s.flash }.program
            (if kind = 0 then flashSup slot else flashReg slot) (i.hdr ++ i.payload)))
      | (_, s) => late .holdupLow s

/-- The command table's row of IMAGE_STAGE. -/
def specImageStage : Spec :=
  { op := 0x0702, lc := lcFCF, len := len 4, reserved := [1, 2, 3], signed := imageSigns }

def execImageStage (q : Req) : State → Turn := onHub fun s =>
  .next (hostCommand specImageStage imageStage q s)

/-! ## IMAGE_ACTIVATE (R603, R765) -/

/-- The boot record with a slot named. -/
def activated (kind slot : Nat) (running : Option Nat) (tries : Nat) (r : BootRec) : BootRec :=
  if kind = 1 then { r with regActive := slot }
  else if running = some slot then { r with supActive := slot, trial := false }
  else { r with supActive := slot, trial := true, tryBase := tries }

def imageActivate (q : Req) (_ : CmdRef) (s : Hub) : Reply × Hub :=
  let kind := fld q.payload 0 1
  let slot := fld q.payload 1 1
  let running := if s.fwReady then some s.boot.supSlot else none
  if flashAbsent s then fail .internal s
  else if 1 < kind ∨ 1 < slot then fail .badParam s
  else if !slotValid s kind (if kind = 0 then supImage s slot else regImage s slot) then fail .wrongState s
  else
    match writeBoot (activated kind slot running (cellVal s cellBootTry)) s with
    | (.done _, s) =>
      (.async .ok [] [], if kind = 0 ∧ running = some slot then setBoot (fun b => { b with trial := false, tries := 0 }) s else s)
    | (_, s) => late .holdupLow s

/-- The command table's row of IMAGE_ACTIVATE. -/
def specImageActivate : Spec :=
  { op := 0x0703, lc := lcFCF, len := len 4, dataLen := fun n => n == 0 || n == 80, reserved := [2, 3], signed := imageSigns }

def execImageActivate (q : Req) : State → Turn := onHub fun s =>
  .next (hostCommand specImageActivate imageActivate q s)

end Sys2Proof.Machine
end

