-- ==== Sys2Proof/Machine/CalibPage.lean ====
section
/-! DEFINITION. The calibration page as a whole (R775 to R786): its bytes, its checks, its writes; HOLDUP_SET, CALIB_EXPORT, CALIB_IMPORT,
CALIB_STATUS, and the factory's MFG_CALIB. -/

namespace Sys2Proof.Machine

/-! ## The page as bytes (R775) -/

/-- Bytes 0 to 251: the header without its CRC. -/
def pageHead (c : CalPage) : List Byte :=
  render 252
    [⟨0, 4, 0x43414C42⟩, ⟨4, 1, 1⟩, ⟨8, 8, c.serial⟩, ⟨16, 8, c.factoryRtc⟩, ⟨24, 8, c.changeRtc⟩, ⟨32, 4, c.changes⟩]

/-- Bytes 256 to 65,535: board section, bay entries, reserved space. -/
def pageBody (c : CalPage) : List Byte :=
  render 256 [⟨0, 4, c.cHold⟩, ⟨4, 4, c.pLoad⟩, ⟨8, 2, c.vMin⟩, ⟨10, 1, c.vDiv⟩, ⟨11, 1, c.tPage⟩, ⟨12, 2, c.vholdLsb⟩] ++
    List.replicate 3584 0 ++
    (List.range 128).flatMap (fun b => (List.range 128).map (byteAt (Tab.get [] c.entries b))) ++ List.replicate 45056 0xFF

/-- The CRC of a page. -/
def pageCrc (c : CalPage) : Nat := crc32 (pageHead c ++ pageBody c)

def pageBytes (c : CalPage) : List Byte := pageHead c ++ toLe 4 (pageCrc c) ++ pageBody c

/-- A bay entry of a page's bytes; an entry of zeros is not listed. -/
def putEntry (b : Nat) (l : List Byte) (t : Tab (List Byte)) : Tab (List Byte) := Tab.put [] b (if l.all (· == 0) then [] else l) t

/-- The page that 65,536 bytes hold. -/
def pageOf (l : List Byte) : CalPage :=
  { serial := fld l 8 8, factoryRtc := fld l 16 8, changeRtc := fld l 24 8, changes := fld l 32 4, cHold := fld l 256 4, pLoad := fld l 260 4
    vMin := fld l 264 2, vDiv := fld l 266 1, tPage := fld l 267 1, vholdLsb := fld l 268 2
    entries := (List.range 128).foldl (fun t b => putEntry b ((l.drop (4096 + 128 * b)).take 128) t) [] }

/-- MAGIC, FORMAT and CRC of a page's bytes (R777). -/
def pageSound (l : List Byte) : Bool :=
  l.length == 65536 && fld l 0 4 == 0x43414C42 && fld l 4 1 == 1 && fld l 252 4 == crc32 (l.take 252 ++ l.drop 256)

/-! ## Writing the page (R782 to R784) -/

/-- Page programs of a page write: a sector erase counts as 15, a sector has 16 pages. -/
def boardWrite : Nat := 31
def bayWrite : Nat := 62
def wholeWrite : Nat := 155

/-- The sectors of a whole page, beside sector 0. -/
def wholeSectors : List Nat := [1, 2, 3, 4]

/-- A page as a write leaves it: CHANGE_RTC and CHANGES. -/
def changed (s : Hub) (n : Nat) (c : CalPage) : CalPage := { c with changeRtc := s.aon.rtc, changes := satAdd n 1 }

/-- The sectors of a page that a write changes are programmed, sector 0 last (R782). -/
def pageWritten (sectors : List Nat) (c : CalPage) (s : Hub) : Hub :=
  let l := pageBytes c
  (sectors ++ [0]).foldl (fun s n => s.program (flashCal + 4096 * n) ((l.drop (4096 * n)).take 4096)) s

/-- A page written and verified takes effect. -/
def pageInForce (c : CalPage) (s : Hub) : Hub :=
  { s with flash := { s.flash with cal := some c, exported := false }, boot := { s.boot with cal := c, calValid := true } }

/-- The EVENT of a change of the page. -/
def calibEvent (b : Nat) (crc : Nat) : List Fld := [⟨0, 1, b⟩, ⟨1, 4, crc⟩]

/-! ## HOLDUP_SET (R483, R589) -/

def holdupRanges (p : List Byte) : Bool :=
  let within := fun (o n lo hi : Nat) => decide (lo ≤ fld p o n) && decide (fld p o n ≤ hi)
  within 0 4 0 100000 && within 4 4 1000 200000 && within 8 2 1000 60000 && within 10 1 1 64 && within 11 1 5 100

def holdupSet (q : Req) (_ : CmdRef) (s : Hub) : Reply × Hub :=
  let p := q.payload
  if !holdupRanges p then fail .badParam s
  else
    let o := s.boot.cal
    let c := changed s o.changes
      { o with cHold := fld p 0 4, pLoad := fld p 4 4, vMin := fld p 8 2, vDiv := fld p 10 1, tPage := fld p 11 1 }
    match commit { ents := [eventEnt 0xB chipSrc 1 s.aon.rtc (calibEvent 0xFF (pageCrc c)) false], other := boardWrite } s with
    | (.done _, s) =>
      -- a page that is not valid in flash stays so: only its sector 0 was written
      (.async .ok [] [], if s.boot.calValid then pageInForce c (pageWritten [] c s) else setBoot (fun b => { b with cal := c }) (pageWritten [] c s))
    | (_, s) => late .holdupLow s

/-- The command table's row of HOLDUP_SET. -/
def specHoldupSet : Spec :=
  { op := 0x0506, lc := lcCF, len := len 16, reserved := [12, 13, 14, 15] }

def execHoldupSet (q : Req) : State → Turn := onHub fun s =>
  .next (hostCommand specHoldupSet holdupSet q s)

/-! ## CALIB_EXPORT, CALIB_IMPORT (R608, R609) -/

/-- What the device key signs. -/
def exportDigest (page tail : List Byte) : BitVec 256 := Config.sha256 (page ++ tail)

def calibExport (q : Req) (_ : CmdRef) (s : Hub) : Reply × Hub :=
  if q.room < 65616 then fail .badLength s
  else
    let page := pageBytes s.boot.cal
    let tail := toLe 8 Config.serial.toNat ++ toLe 8 s.aon.rtc
    let sig := sigBytes (Config.ecdsaSign 0x10 (exportDigest page tail))
    (.async .ok [] (page ++ tail ++ sig), { s with flash := { s.flash with exported := true } })

/-- The command table's row of CALIB_EXPORT. -/
def specCalibExport : Spec :=
  { op := 0x0801, act := false, lc := lcFCF, len := len 0 }

def execCalibExport (q : Req) : State → Turn := onHub fun s => .next (hostCommand specCalibExport calibExport q s)

/-- Bays whose head is not the one of their entry (R117, R609). -/
def headsChecked (s : Hub) : Hub :=
  forAllBays (fun b s =>
    let l := (s.bay b).link
    if linkRuns (s.bay b) ∧ l.ident.serial ≠ calSerial s b then setLink b (fun l => { l with headChanged := true }) s else s) s

/-- New tuning codes go to the heads that are UP (R785). -/
def retune (s : Hub) : Hub := forAllBays (fun b s => if (s.bay b).link.state = .up then tuneCues b s else s) s

def calibImport (q : Req) (_ : CmdRef) (s : Hub) : Reply × Hub :=
  let page := q.data.take 65536
  let tail := (q.data.drop 65536).take 16
  let sig := q.data.drop 65552
  if q.data.length ≠ 65616 then fail .badLength s
  else if anyLive s then fail .wrongState s
  else if fld tail 0 8 ≠ Config.serial.toNat then fail .badParam s
  else if !Config.ecdsaVerify (BitVec.ofNat 512 (vaultKey s 0x13 0).val) (exportDigest page tail) (sigOf sig) then fail .authFail s
  else if !pageSound page || decide (fld page 8 8 ≠ Config.serial.toNat) then fail .badParam s
  else
    let n := if s.boot.calValid then s.boot.cal.changes else (pageOf page).changes
    let c := changed s n (pageOf page)
    match pageBurst wholeWrite s with
    | (.done _, s) =>
      (.async .ok [] [], postEvent 0xB chipSrc (calibEvent 0xFF (pageCrc c)) (retune (headsChecked (pageInForce c (pageWritten wholeSectors c s)))))
    | (_, s) => late .holdupLow s

/-- The command table's row of CALIB_IMPORT. -/
def specCalibImport : Spec :=
  { op := 0x0803, lc := lcCF, len := len 0 }

def execCalibImport (q : Req) : State → Turn := onHub fun s => .next (hostCommand specCalibImport calibImport q s)

/-! ## CALIB_STATUS (R611, R781) -/

/-- An entry is PRESENT, and holds factory values alone. -/
def entryPresent (e : List Byte) : Bool := bit (fld e 8 1) 0
def entryFactory (e : List Byte) : Bool := fld e 8 1 &&& 0x1E == 0x1E

/-- Bays with a PRESENT entry that some command has changed since the factory. -/
def recalibrated (s : Hub) : Nat :=
  flags ((List.range 128).map (fun b =>
    let e := Tab.get [] s.boot.cal.entries b
    s.boot.calValid && entryPresent e && !entryFactory e))

def calibStatus (_ : Req) (_ : CmdRef) (s : Hub) : Reply × Hub :=
  let c := s.boot.cal
  let all := s.boot.calValid && c.entries.all (fun p => !entryPresent p.2 || entryFactory p.2)
  (.done .ok
    [⟨0, 1, flags [s.boot.calValid, s.flash.exported, all]⟩, ⟨4, 4, if s.boot.calValid then pageCrc c else 0⟩,
     ⟨8, 8, if s.boot.calValid then c.changeRtc else 0⟩, ⟨16, 16, flags ((List.range 128).map (fun b => (s.bay b).link.headChanged))⟩,
     ⟨32, 16, recalibrated s⟩] [], s)

/-- The command table's row of CALIB_STATUS. -/
def specCalibStatus : Spec :=
  { op := 0x0804, urgent := true, smbus := true, act := false, lc := lcAll, len := len 0 }

def execCalibStatus (q : Req) : State → Turn := onHub fun s =>
  .next (hostCommand specCalibStatus calibStatus q s)

/-! ## MFG_CALIB (R780) -/

/-- PRESENT and the four factory flags in an entry that the data marks PRESENT. -/
def factoryEntry (e : List Byte) : List Byte := if entryPresent e then e.set 8 0x1F else e

def factoryPage (s : Hub) (l : List Byte) : CalPage :=
  let c := pageOf l
  { c with factoryRtc := s.aon.rtc, changeRtc := s.aon.rtc, changes := 0, entries := c.entries.map (fun p => (p.1, factoryEntry p.2)) }

/-- MFG_CALIB: a whole page that passes the checks of R777 is written. -/
def mfgCalib (l : List Byte) (s : Hub) : Hub :=
  if pageSound l ∧ fld l 8 8 = Config.serial.toNat then
    match pageBurst wholeWrite s with
    | (.done _, s) => pageInForce (factoryPage s l) (pageWritten wholeSectors (factoryPage s l) s)
    | (_, s) => s
  else s

def execMfgCalib (page : List Byte) : State → Turn := onHub fun s => .next (if s.boot.phase ≠ .held ∧ s.lc = factory then mfgCalib page s else s)

end Sys2Proof.Machine
end

