-- ==== Sys2Proof/Machine/CalibBay.lean ====
section
/-! DEFINITION. CALIB_BAY (R610, R781, R785 to R789): its checks, and what the procedure makes of the measurements the row gives. -/

namespace Sys2Proof.Machine

/-- A surveyed point, mm. -/
structure Survey where
  x : Int
  y : Int
  z : Int
  deriving DecidableEq, Repr

/-- WHAT, OVERWRITE_FACTORY, REF_TOKEN and the reference point of a command. -/
def calWhat (q : Req) : Nat := fld q.payload 2 1
def calOver (q : Req) : Bool := bit (fld q.payload 3 1) 0
def calToken (q : Req) : Nat := fld q.payload 4 8
def calPoint (q : Req) : Survey :=
  { x := signed 32 (fld q.payload 12 4), y := signed 32 (fld q.payload 16 4), z := signed 32 (fld q.payload 20 4) }

/-! ## Checks (R610, R786, R787) -/

/-- The point lies 1,000 mm to 10,000 mm from the head reference point. -/
def inReach (h : GeoHead) (p : Survey) : Bool :=
  let d := (p.x - nth 0 h.pos 0) ^ 2 + (p.y - nth 0 h.pos 1) ^ 2 + (p.z - nth 0 h.pos 2) ^ 2
  decide (1000000 ≤ d) && decide (d ≤ 100000000)

/-- Factory flags named by WHAT that are still set. -/
def factoryHeld (s : Hub) (b what : Nat) : Bool := decide (calVal s b 8 1 0 &&& (2 * what) ≠ 0)

/-- The head record of a bay of this hub. -/
def ownHead (s : Hub) (b : Nat) : Option GeoHead := s.geom.bind (fun g => g.head s.hubIndex b)

/-- The reference of bits 0, 1 and 3. -/
def refOk (s : Hub) (b : Nat) (k : TokenClass) (tok : Nat) (p : Survey) (angle : Bool) : Bool :=
  match ownHead s b with
  | some h => (findCred s k tok).isSome && inReach h p && !(angle && Config.offBoresight h.pose p.x p.y p.z)
  | none => false

/-- The emissions of a procedure keep the limits (R153): the channel of its takes, the codes of both coils, the telegrams' code and the band of the
fob's replies. -/
def calibAllowed (s : Hub) (b w : Nat) : Bool :=
  let l := limits s
  let c := (s.bay b).poll.cfg
  (!(bit w 0 || bit w 1) || l.channel (s.bay b).range.uwbCh 0) && (!bit w 2 || (l.coil false c.lfDrive && l.coil true c.hfField)) &&
    (!bit w 3 || (l.coil false c.lfDrive && l.band c.uhfBand))

/-- The checks in their order; none where all pass. -/
def calibFails (q : Req) (b : Nat) (s : Hub) : Option Status :=
  let w := calWhat q
  let x := s.bay b
  let ranging := bit w 0 || bit w 1
  let lean := decide (profileInForce s = leanProfile) || decide (profileInForce s = patrolProfile)
  if !s.boot.calValid && !calOver q then some .wrongState
  else if w = 0 ∨ 15 < w then some .badParam
  else if x.dialogues ≠ [] then some .wrongState
  else if ranging ∧ s.geom.isNone then some .wrongState
  else if factoryHeld s b w ∧ calOver q = false then some .wrongState
  else if bit w 3 && ranging then some .badParam
  else if ranging && lean then some .wrongState
  else if ranging ∧ refOk s b .v (calToken q) (calPoint q) true = false then some .badParam
  else if bit w 3 ∧ refOk s b .f (calToken q) (calPoint q) false = false then some .badParam
  else if bit w 2 ∧ (x.poll.lfOpen ∨ x.poll.hfOpen) then some .wrongState
  else if bit w 2 ∧ x.hf.extField then some .busy
  else if ranging ∧ x.radio.copy = .cal then some .radioBusy
  else if !calibAllowed s b w then some .regLimit
  else none

/-! ## Entries -/

/-- `n` bytes of an entry at offset `o`. -/
def putField (o n v : Nat) (e : List Byte) : List Byte := (List.range 128).map (fun i => if o ≤ i ∧ i < o + n then byteAt (toLe n v) (i - o) else byteAt e i)

/-- An entry that is not PRESENT starts from the defaults of R778. -/
def freshEntry : List Byte :=
  render 128
    [⟨9, 1, 128⟩, ⟨10, 1, 128⟩, ⟨11, 1, 5⟩, ⟨12, 2, 8192⟩, ⟨16, 2, 8192⟩, ⟨20, 2, 1024⟩, ⟨22, 2, 64⟩, ⟨24, 2, 1000⟩, ⟨26, 2, 65536 - 900⟩,
     ⟨28, 2, 1000⟩, ⟨30, 2, 65536 - 900⟩]

def entryOf (s : Hub) (b : Nat) : List Byte := (calEntry s b).getD freshEntry

/-! ## Bit 2: tuning (R788) -/

/-- The sweep: place of the greatest AMP among the codes 0 to 255, the first of equals. -/
def sweepBest (nominal : Nat) (l : List (Nat × Nat)) : Option Nat :=
  let ok := (List.range 33).filter (fun i => decide (16 ≤ nominal + i) && decide (nominal + i < 272))
  let amp := fun (i : Nat) => (nth (0, 0) l i).1
  let best := ok.foldl (fun k i => if amp k < amp i then i else k) (ok.headD 0)
  if ok.head? = some best ∨ ok.getLast? = some best then none else some best

/-- Nominal amplitude at code 255 from an amplitude at the code driven (R189, R775); with code 0 the manual states none. -/
def nominalAt (amp code : Nat) (s : Hub) : Nat × Hub :=
  if code = 0 then freeVal 16 s else (min 65535 (openDiv ((amp : Int) * 255) code).toNat, s)

/-- One coil: its code and nominal figures; none where the maximum lies at an end of the sweep. -/
def tuneCoil (b : Nat) (hf : Bool) (l : List (Nat × Nat)) (e : List Byte) (s : Hub) : Option (List Byte × Hub) :=
  let nominal := if hf then hfTune s b else lfTune s b
  match sweepBest nominal l with
  | none => none
  | some i =>
    let m := nth (0, 0) l i
    let n := nominalAt m.1 (coilCode s b hf) s
    let o := if hf then 16 else 12
    some (putField (o + 2) 2 m.2 (putField o 2 n.1 (putField (if hf then 10 else 9) 1 (nominal + i - 16) e)), n.2)

/-! ## Bits 0 and 1: ranging (R788, R789) -/

/-- A take counts: TAKE_OK, FPQ 80 or more, no FP_SUSPECT and no FP_EDGE. -/
def takeCounts (t : CalibTake) : Bool := t.outcome == 0 && decide (80 ≤ t.fpq) && !t.suspect && !t.edge

/-- The status a take completes with (R288); one that is TAKE_OK but does not count has WRONG_STATE. -/
def calibTakeStatus (t : CalibTake) : Status :=
  match t.outcome with
  | 0x00 => .wrongState | 0x01 => .wrongState | 0x02 => .wrongState | 0x03 => .authFail | 0x04 => .wrongState | 0x05 => .authFail
  | 0x06 => .authFail | 0x09 => if t.why = 0 then .txLate else if t.why = 1 then .radioBusy else if t.why = 2 then .coexDenied else .regLimit
  | _ => .internal

def rawAnt (t : CalibTake) (a : Nat) : Int := (nth 0 t.ants a : Nat)

/-- The intervals of a take with the values of an entry (R282). -/
def calibIntervals (e : List Byte) (ch tx : Nat) (t : CalibTake) : Intervals :=
  let out := (t.tPoll : Int) * 256 + gdTx (some e) ch
  let back := rawAnt t tx - gdRx (some e) ch tx
  { ra := back - out, da := out + (roundTicks : Int) * 256 - back, db := (t.dbTok : Int) * 64, rb := (t.rbTok : Int) * 64 }

/-- A mean over the takes that count. -/
def calibMean (l : List CalibTake) (f : CalibTake → Int) : Int := openDiv ((l.map f).foldl (· + ·) 0) l.length

/-- A distance in µm as a time of flight in 1/256 tick. -/
def flight (um : Nat) : Int := openDiv ((um : Int) * 256) 18767

/-- Distance from antenna `a` to the point. -/
def antDistance (h : GeoHead) (p : Survey) (a : Nat) : Nat := Config.calDistance h.pose (h.antenna a) p.x p.y p.z

/-- Offset of a channel's block in an entry. -/
def blockAt (ch : Nat) : Nat := if ch = 5 then 40 else 72

/-- Bit 0: the sum of the delays of TX_ANT, split equally; the other antennas; HEAD_FIX. -/
def solveDelays (h : GeoHead) (p : Survey) (ch tx : Nat) (l : List CalibTake) (e : List Byte) : List Byte :=
  let o := blockAt ch
  let tof := flight (antDistance h p tx)
  let d := calibMean l (fun t => (calibIntervals e ch tx t).tof) - tof
  let rx := gdRx (some e) ch tx + d
  let out := gdTx (some e) ch + d
  let put := fun (o : Nat) (v : Int) (e : List Byte) => putField o 4 (unsigned 32 v) e
  let other := fun (a : Nat) => rx + calibMean l (fun t => rawAnt t a - rawAnt t tx) - (flight (antDistance h p a) - tof)
  let e := (List.range 4).foldl (fun e a => put (o + 4 * a) (if a = tx then rx else other a) e) e
  let fix := calibMean l (fun t => rawAnt t tx - rx - ((t.tPoll : Int) * 256 + out + (replyTicks : Int) * 256 + 2 * tof))
  put (o + 20) fix (put (o + 16) out e)

/-- Bit 1: measured phase differences less those expected from the geometry. -/
def solvePhases (h : GeoHead) (p : Survey) (ch : Nat) (l : List CalibTake) (e : List Byte) : List Byte :=
  let o := blockAt ch
  let diff := fun (t : CalibTake) (a b : Nat) => wrapPhase ((nth 0 t.phases a : Nat) - (nth 0 t.phases b : Nat))
  let x := calibMean l (fun t => diff t 1 0) - Config.calPhaseX h.pose h.spacing.1 ch p.x p.y p.z
  let y := calibMean l (fun t => diff t 3 2) - Config.calPhaseY h.pose h.spacing.2 ch p.x p.y p.z
  putField (o + 26) 2 (unsigned 16 (wrapPhase y)) (putField (o + 24) 2 (unsigned 16 (wrapPhase x)) e)

/-- Sum of the squares of the residuals of the counting takes, µm². -/
def residuals (h : GeoHead) (p : Survey) (ch tx : Nat) (l : List CalibTake) (e : List Byte) : Nat :=
  let d : Int := antDistance h p tx
  ((l.map (fun t => (((calibIntervals e ch tx t).rangeMm : Int) * 1000 - d).natAbs ^ 2)).foldl (· + ·) 0)

/-- Their RMS in mm; the manual does not say how it is rounded. -/
def rmsMm (sum n : Nat) : Nat :=
  let r := Nat.sqrt (sum / (n * 1000000))
  if r * r * n * 1000000 = sum then r else if Config.roundUp sum n then r + 1 else r

/-- The ranging part: the new entry and the residual, or the status it ends with. -/
def solveRanging (h : GeoHead) (p : Survey) (b what : Nat) (m : CalibRun) (e : List Byte) (s : Hub) : Except Status (List Byte × Nat) :=
  let cfg := (s.bay b).range
  let tx := txAntenna (profileInForce s) cfg.txAnt
  let l := (m.takes.take 32).filter takeCounts
  if !s.rng.available || m.auth ≠ 0 then .error .authFail
  else if l.length < 24 then
    .error ((((m.takes.take 32).filter (fun t => !takeCounts t)).getLast?.map calibTakeStatus).getD .wrongState)
  else
    let e := if bit what 0 then solveDelays h p cfg.uwbCh tx l e else e
    let e := if bit what 1 then solvePhases h p cfg.uwbCh l e else e
    let sum := residuals h p cfg.uwbCh tx l e
    if 10000000000 * l.length < sum then .error .wrongState else .ok (e, rmsMm sum l.length)

/-! ## Bit 3: UHF (R776, R788, R790) -/

/-- The band's UHF_OFS; none where no reply of the fob was heard. -/
def solveUhf (h : GeoHead) (p : Survey) (b : Nat) (m : CalibRun) (e : List Byte) (s : Hub) : Option (List Byte) :=
  let band := (s.bay b).poll.cfg.uhfBand
  let o := if band = 0 then 24 else 28
  let n := m.fob.length
  if n = 0 then none
  else
    let loss := Config.freeSpaceLoss band (Config.calDistance h.pose [0, 0, 0] p.x p.y p.z)
    let gain : Int := ((s.bay b).sl.rep.uhfGain * fld e 11 1 * 100 : Nat)
    let num := ((-10000 - loss + gain) * 1000) * n - (fld e o 2 : Nat) * (m.fob.foldl (· + ·) 0)
    some (putField (o + 2) 2 (unsigned 16 (openDiv num (100000 * n))) e)

/-! ## The command -/

/-- The flags of R781 that WHAT covers are cleared, and PRESENT set. -/
def entryFlags (what old : Nat) : Nat := (old ||| 1) &&& (255 ^^^ (2 * (what &&& 15)))

/-- The sweep of both coils, where WHAT asks for it. -/
def calibTuned (w : Nat) (m : CalibRun) (b : Nat) (s : Hub) : Option (List Byte × Hub) :=
  if bit w 2 then (tuneCoil b false m.lf (entryOf s b) s).bind (fun x => tuneCoil b true m.hf x.1 x.2) else some (entryOf s b, s)

/-- The parts in the order of R788. -/
def calibSolve (q : Req) (m : CalibRun) (b : Nat) (s : Hub) : Except Status (List Byte × Nat × Hub) :=
  let w := calWhat q
  match calibTuned w m b s with
  | none => .error .wrongState
  | some (e, s) =>
    match ownHead s b with
    | none => .ok (e, 0, s)
    | some h =>
      let ranged := if bit w 0 || bit w 1 then solveRanging h (calPoint q) b w m e s else .ok (e, 0)
      match ranged with
      | .error st => .error st
      | .ok (e, r) =>
        if bit w 3 then
          (match solveUhf h (calPoint q) b m e s with
           | some e => .ok (e, r, s)
           | none => .error .wrongState)
        else .ok (e, r, s)

/-- The takes of a procedure in the counters of R294: none before its authentication has passed, and a take that R54 or R163 ended was not
dispatched. -/
def countCalibTakes (b : Nat) (m : CalibRun) (s : Hub) : Hub :=
  if !s.rng.available || m.auth ≠ 0 then s
  else
    (m.takes.take 32).foldl (fun s t =>
      let s := if t.outcome = 9 ∧ (t.why = 0 ∨ t.why = 2) then s else countRange b (fun c => { c with takes := satAdd c.takes 1 }) s
      countRange b (fun c => { takeCount ((takeOutcomeOf t.outcome).getD .notRun) c with fpSuspect := satAdd c.fpSuspect (b2n t.suspect) }) s) s

/-- The entry is written (R782, R786, R789): with CALIB_INVALID, in a page built anew. -/
def calibWrite (what b : Nat) (e : List Byte) (r : Nat) (s : Hub) : Reply × Hub :=
  let base := if s.boot.calValid then s.boot.cal else { s.boot.cal with serial := Config.serial.toNat, factoryRtc := 0, changes := 0, entries := [] }
  let e := putField 32 8 s.aon.rtc (putField 8 1 (entryFlags what (fld e 8 1)) (putField 0 8 (s.bay b).link.ident.serial e))
  let c := changed s base.changes { base with entries := putEntry b e base.entries }
  match pageBurst (if s.boot.calValid then bayWrite else wholeWrite) s with
  | (.done _, s) =>
    let s := setLink b (fun l => { l with headChanged := false }) (pageInForce c (pageWritten (if s.boot.calValid then [1 + b / 32] else wholeSectors) c s))
    let s := if bit what 2 ∧ (s.bay b).link.state = .up then tuneCues b s else s
    (.async .ok [⟨8, 1, what⟩, ⟨12, 4, pageCrc c⟩, ⟨16, 2, r⟩] [], postEvent 0xB chipSrc (calibEvent b (pageCrc c)) s)
  | (_, s) => late .holdupLow s

def calibBay (m : CalibRun) (q : Req) (_ : CmdRef) (s : Hub) : Reply × Hub :=
  let b := fld q.payload 0 2
  match calibFails q b s with
  | some st => fail st (countStatus b st s)
  | none =>
    let s := if (bit (calWhat q) 0 || bit (calWhat q) 1) && (calibTuned (calWhat q) m b s).isSome then countCalibTakes b m s else s
    match calibSolve q m b s with
    | .error st => late st s
    | .ok (e, r, s) => calibWrite (calWhat q) b e r s

/-- WATCH, and IDLE with its link UP. -/
def calibStates (_ : Req) (_ : Nat) (x : Bay) : Bool := x.st == .watch || (x.st == .idle && x.link.state == .up)

/-- The command table's row of CALIB_BAY. -/
def specCalibBay : Spec :=
  { op := 0x0802, lc := lcCF, len := len 24, target := bayAt0, states := calibStates }

def execCalibBay (q : Req) (m : CalibRun) : State → Turn := onHub fun s =>
  .next (hostCommand specCalibBay (calibBay m) q s)

end Sys2Proof.Machine
end

