-- ==== Sys2Proof/Machine/Dispatch.lean ====
section
/-! DEFINITION. The meaning of every command: one direct call per constructor of `Instr`, in the order of the opcode table. -/

namespace Sys2Proof.Machine

/-- What a command does to the hub; the queue is not touched. -/
def exec (i : Instr) (s : State) : Host.Outcome State Fault Refusal :=
  match i with
  | .bayStatus q => Sys2Proof.Machine.execBayStatus q s
  | .bayConfigPolling q => Sys2Proof.Machine.execBayConfigPolling q s
  | .bayConfigRanging q => Sys2Proof.Machine.execBayConfigRanging q s
  | .bayConfigBinding q => Sys2Proof.Machine.execBayConfigBinding q s
  | .bayConfigRelease q => Sys2Proof.Machine.execBayConfigRelease q s
  | .bayControlEnable q => Sys2Proof.Machine.execBayControlEnable q s
  | .bayControlDisable q => Sys2Proof.Machine.execBayControlDisable q s
  | .bayControlWake q => Sys2Proof.Machine.execBayControlWake q s
  | .bayControlRearmCoils q => Sys2Proof.Machine.execBayControlRearmCoils q s
  | .bayControlRetrain q => Sys2Proof.Machine.execBayControlRetrain q s
  | .bayGeometrySet q => Sys2Proof.Machine.execBayGeometrySet q s
  | .profileSet q => Sys2Proof.Machine.execProfileSet q s
  | .bayMeasure q => Sys2Proof.Machine.execBayMeasure q s
  | .take q => Sys2Proof.Machine.execTake q s
  | .cardExchange q => Sys2Proof.Machine.execCardExchange q s
  | .bayTagRead q => Sys2Proof.Machine.execBayTagRead q s
  | .bayTagWrite q => Sys2Proof.Machine.execBayTagWrite q s
  | .bayTagRearm q => Sys2Proof.Machine.execBayTagRearm q s
  | .bayTagEnable q => Sys2Proof.Machine.execBayTagEnable q s
  | .sessionAuthorize q => Sys2Proof.Machine.execSessionAuthorize q s
  | .sessionWrap q => Sys2Proof.Machine.execSessionWrap q s
  | .releaseHold q => Sys2Proof.Machine.execReleaseHold q s
  | .releaseResume q => Sys2Proof.Machine.execReleaseResume q s
  | .releaseClass q => Sys2Proof.Machine.execReleaseClass q s
  | .safetyCut q => Sys2Proof.Machine.execSafetyCut q s
  | .permitDrop q => Sys2Proof.Machine.execPermitDrop q s
  | .meterRead q => Sys2Proof.Machine.execMeterRead q s
  | .coexSet q => Sys2Proof.Machine.execCoexSet q s
  | .complianceWrite q => Sys2Proof.Machine.execComplianceWrite q s
  | .complianceRead q => Sys2Proof.Machine.execComplianceRead q s
  | .testEmit q => Sys2Proof.Machine.execTestEmit q s
  | .testEnd q => Sys2Proof.Machine.execTestEnd q s
  | .queueDump q => Sys2Proof.Machine.execQueueDump q s
  | .captureRead q => Sys2Proof.Machine.execCaptureRead q s
  | .credEnrol q => Sys2Proof.Machine.execCredEnrol q s
  | .credRevoke q => Sys2Proof.Machine.execCredRevoke q s
  | .credQuery q => Sys2Proof.Machine.execCredQuery q s
  | .fleetSet q => Sys2Proof.Machine.execFleetSet q s
  | .fleetQuery q => Sys2Proof.Machine.execFleetQuery q s
  | .bulkBegin q => Sys2Proof.Machine.execBulkBegin q s
  | .bulkData q => Sys2Proof.Machine.execBulkData q s
  | .bulkCommit q => Sys2Proof.Machine.execBulkCommit q s
  | .bulkAbort q => Sys2Proof.Machine.execBulkAbort q s
  | .bulkTimeout => Sys2Proof.Machine.execBulkTimeout s
  | .credStatus q => Sys2Proof.Machine.execCredStatus q s
  | .logRead q => Sys2Proof.Machine.execLogRead q s
  | .logAck q => Sys2Proof.Machine.execLogAck q s
  | .logConfig q => Sys2Proof.Machine.execLogConfig q s
  | .logStatus q => Sys2Proof.Machine.execLogStatus q s
  | .dailiesGet q => Sys2Proof.Machine.execDailiesGet q s
  | .timeSet q => Sys2Proof.Machine.execTimeSet q s
  | .timeGet q => Sys2Proof.Machine.execTimeGet q s
  | .powerSet q => Sys2Proof.Machine.execPowerSet q s
  | .plSet q => Sys2Proof.Machine.execPlSet q s
  | .rapidReserve q => Sys2Proof.Machine.execRapidReserve q s
  | .holdupSet q => Sys2Proof.Machine.execHoldupSet q s
  | .powerStatus q => Sys2Proof.Machine.execPowerStatus q s
  | .keyInstall q => Sys2Proof.Machine.execKeyInstall q s
  | .keyStatus q => Sys2Proof.Machine.execKeyStatus q s
  | .deviceKeyGet q => Sys2Proof.Machine.execDeviceKeyGet q s
  | .lifecycleSet q => Sys2Proof.Machine.execLifecycleSet q s
  | .rngRead q => Sys2Proof.Machine.execRngRead q s
  | .rushesSet q => Sys2Proof.Machine.execRushesSet q s
  | .rushesDurationEnd => Sys2Proof.Machine.execRushesDurationEnd s
  | .rushesRead q => Sys2Proof.Machine.execRushesRead q s
  | .version q => Sys2Proof.Machine.execVersion q s
  | .imageStage q => Sys2Proof.Machine.execImageStage q s
  | .imageActivate q => Sys2Proof.Machine.execImageActivate q s
  | .splice q => Sys2Proof.Machine.execSplice q s
  | .regionControlQuarantine q => Sys2Proof.Machine.execRegionControlQuarantine q s
  | .regionControlRestore q => Sys2Proof.Machine.execRegionControlRestore q s
  | .regionControlOff q => Sys2Proof.Machine.execRegionControlOff q s
  | .regionControlOn q => Sys2Proof.Machine.execRegionControlOn q s
  | .regionControlSetQuarRelease q => Sys2Proof.Machine.execRegionControlSetQuarRelease q s
  | .regionStatus q => Sys2Proof.Machine.execRegionStatus q s
  | .calibExport q => Sys2Proof.Machine.execCalibExport q s
  | .calibImport q => Sys2Proof.Machine.execCalibImport q s
  | .calibBay q m => Sys2Proof.Machine.execCalibBay q m s
  | .calibStatus q => Sys2Proof.Machine.execCalibStatus q s
  | .mfgStep kImport => Sys2Proof.Machine.execMfgStep kImport s
  | .mfgCalib page => Sys2Proof.Machine.execMfgCalib page s
  | .smbCommandWrite l => Sys2Proof.Machine.execSmbCommandWrite l s
  | .smbResponseRead => Sys2Proof.Machine.execSmbResponseRead s
  | .smbStatusRead => Sys2Proof.Machine.execSmbStatusRead s
  | .smbAlertResponse => Sys2Proof.Machine.execSmbAlertResponse s
  | .smbAddressMatchWake addr => Sys2Proof.Machine.execSmbAddressMatchWake addr s
  | .hostRoleClaim p v => Sys2Proof.Machine.execHostRoleClaim p v s
  | .hostRoleHeartbeat p v => Sys2Proof.Machine.execHostRoleHeartbeat p v s
  | .hostRoleRelease p v => Sys2Proof.Machine.execHostRoleRelease p v s
  | .heartbeatLapse => Sys2Proof.Machine.execHeartbeatLapse s
  | .cmdTailDoorbell p urgent v => Sys2Proof.Machine.execCmdTailDoorbell p urgent v s
  | .rspHeadWrite p urgent v => Sys2Proof.Machine.execRspHeadWrite p urgent v s
  | .mailboxReset p urgent v => Sys2Proof.Machine.execMailboxReset p urgent v s
  | .mailboxEnable p urgent v => Sys2Proof.Machine.execMailboxEnable p urgent v s
  | .ntcHeadWrite p v => Sys2Proof.Machine.execNtcHeadWrite p v s
  | .noticeRingReset p v => Sys2Proof.Machine.execNoticeRingReset p v s
  | .noticeRingEnable p v => Sys2Proof.Machine.execNoticeRingEnable p v s
  | .rngOutRead p => Sys2Proof.Machine.execRngOutRead p s
  | .hostVoteWrite p v => Sys2Proof.Machine.execHostVoteWrite p v s
  | .tamperCfgWrite p v => Sys2Proof.Machine.execTamperCfgWrite p v s
  | .alarmWrite p off v => Sys2Proof.Machine.execAlarmWrite p off v s
  | .clkMeasSelWrite p v => Sys2Proof.Machine.execClkMeasSelWrite p v s
  | .clkMeasDone => Sys2Proof.Machine.execClkMeasDone s
  | .tmuCtrlWrite p n v => Sys2Proof.Machine.execTmuCtrlWrite p n v s
  | .tmuCntWrite p n v => Sys2Proof.Machine.execTmuCntWrite p n v s
  | .tmuCmpWrite p n v => Sys2Proof.Machine.execTmuCmpWrite p n v s
  | .tmuLinkWrite p n v => Sys2Proof.Machine.execTmuLinkWrite p n v s
  | .registerWrite p off bytes v => Sys2Proof.Machine.execRegisterWrite p off bytes v s
  | .pciePortReset p linkDown => Sys2Proof.Machine.execPciePortReset p linkDown s
  | .tmuCompareMatch n => Sys2Proof.Machine.execTmuCompareMatch n s
  | .tmuOverflow n => Sys2Proof.Machine.execTmuOverflow n s
  | .tmuCaptureEdge n level => Sys2Proof.Machine.execTmuCaptureEdge n level s
  | .tmuLinkEvent n => Sys2Proof.Machine.execTmuLinkEvent n s
  | .signalDetected b => Sys2Proof.Machine.execSignalDetected b s
  | .codewordLock x cws => Sys2Proof.Machine.execCodewordLock x cws s
  | .codewordLockLost x cws => Sys2Proof.Machine.execCodewordLockLost x cws s
  | .eqReq x m => Sys2Proof.Machine.execEqReq x m s
  | .eqStatus x m => Sys2Proof.Machine.execEqStatus x m s
  | .ident b m => Sys2Proof.Machine.execIdent b m s
  | .limitsAck b m => Sys2Proof.Machine.execLimitsAck b m s
  | .trainingComplete b => Sys2Proof.Machine.execTrainingComplete b s
  | .trainingTimeout b => Sys2Proof.Machine.execTrainingTimeout b s
  | .upstreamSlateReceived b u => Sys2Proof.Machine.execUpstreamSlateReceived b u s
  | .upstreamSlateTimeout b => Sys2Proof.Machine.execUpstreamSlateTimeout b s
  | .cueEchoTimeout b => Sys2Proof.Machine.execCueEchoTimeout b s
  | .creditTimeout b => Sys2Proof.Machine.execCreditTimeout b s
  | .downstreamSlateLaunch b => Sys2Proof.Machine.execDownstreamSlateLaunch b s
  | .markerLaunch b => Sys2Proof.Machine.execMarkerLaunch b s
  | .drowseRequest b => Sys2Proof.Machine.execDrowseRequest b s
  | .drowseBlock b d arrival => Sys2Proof.Machine.execDrowseBlock b d arrival s
  | .drowseMarkerSend b => Sys2Proof.Machine.execDrowseMarkerSend b s
  | .wake b => Sys2Proof.Machine.execWake b s
  | .drowseTimeout b => Sys2Proof.Machine.execDrowseTimeout b s
  | .linkdown m => Sys2Proof.Machine.execLinkdown m s
  | .faultRecoveryTimeout b => Sys2Proof.Machine.execFaultRecoveryTimeout b s
  | .headWakeLow r => Sys2Proof.Machine.execHeadWakeLow r s
  | .wakeLineMask r => Sys2Proof.Machine.execWakeLineMask r s
  | .wakeLineUnmask r => Sys2Proof.Machine.execWakeLineUnmask r s
  | .slotBoundary => Sys2Proof.Machine.execSlotBoundary s
  | .planFreeze r => Sys2Proof.Machine.execPlanFreeze r s
  | .safetyDispatch c => Sys2Proof.Machine.execSafetyDispatch c s
  | .coexReqRaise r q => Sys2Proof.Machine.execCoexReqRaise r q s
  | .coexGrantSample r q gnt => Sys2Proof.Machine.execCoexGrantSample r q gnt s
  | .coexReqFall r => Sys2Proof.Machine.execCoexReqFall r s
  | .burstLaunchDeadline b => Sys2Proof.Machine.execBurstLaunchDeadline b s
  | .calibrationRun b => Sys2Proof.Machine.execCalibrationRun b s
  | .cellFailure r e c => Sys2Proof.Machine.execCellFailure r e c s
  | .groupSelfTest r e g bad => Sys2Proof.Machine.execGroupSelfTest r e g bad s
  | .engineLost r e => Sys2Proof.Machine.execEngineLost r e s
  | .queueStoreEcc r uncorrectable => Sys2Proof.Machine.execQueueStoreEcc r uncorrectable s
  | .listenRequest l => Sys2Proof.Machine.execListenRequest l s
  | .sighting l => Sys2Proof.Machine.execSighting l s
  | .decline l => Sys2Proof.Machine.execDecline l s
  | .cancel l => Sys2Proof.Machine.execCancel l s
  | .collectionWindowClose b => Sys2Proof.Machine.execCollectionWindowClose b s
  | .response b m => Sys2Proof.Machine.execResponse b m s
  | .report b m => Sys2Proof.Machine.execReport b m s
  | .reportWindowClose b => Sys2Proof.Machine.execReportWindowClose b s
  | .listenReceptionEnd r k m => Sys2Proof.Machine.execListenReceptionEnd r k m s
  | .rapidStart b w => Sys2Proof.Machine.execRapidStart b w s
  | .rapidRoundVerdict b m => Sys2Proof.Machine.execRapidRoundVerdict b m s
  | .continuityTakeDue b => Sys2Proof.Machine.execContinuityTakeDue b s
  | .lostTimeout b k => Sys2Proof.Machine.execLostTimeout b k s
  | .contestedTimeout b k => Sys2Proof.Machine.execContestedTimeout b k s
  | .engageLimitExpiry b k => Sys2Proof.Machine.execEngageLimitExpiry b k s
  | .blink m => Sys2Proof.Machine.execBlink m s
  | .watchHoldExpiry b => Sys2Proof.Machine.execWatchHoldExpiry b s
  | .darkEntry b => Sys2Proof.Machine.execDarkEntry b s
  | .externalFieldLost b => Sys2Proof.Machine.execExternalFieldLost b s
  | .tagListenGap b => Sys2Proof.Machine.execTagListenGap b s
  | .tagReqa b wupa => Sys2Proof.Machine.execTagReqa b wupa s
  | .tagAnticollisionSelect b uid => Sys2Proof.Machine.execTagAnticollisionSelect b uid s
  | .tagSelectByName b apdu => Sys2Proof.Machine.execTagSelectByName b apdu s
  | .tagSelectByFile b apdu => Sys2Proof.Machine.execTagSelectByFile b apdu s
  | .readBinary b apdu => Sys2Proof.Machine.execReadBinary b apdu s
  | .updateBinary b apdu => Sys2Proof.Machine.execUpdateBinary b apdu s
  | .verify b apdu => Sys2Proof.Machine.execVerify b apdu s
  | .getChallenge b apdu => Sys2Proof.Machine.execGetChallenge b apdu s
  | .externalAuthenticate b apdu => Sys2Proof.Machine.execExternalAuthenticate b apdu s
  | .tagDeselect b hlta => Sys2Proof.Machine.execTagDeselect b hlta s
  | .tagOwnershipEnd b => Sys2Proof.Machine.execTagOwnershipEnd b s
  | .tagWireWriteTimeout b => Sys2Proof.Machine.execTagWireWriteTimeout b s
  | .auth2 b k f => Sys2Proof.Machine.execAuth2 b k f s
  | .authAck b k f => Sys2Proof.Machine.execAuthAck b k f s
  | .authReplyWindowClose b k => Sys2Proof.Machine.execAuthReplyWindowClose b k s
  | .fobFrame f => Sys2Proof.Machine.execFobFrame f s
  | .retiringCommitRetry slot => Sys2Proof.Machine.execRetiringCommitRetry slot s
  | .releaseBoundary b => Sys2Proof.Machine.execReleaseBoundary b s
  | .releaseFrameLate b => Sys2Proof.Machine.execReleaseFrameLate b s
  | .safetyCutSend b => Sys2Proof.Machine.execSafetyCutSend b s
  | .bpcStatus r ident f => Sys2Proof.Machine.execBpcStatus r ident f s
  | .bpcUrgent r ident f => Sys2Proof.Machine.execBpcUrgent r ident f s
  | .bpcSilent b => Sys2Proof.Machine.execBpcSilent b s
  | .meterA r ident f => Sys2Proof.Machine.execMeterA r ident f s
  | .meterB r ident f => Sys2Proof.Machine.execMeterB r ident f s
  | .meterBTimeout b => Sys2Proof.Machine.execMeterBTimeout b s
  | .meterReqTimeout b => Sys2Proof.Machine.execMeterReqTimeout b s
  | .meterTimeout b => Sys2Proof.Machine.execMeterTimeout b s
  | .busOff r => Sys2Proof.Machine.execBusOff r s
  | .busOffPersist r => Sys2Proof.Machine.execBusOffPersist r s
  | .foreignFrame r ident f => Sys2Proof.Machine.execForeignFrame r ident f s
  | .holdTimeExpiry b => Sys2Proof.Machine.execHoldTimeExpiry b s
  | .sealRetry b => Sys2Proof.Machine.execSealRetry b s
  | .relRangeRetry b => Sys2Proof.Machine.execRelRangeRetry b s
  | .commitBurst => Sys2Proof.Machine.execCommitBurst s
  | .vholdSample code => Sys2Proof.Machine.execVholdSample code s
  | .mainLost => Sys2Proof.Machine.execMainLost s
  | .mainLostClear => Sys2Proof.Machine.execMainLostClear s
  | .dailies => Sys2Proof.Machine.execDailies s
  | .journalCopyForward => Sys2Proof.Machine.execJournalCopyForward s
  | .regionWatchdogExpiry r => Sys2Proof.Machine.execRegionWatchdogExpiry r s
  | .autoRestart r => Sys2Proof.Machine.execAutoRestart r s
  | .proxyLimit r => Sys2Proof.Machine.execProxyLimit r s
  | .drainTimeout r => Sys2Proof.Machine.execDrainTimeout r s
  | .drainComplete r => Sys2Proof.Machine.execDrainComplete r s
  | .sequencerReady r => Sys2Proof.Machine.execSequencerReady r s
  | .restartLimitExpiry r => Sys2Proof.Machine.execRestartLimitExpiry r s
  | .chipFault cause => Sys2Proof.Machine.execChipFault cause s
  | .supWatchdog => Sys2Proof.Machine.execSupWatchdog s
  | .tempSensorSample t => Sys2Proof.Machine.execTempSensorSample t s
  | .vaultAlarm => Sys2Proof.Machine.execVaultAlarm s
  | .tamperActive n => Sys2Proof.Machine.execTamperActive n s
  | .rtcAlarm n => Sys2Proof.Machine.execRtcAlarm n s
  | .wakeOutEnd => Sys2Proof.Machine.execWakeOutEnd s
  | .sourceLost x => Sys2Proof.Machine.execSourceLost x s
  | .pllPhaseError x => Sys2Proof.Machine.execPllPhaseError x s
  | .sourceReturned x => Sys2Proof.Machine.execSourceReturned x s
  | .coastExit x => Sys2Proof.Machine.execCoastExit x s
  | .tpllCoastBoundary b => Sys2Proof.Machine.execTpllCoastBoundary b s
  | .clockMuxSwitch x main => Sys2Proof.Machine.execClockMuxSwitch x main s
  | .clkswForced x => Sys2Proof.Machine.execClkswForced x s
  | .clkswFail x => Sys2Proof.Machine.execClkswFail x s
  | .chello side lane m => Sys2Proof.Machine.execChello side lane m s
  | .cascadeMismatchRetry side => Sys2Proof.Machine.execCascadeMismatchRetry side s
  | .cmarkSend side => Sys2Proof.Machine.execCmarkSend side s
  | .cmark side m arrival => Sys2Proof.Machine.execCmark side m arrival s
  | .cecho side m arrival => Sys2Proof.Machine.execCecho side m arrival s
  | .cascadeSideDown side reason => Sys2Proof.Machine.execCascadeSideDown side reason s
  | .cmarkTimeout => Sys2Proof.Machine.execCmarkTimeout s
  | .cascadeLaneSwitch side => Sys2Proof.Machine.execCascadeLaneSwitch side s
  | .dvfsStep => Sys2Proof.Machine.execDvfsStep s
  | .voltageSettled mv => Sys2Proof.Machine.execVoltageSettled mv s
  | .dvfsFail => Sys2Proof.Machine.execDvfsFail s
  | .s1Entry r => Sys2Proof.Machine.execS1Entry r s
  | .s1Exit r => Sys2Proof.Machine.execS1Exit r s
  | .s2Entry r => Sys2Proof.Machine.execS2Entry r s
  | .s2Abort r => Sys2Proof.Machine.execS2Abort r s
  | .s2Exit r => Sys2Proof.Machine.execS2Exit r s
  | .s3Entry => Sys2Proof.Machine.execS3Entry s
  | .s3Abort => Sys2Proof.Machine.execS3Abort s
  | .s3Exit => Sys2Proof.Machine.execS3Exit s
  | .wakeSourceServed n => Sys2Proof.Machine.execWakeSourceServed n s
  | .s4Entry => Sys2Proof.Machine.execS4Entry s
  | .rngSourceSetOut n test => Sys2Proof.Machine.execRngSourceSetOut n test s
  | .rngSourceReturn n => Sys2Proof.Machine.execRngSourceReturn n s
  | .rngStartupDone n => Sys2Proof.Machine.execRngStartupDone n s
  | .conditionedBlock raw => Sys2Proof.Machine.execConditionedBlock raw s
  | .drbgReseed => Sys2Proof.Machine.execDrbgReseed s
  | .drbgInstantiate => Sys2Proof.Machine.execDrbgInstantiate s
  | .nonceReserveRefill => Sys2Proof.Machine.execNonceReserveRefill s
  | .porNAssert => Sys2Proof.Machine.execPorNAssert s
  | .sysRstNAssert => Sys2Proof.Machine.execSysRstNAssert s
  | .brownOut rail mv torn => Sys2Proof.Machine.execBrownOut rail mv torn s
  | .boot m => Sys2Proof.Machine.execBoot m s
  | .trialConfirm => Sys2Proof.Machine.execTrialConfirm s
  | .credStoreLoaded => Sys2Proof.Machine.execCredStoreLoaded s
  | .trainingRetry b => Sys2Proof.Machine.execTrainingRetry b s
  | .frameWaitingTimeExpiry b => Sys2Proof.Machine.execFrameWaitingTimeExpiry b s
  | .busFrameComplete b => Sys2Proof.Machine.execBusFrameComplete b s
  | .busOffRecovery r => Sys2Proof.Machine.execBusOffRecovery r s
  | .sectorEraseComplete => Sys2Proof.Machine.execSectorEraseComplete s
  | .recoveryBurstRetry => Sys2Proof.Machine.execRecoveryBurstRetry s
  | .credStoreEcc slot uncorrectable => Sys2Proof.Machine.execCredStoreEcc slot uncorrectable s
  | .cryptoLaneFailure r hash => Sys2Proof.Machine.execCryptoLaneFailure r hash s
  | .sequencerMemoryError r => Sys2Proof.Machine.execSequencerMemoryError r s
  | .pcieLinkUp p => Sys2Proof.Machine.execPcieLinkUp p s
  | .jtagInstruction k => Sys2Proof.Machine.execJtagInstruction k s

end Sys2Proof.Machine
end

