-- ==== Sys2Proof/WellFormed.lean ====
section
/-! DEFINITION. Well-formed commands: the bays, regions, engines, cells, timers, sources, lanes and slots a command names are those of R1, R14,
R36, R40, R701, R722 and R363. -/

namespace Sys2Proof

/-- A lane receiver the hub has: of 128 head ports, or one of the two lanes of a cascade side. -/
def Rx.ok : Rx → Bool
  | .head b => decide (b < 128)
  | .casc _ lane => decide (lane < 2)

/-- A JTAG instruction that names a region names one of 8. -/
def Jtag.ok : Jtag → Bool
  | .bypass => true
  | .boundaryScan => true
  | .holdSupervisor => true
  | .releaseSupervisor => true
  | .holdRegion r => decide (r < 8)
  | .releaseRegion r => decide (r < 8)

/-- Every unit a command names exists in some ordering code. -/
def Instr.wf : Instr → Bool
  | .bayStatus _ => true
  | .bayConfigPolling _ => true
  | .bayConfigRanging _ => true
  | .bayConfigBinding _ => true
  | .bayConfigRelease _ => true
  | .bayControlEnable _ => true
  | .bayControlDisable _ => true
  | .bayControlWake _ => true
  | .bayControlRearmCoils _ => true
  | .bayControlRetrain _ => true
  | .bayGeometrySet _ => true
  | .profileSet _ => true
  | .bayMeasure _ => true
  | .take _ => true
  | .cardExchange _ => true
  | .bayTagRead _ => true
  | .bayTagWrite _ => true
  | .bayTagRearm _ => true
  | .bayTagEnable _ => true
  | .sessionAuthorize _ => true
  | .sessionWrap _ => true
  | .releaseHold _ => true
  | .releaseResume _ => true
  | .releaseClass _ => true
  | .safetyCut _ => true
  | .permitDrop _ => true
  | .meterRead _ => true
  | .coexSet _ => true
  | .complianceWrite _ => true
  | .complianceRead _ => true
  | .testEmit _ => true
  | .testEnd _ => true
  | .queueDump _ => true
  | .captureRead _ => true
  | .credEnrol _ => true
  | .credRevoke _ => true
  | .credQuery _ => true
  | .fleetSet _ => true
  | .fleetQuery _ => true
  | .bulkBegin _ => true
  | .bulkData _ => true
  | .bulkCommit _ => true
  | .bulkAbort _ => true
  | .bulkTimeout => true
  | .credStatus _ => true
  | .logRead _ => true
  | .logAck _ => true
  | .logConfig _ => true
  | .logStatus _ => true
  | .dailiesGet _ => true
  | .timeSet _ => true
  | .timeGet _ => true
  | .powerSet _ => true
  | .plSet _ => true
  | .rapidReserve _ => true
  | .holdupSet _ => true
  | .powerStatus _ => true
  | .keyInstall _ => true
  | .keyStatus _ => true
  | .deviceKeyGet _ => true
  | .lifecycleSet _ => true
  | .rngRead _ => true
  | .rushesSet _ => true
  | .rushesDurationEnd => true
  | .rushesRead _ => true
  | .version _ => true
  | .imageStage _ => true
  | .imageActivate _ => true
  | .splice _ => true
  | .regionControlQuarantine _ => true
  | .regionControlRestore _ => true
  | .regionControlOff _ => true
  | .regionControlOn _ => true
  | .regionControlSetQuarRelease _ => true
  | .regionStatus _ => true
  | .calibExport _ => true
  | .calibImport _ => true
  | .calibBay _ _ => true
  | .calibStatus _ => true
  | .mfgStep _ => true
  | .mfgCalib _ => true
  | .smbCommandWrite _ => true
  | .smbResponseRead => true
  | .smbStatusRead => true
  | .smbAlertResponse => true
  | .smbAddressMatchWake _ => true
  | .hostRoleClaim _ _ => true
  | .hostRoleHeartbeat _ _ => true
  | .hostRoleRelease _ _ => true
  | .heartbeatLapse => true
  | .cmdTailDoorbell _ _ _ => true
  | .rspHeadWrite _ _ _ => true
  | .mailboxReset _ _ _ => true
  | .mailboxEnable _ _ _ => true
  | .ntcHeadWrite _ _ => true
  | .noticeRingReset _ _ => true
  | .noticeRingEnable _ _ => true
  | .rngOutRead _ => true
  | .hostVoteWrite _ _ => true
  | .tamperCfgWrite _ _ => true
  | .alarmWrite _ _ _ => true
  | .clkMeasSelWrite _ _ => true
  | .clkMeasDone => true
  | .tmuCtrlWrite _ n _ => decide (n < 16)
  | .tmuCntWrite _ n _ => decide (n < 16)
  | .tmuCmpWrite _ n _ => decide (n < 16)
  | .tmuLinkWrite _ n _ => decide (n < 16)
  | .registerWrite _ _ _ _ => true
  | .pciePortReset _ _ => true
  | .tmuCompareMatch n => decide (n < 16)
  | .tmuOverflow n => decide (n < 16)
  | .tmuCaptureEdge n _ => decide (n < 16)
  | .tmuLinkEvent n => decide (n < 16)
  | .signalDetected b => decide (b < 128)
  | .codewordLock x cws => x.ok && cws.all (fun c => decide (c.syms.length = 544))
  | .codewordLockLost x cws => x.ok && cws.all (fun c => decide (c.syms.length = 544))
  | .eqReq x _ => x.ok
  | .eqStatus x _ => x.ok
  | .ident b _ => decide (b < 128)
  | .limitsAck b _ => decide (b < 128)
  | .trainingComplete b => decide (b < 128)
  | .trainingTimeout b => decide (b < 128)
  | .upstreamSlateReceived b _ => decide (b < 128)
  | .upstreamSlateTimeout b => decide (b < 128)
  | .cueEchoTimeout b => decide (b < 128)
  | .creditTimeout b => decide (b < 128)
  | .downstreamSlateLaunch b => decide (b < 128)
  | .markerLaunch b => decide (b < 128)
  | .drowseRequest b => decide (b < 128)
  | .drowseBlock b _ _ => decide (b < 128)
  | .drowseMarkerSend b => decide (b < 128)
  | .wake b => decide (b < 128)
  | .drowseTimeout b => decide (b < 128)
  | .linkdown m => decide (m.bay < 128)
  | .faultRecoveryTimeout b => decide (b < 128)
  | .headWakeLow r => decide (r < 8)
  | .wakeLineMask r => decide (r < 8)
  | .wakeLineUnmask r => decide (r < 8)
  | .slotBoundary => true
  | .planFreeze r => decide (r < 8)
  | .safetyDispatch c => decide (c.bay < 128)
  | .coexReqRaise r _ => decide (r < 8)
  | .coexGrantSample r _ _ => decide (r < 8)
  | .coexReqFall r => decide (r < 8)
  | .burstLaunchDeadline b => decide (b < 128)
  | .calibrationRun b => decide (b < 128)
  | .cellFailure r e c => decide (r < 8) && decide (e < 8) && decide (c < 136)
  | .groupSelfTest r e g _ => decide (g < 16) && decide (r < 8) && decide (e < 8)
  | .engineLost r e => decide (r < 8) && decide (e < 8)
  | .queueStoreEcc r _ => decide (r < 8)
  | .listenRequest _ => true
  | .sighting _ => true
  | .decline _ => true
  | .cancel _ => true
  | .collectionWindowClose b => decide (b < 128)
  | .response b _ => decide (b < 128)
  | .report b _ => decide (b < 128)
  | .reportWindowClose b => decide (b < 128)
  | .listenReceptionEnd r _ _ => decide (r < 8)
  | .rapidStart b _ => decide (b < 128)
  | .rapidRoundVerdict b _ => decide (b < 128)
  | .continuityTakeDue b => decide (b < 128)
  | .lostTimeout b _ => decide (b < 128)
  | .contestedTimeout b _ => decide (b < 128)
  | .engageLimitExpiry b _ => decide (b < 128)
  | .blink _ => true
  | .watchHoldExpiry b => decide (b < 128)
  | .darkEntry b => decide (b < 128)
  | .externalFieldLost b => decide (b < 128)
  | .tagListenGap b => decide (b < 128)
  | .tagReqa b _ => decide (b < 128)
  | .tagAnticollisionSelect b _ => decide (b < 128)
  | .tagSelectByName b _ => decide (b < 128)
  | .tagSelectByFile b _ => decide (b < 128)
  | .readBinary b _ => decide (b < 128)
  | .updateBinary b _ => decide (b < 128)
  | .verify b _ => decide (b < 128)
  | .getChallenge b _ => decide (b < 128)
  | .externalAuthenticate b _ => decide (b < 128)
  | .tagDeselect b _ => decide (b < 128)
  | .tagOwnershipEnd b => decide (b < 128)
  | .tagWireWriteTimeout b => decide (b < 128)
  | .auth2 b _ _ => decide (b < 128)
  | .authAck b _ _ => decide (b < 128)
  | .authReplyWindowClose b _ => decide (b < 128)
  | .fobFrame _ => true
  | .retiringCommitRetry slot => decide (slot < 262144)
  | .releaseBoundary b => decide (b < 128)
  | .releaseFrameLate b => decide (b < 128)
  | .safetyCutSend b => decide (b < 128)
  | .bpcStatus r _ _ => decide (r < 8)
  | .bpcUrgent r _ _ => decide (r < 8)
  | .bpcSilent b => decide (b < 128)
  | .meterA r _ _ => decide (r < 8)
  | .meterB r _ _ => decide (r < 8)
  | .meterBTimeout b => decide (b < 128)
  | .meterReqTimeout b => decide (b < 128)
  | .meterTimeout b => decide (b < 128)
  | .busOff r => decide (r < 8)
  | .busOffPersist r => decide (r < 8)
  | .foreignFrame r _ _ => decide (r < 8)
  | .holdTimeExpiry b => decide (b < 128)
  | .sealRetry b => decide (b < 128)
  | .relRangeRetry b => decide (b < 128)
  | .commitBurst => true
  | .vholdSample _ => true
  | .mainLost => true
  | .mainLostClear => true
  | .dailies => true
  | .journalCopyForward => true
  | .regionWatchdogExpiry r => decide (r < 8)
  | .autoRestart r => decide (r < 8)
  | .proxyLimit r => decide (r < 8)
  | .drainTimeout r => decide (r < 8)
  | .drainComplete r => decide (r < 8)
  | .sequencerReady r => decide (r < 8)
  | .restartLimitExpiry r => decide (r < 8)
  | .chipFault cause => decide (cause ≠ 0) && decide (cause < 6)
  | .supWatchdog => true
  | .tempSensorSample t => decide (t.length = 12)
  | .vaultAlarm => true
  | .tamperActive n => decide (n < 4)
  | .rtcAlarm n => decide (n < 2)
  | .wakeOutEnd => true
  | .sourceLost _ => true
  | .pllPhaseError _ => true
  | .sourceReturned _ => true
  | .coastExit _ => true
  | .tpllCoastBoundary b => decide (b < 128)
  | .clockMuxSwitch _ _ => true
  | .clkswForced _ => true
  | .clkswFail _ => true
  | .chello _ lane _ => decide (lane < 2)
  | .cascadeMismatchRetry _ => true
  | .cmarkSend _ => true
  | .cmark _ _ _ => true
  | .cecho _ _ _ => true
  | .cascadeSideDown _ _ => true
  | .cmarkTimeout => true
  | .cascadeLaneSwitch _ => true
  | .dvfsStep => true
  | .voltageSettled _ => true
  | .dvfsFail => true
  | .s1Entry r => decide (r < 8)
  | .s1Exit r => decide (r < 8)
  | .s2Entry r => decide (r < 8)
  | .s2Abort r => decide (r < 8)
  | .s2Exit r => decide (r < 8)
  | .s3Entry => true
  | .s3Abort => true
  | .s3Exit => true
  | .wakeSourceServed n => decide (n < 16)
  | .s4Entry => true
  | .rngSourceSetOut n _ => decide (n < 4)
  | .rngSourceReturn n => decide (n < 4)
  | .rngStartupDone n => decide (n < 4)
  | .conditionedBlock _ => true
  | .drbgReseed => true
  | .drbgInstantiate => true
  | .nonceReserveRefill => true
  | .porNAssert => true
  | .sysRstNAssert => true
  | .brownOut _ _ _ => true
  | .boot _ => true
  | .trialConfirm => true
  | .credStoreLoaded => true
  | .trainingRetry b => decide (b < 128)
  | .frameWaitingTimeExpiry b => decide (b < 128)
  | .busFrameComplete b => decide (b < 128)
  | .busOffRecovery r => decide (r < 8)
  | .sectorEraseComplete => true
  | .recoveryBurstRetry => true
  | .credStoreEcc slot _ => decide (slot < 262144)
  | .cryptoLaneFailure r _ => decide (r < 8)
  | .sequencerMemoryError r => decide (r < 8)
  | .pcieLinkUp _ => true
  | .jtagInstruction i => i.ok

end Sys2Proof
end

