-- ==== Sys2Proof/Safety.lean ====
section
/-! DEFINITION. What statements about the hub are made of: queues of well-formed commands, changes that stay on the host side, and when a host
command passes the checks every command shares. -/

namespace Sys2Proof.Machine

/-- The state with the hub `h` and the same commands waiting. -/
abbrev State.to (s : State) (h : Hub) : State := { s with hub := h }

/-- Every command that waits names units that exist. -/
def State.queueOk (s : State) : Prop := s.pending.all Instr.wf = true

/-- `b` differs from `a` at most in the host side and in the record of what was sent. -/
def HostSideOnly (a b : Hub) : Prop := b = { a with host := b.host, out := b.out }

/-- The hub with a command's entry taken up. -/
def taken (q : Req) (s : State) : Hub := consume q s.hub

/-- The entry is this row's own, it is fetched, and it passes the checks of R509 and R531 up to the signature (R504 to R509, R518, R751). -/
def reaches (c : Spec) (q : Req) (h : Hub) : Bool :=
  let u := consume q h
  fetches q h && (q.op == c.op && knownOpcodes.contains q.op && c.mine q) && q.entryOk && (q.mbx == .smbus || seqOk q (h.mailbox q.mbx)) &&
    flagsOk q && !(u.romRecovery && !romServes q.op u) && allowed c q u && lengthOk c q && (targetStatus (c.target q.payload) u).isNone && q.dataOk

/-- A command that needs no signature passes every check that commands share (R509, R532). -/
def passes (c : Spec) (q : Req) (h : Hub) : Bool :=
  reaches c q h && !c.signed q (consume q h) && (commonStatus c q (consume q h)).isNone

/-- A command that needs a signature comes to its verification (R517). -/
def passesToSig (c : Spec) (q : Req) (h : Hub) : Bool := reaches c q h && c.signed q (consume q h)

/-- The hub after the verification of a signed command has passed (R517): `v`, whose state the rest of R532 is checked on. -/
def verifiedTo (c : Spec) (q : Req) (h v : Hub) : Prop := verifyCmd q (consume q h) = (none, v) ∧ commonStatus c q v = none

/-- A command passes every shared check, with or without a signature; `v` is the hub its own checks and effects start from. -/
def ready (c : Spec) (q : Req) (h v : Hub) : Prop := passes c q h = true ∧ v = consume q h ∨ passesToSig c q h = true ∧ verifiedTo c q h v

/-- The command is answered OK at once, with these result rows and this result data; `u` holds its effects. -/
def okNow (c : Spec) (q : Req) (res : List Fld) (data : List Byte) (u : Hub) : Hub := answer c q false (.done .ok res data) u

/-- The command is answered ACCEPTED and its COMMAND_DONE says OK in the same step; `u` holds its effects. -/
def okDone (c : Spec) (q : Req) (res : List Fld) (data : List Byte) (u : Hub) : Hub := answer c q false (.async .ok res data) u

/-- The rows that are commands of the host's mailboxes, each with what R533 and the command tables say of it; `m` is what a CALIB_BAY measures. -/
def hostRows (q : Req) (m : CalibRun) : List (Instr × Spec) :=
  [(.bayStatus q, specBayStatus), (.bayConfigPolling q, specBayConfigPolling), (.bayConfigRanging q, specBayConfigRanging),
   (.bayConfigBinding q, specBayConfigBinding), (.bayConfigRelease q, specBayConfigRelease), (.bayControlEnable q, specBayControlEnable),
   (.bayControlDisable q, specBayControlDisable), (.bayControlWake q, specBayControlWake), (.bayControlRearmCoils q, specBayControlRearmCoils),
   (.bayControlRetrain q, specBayControlRetrain), (.bayGeometrySet q, specBayGeometrySet), (.profileSet q, specProfileSet),
   (.bayMeasure q, specBayMeasure), (.take q, specTake), (.cardExchange q, specCardExchange), (.bayTagRead q, specBayTagRead),
   (.bayTagWrite q, specBayTagWrite), (.bayTagRearm q, specBayTagRearm), (.bayTagEnable q, specBayTagEnable),
   (.sessionAuthorize q, specSessionAuthorize), (.sessionWrap q, specSessionWrap), (.releaseHold q, specReleaseHold),
   (.releaseResume q, specReleaseResume), (.releaseClass q, specReleaseClass), (.safetyCut q, specSafetyCut), (.permitDrop q, specPermitDrop),
   (.meterRead q, specMeterRead), (.coexSet q, specCoexSet), (.complianceWrite q, specComplianceWrite), (.complianceRead q, specComplianceRead),
   (.testEmit q, specTestEmit), (.testEnd q, specTestEnd), (.queueDump q, specQueueDump), (.captureRead q, specCaptureRead),
   (.credEnrol q, specCredEnrol), (.credRevoke q, specCredRevoke), (.credQuery q, specCredQuery), (.fleetSet q, specFleetSet),
   (.fleetQuery q, specFleetQuery), (.bulkBegin q, specBulkBegin)] ++
  [(.bulkData q, specBulkData), (.bulkCommit q, specBulkCommit), (.bulkAbort q, specBulkAbort), (.credStatus q, specCredStatus),
   (.logRead q, specLogRead), (.logAck q, specLogAck), (.logConfig q, specLogConfig), (.logStatus q, specLogStatus), (.dailiesGet q, specDailiesGet),
   (.timeSet q, specTimeSet), (.timeGet q, specTimeGet), (.powerSet q, specPowerSet), (.plSet q, specPlSet), (.rapidReserve q, specRapidReserve),
   (.holdupSet q, specHoldupSet), (.powerStatus q, specPowerStatus), (.keyInstall q, specKeyInstall), (.keyStatus q, specKeyStatus),
   (.deviceKeyGet q, specDeviceKeyGet), (.lifecycleSet q, specLifecycleSet), (.rngRead q, specRngRead), (.rushesSet q, specRushesSet),
   (.rushesRead q, specRushesRead), (.version q, specVersion), (.imageStage q, specImageStage), (.imageActivate q, specImageActivate),
   (.splice q, specSplice), (.regionControlQuarantine q, specRegionControlQuarantine), (.regionControlRestore q, specRegionControlRestore),
   (.regionControlOff q, specRegionControlOff), (.regionControlOn q, specRegionControlOn),
   (.regionControlSetQuarRelease q, specRegionControlSetQuarRelease), (.regionStatus q, specRegionStatus), (.calibExport q, specCalibExport),
   (.calibImport q, specCalibImport), (.calibBay q m, specCalibBay), (.calibStatus q, specCalibStatus)]

end Sys2Proof.Machine
end

