-- ==== Sys2Proof/Certificates/Slice0/Obligations.lean ====
section
/-! DEFINITION. The statements about the hub that are to be proved. Each says what a family of commands, an event or the whole machine does; most
of them answer with the very next state, so that what they do not name is unchanged. -/

open Sys2Proof Sys2Proof.Machine

/-- BAY_CONFIG (R176, R254, R537, R538): section 0, 1, 2 or 3 in range for every bay the BAY field names, none of them in a QUARANTINED region, is
answered OK, and each of these bays, in index order, takes the section's parameters. -/
def Obligations.BayConfigSetsSection : Prop :=
  ∀ (q : Req) (s : State),
    let u := taken q s
    let l := namedBays u (fld q.payload 0 2)
    (∀ b ∈ l, (u.region (regionOf b)).st ≠ .quarantined) →
    (passes specBayConfigPolling q s.hub = true → fld q.payload 2 1 = 0 → pollCheck (limits u) q.payload = none →
      exec (.bayConfigPolling q) s =
        .next (s.to (okNow specBayConfigPolling q [] [] (forAll l (setPolling (pollCfgOf q.payload)) u)))) ∧
    (passes specBayConfigRanging q s.hub = true → rangeCheck (limits u) q.payload = none →
      exec (.bayConfigRanging q) s =
        .next (s.to (okNow specBayConfigRanging q [] [] (forAll l (setRanging (rangeCfgOf q.payload)) u)))) ∧
    (passes specBayConfigBinding q s.hub = true → bindCheck q.payload = none →
      exec (.bayConfigBinding q) s =
        .next (s.to (okNow specBayConfigBinding q [] [] (forAll l (setBinding q.payload) u)))) ∧
    (passes specBayConfigRelease q s.hub = true → (∀ b ∈ l, relCheck u q.payload b = none) →
      exec (.bayConfigRelease q) s =
        .next (s.to (okNow specBayConfigRelease q [] [] (forAll l (setRelease (relCfgOf q.payload)) u))))

/-- BAY_CONTROL (R539): ENABLE sets the enable of a port that has none, and changes nothing else; DISABLE of a bay with no session ends its
authorisation and takes it out of service at once; WAKE takes a bay in IDLE or DARK to WATCH; REARM_COILS clears the coil faults; RETRAIN takes the
link down with reason HOST_DISABLE. -/
def Obligations.BayControlActs : Prop :=
  ∀ (q : Req) (s : State),
    let u := taken q s
    let b := fld q.payload 0 2
    (passes specBayControlEnable q s.hub = true → fld q.payload 2 1 = 1 → (u.bay b).link.enabled = false →
      exec (.bayControlEnable q) s =
        .next (s.to (okNow specBayControlEnable q [] [] (u.setBay b (fun x => { x with link := { x.link with enabled := true } }))))) ∧
    (passes specBayControlDisable q s.hub = true → (u.bay b).link.disableDue = false → isCharging u b = false → isWrapping u b = false →
      exec (.bayControlDisable q) s = .next (s.to (okNow specBayControlDisable q [] [] (disabled b (abortAuth b .wrongState u))))) ∧
    (passes specBayControlWake q s.hub = true → (u.bay b).st = .idle ∨ (u.bay b).st = .dark → (u.region (regionOf b)).st = .active →
      (u.bay b).radio.test = none →
      exec (.bayControlWake q) s = .next (s.to (okNow specBayControlWake q [] [] (wakeLink b (toWatch b u))))) ∧
    (passes specBayControlRearmCoils q s.hub = true →
      exec (.bayControlRearmCoils q) s =
        .next (s.to (okNow specBayControlRearmCoils q [] [] (u.setBay b (fun x =>
          { x with poll := { x.poll with lfOpen := false, hfOpen := false, degraded := false, lfLow := 0, hfLow := 0 } }))))) ∧
    (passes specBayControlRetrain q s.hub = true →
      exec (.bayControlRetrain q) s = .next (s.to (okNow specBayControlRetrain q [] [] (takeDown b .hostDisable u))))

/-- PROFILE_SET (R31 to R33, R541) and PL_SET (R31, R587): with no change of profile or level in progress. A higher profile number narrows streaming
first; a lower one raises the level where it must, and widens streaming at a boundary where the level suffices. PL_SET pins a level that the profile
allows, and is complete at once where the level in force is the one asked for. POWER_SET (R586) takes the floors of the regions present and
S3_ALLOW; RAPID_RESERVE (R312, R588) waits for the slot boundary; BAY_GEOMETRY_SET (R322 to R325, R540) with a sound blob of the identity in force
waits for the slot boundary, each behind those that wait already. -/
def Obligations.LevelsAndSettings : Prop :=
  (∀ (q : Req) (s : State),
     let u := taken q s
     let p := fld q.payload 0 1
     u.pwr.run = none → u.pwr.dvfs = none → p ≤ 3 →
     (passes specProfileSet q s.hub = true → p = u.pwr.profile →
       exec (.profileSet q) s = .next (s.to (okNow specProfileSet q [⟨8, 1, p⟩, ⟨9, 1, u.pwr.pl⟩] [] u))) ∧
     (passes specProfileSet q s.hub = true → p ≠ u.pwr.profile → ¬(p = patrolProfile ∧ vServed u = true) →
       let go := fun st => setPwr (fun x => { x with run := some { new := p, old := x.profile, step := st, ref := refOf specProfileSet q } }) (accept specProfileSet q u)
       exec (.profileSet q) s =
         .next (s.to (if u.pwr.profile < p then go .narrowing else if u.pwr.pl ≤ levelFor u p then go .widening
                               else startLevel (levelFor u p) none (go .raising)))) ∧
     (passes specPlSet q s.hub = true → p ≤ u.pwr.profile →
       let pin := setPwr (fun x => { x with plPin := if p = u.pwr.profile then none else some p })
       let l := levelFor (pin u) u.pwr.profile
       exec (.plSet q) s =
         .next (s.to (if l = u.pwr.pl then okNow specPlSet q [⟨8, 1, l⟩, ⟨9, 1, (pin u).pwr.plPin.getD 0xFF⟩] [] (pin u)
                               else startLevel l (some (refOf specPlSet q)) (pin (accept specPlSet q u)))))) ∧
  (∀ (q : Req) (s : State),
     let u := taken q s
     (passes specPowerSet q s.hub = true → (∀ r, r < 8 → u.regionPresent r = true → fld q.payload r 1 ≤ 2) → fld q.payload 8 1 ≤ 1 →
       exec (.powerSet q) s =
         .next (s.to (okNow specPowerSet q [bytesFld 0 (q.payload.take 9)] [] (setPwr (fun p =>
           { p with floors := (List.range 8).map (fun r => if u.regionPresent r then nth 0 ((List.range 8).map (fun r => fld q.payload r 1)) r else 0)
                    s3Allow := fld q.payload 8 1 == 1 }) u)))) ∧
     (passes specRapidReserve q s.hub = true → fld q.payload 0 1 ≤ 1 →
       exec (.rapidReserve q) s =
         .next (s.to ({ accept specRapidReserve q u with
           reserveNext := u.reserveNext ++ [(fld q.payload 0 1 == 1, refOf specRapidReserve q)] }))) ∧
     (passes specBayGeometrySet q s.hub = true → 64 ≤ q.data.length → q.data.length = blobLength q.data →
       blobSound u q.data (geometryOf q.data) = true → (geometryOf q.data).ident = u.flash.cascId →
       exec (.bayGeometrySet q) s =
         .next (s.to ({ accept specBayGeometrySet q u with
           geomNext := u.geomNext ++ [(geometryOf q.data, refOf specBayGeometrySet q)] }))))

/-- BAY_MEASURE (R193, R542), TAKE (R543), CARD_EXCHANGE (R544): the bay's region plans, the coil or the HF side is free, a conversation queue is
free and nothing of the kind runs at the bay: ACCEPTED, and the item enters the call sheet with the command as the one it answers. -/
def Obligations.BayItemsQueued : Prop :=
  ∀ (q : Req) (s : State),
    let u := taken q s
    let b := fld q.payload 0 2
    bayPlans u b = true →
    (passes specBayMeasure q s.hub = true → fld q.payload 2 1 ≤ 1 → queueFree u b false = true → (u.bay b).poll.measure = none →
      let hf := decide (fld q.payload 2 1 = 1)
      (if hf then (u.bay b).poll.hfOpen || (u.bay b).hf.extField else (u.bay b).poll.lfOpen) = false →
      let a := accept specBayMeasure q u
      exec (.bayMeasure q) s =
        .next (s.to (setPoll b (fun p => { p with measure := some { hf := hf, code := 0, ref := some (refOf specBayMeasure q) } })
          (enqueue false { q := 0, kind := .poll, cls := .auth, bay := b, what := .measure hf, earliest := a.slot, latest := a.slot + 100
                           hostTag := q.tag, ref := some (refOf specBayMeasure q), order := a.slot } a).2))) ∧
    (∀ d, passes specTake q s.hub = true → (u.bay b).dlgV = some d → d.auth.phase = .done → (u.bay b).take = none → (u.bay b).radio.copy ≠ .cal →
      (limits u).channel d.cfg.uwbCh 0 = true →
      let ask := fun (h : Hub) => ({ due := h.slot, latest := h.slot + 500, rapid := rapidSelected d (bit (fld q.payload 2 1) 0)
                                     noListen := bit (fld q.payload 2 1) 1, ref := some (refOf specTake q), room := q.room } : TakeAsk)
      (planTake b (ask u) u).1 = true →
      exec (.take q) s = .next (s.to ((planTake b (ask u) (accept specTake q u)).2))) ∧
    (passes specCardExchange q s.hub = true → q.len = 4 + fld q.payload 3 1 → fld q.payload 2 1 ≤ 7 →
      (fld q.payload 3 1 = 0 → 1 ≤ q.data.length ∧ q.data.length ≤ 4096) →
      queueFree u b false = true → authRuns u b = false → (u.bay b).poll.hfOpen = false → (u.bay b).hf.extField = false → (u.bay b).hf.owned = false →
      let a := accept specCardExchange q u
      let k := freeQueue (a.items (regionOf b))
      exec (.cardExchange q) s =
        .next (s.to (setHf b (fun h =>
            { h with waiting := h.waiting ++ [{ kind := if bit (fld q.payload 2 1) 2 then 0 else 3, q := k, write := bit (fld q.payload 2 1) 0, deselect := bit (fld q.payload 2 1) 1
                                                apdu := if fld q.payload 3 1 = 0 then q.data else (q.payload.drop 4).take (fld q.payload 3 1)
                                                deadline := 0, limit := 0
                                                ref := some (refOf specCardExchange q), room := q.room }] })
          (enqueue false { q := 0, kind := .discovery, cls := .auth, bay := b, what := .hfPoll, earliest := a.slot, latest := a.slot + 10000, tclass := 1
                           hostTag := q.tag, ref := some (refOf specCardExchange q), order := a.slot } a).2)))

/-- TEST_EMIT (R167 to R169, R558): within its fields and the limits, at a bay with no test, it ends polling, takes the bay to IDLE and arms the
emission. TEST_END (R559) without a test answers OK, and one that has not begun ends OK with 0 ms. COEX_SET (R555) leaves the setting for the slot
boundary in every region it names. -/
def Obligations.TestsAndCoexistence : Prop :=
  ∀ (q : Req) (s : State),
    let u := taken q s
    let b := fld q.payload 0 2
    (passes specTestEmit q s.hub = true → testFields (fld q.payload 2 1) (fld q.payload 3 1) (fld q.payload 4 2) (fld q.payload 8 4) = true →
      (u.bay b).radio.test = none → (0x61 < fld q.payload 2 1 ∨ (u.bay b).radio.copy ≠ .cal) →
      testAllowed (limits u) (fld q.payload 2 1) (fld q.payload 3 1) (fld q.payload 4 2) = true →
      let t : TestRun := { opc := fld q.payload 2 1, power := fld q.payload 3 1, arg := fld q.payload 4 2 + 4096 * fld q.payload 8 4
                           ref := refOf specTestEmit q, started := none }
      exec (.testEmit q) s =
        .next (s.to (tryTest b (wakeLink b (setRadio b (fun r => { r with test := some t }) ((endPolling b (accept specTestEmit q u)).setBay b (fun x => { x with st := .idle }))))))) ∧
    (passes specTestEnd q s.hub = true → (u.bay b).radio.test = none →
      exec (.testEnd q) s = .next (s.to (okNow specTestEnd q [] [] u))) ∧
    (∀ t, passes specTestEnd q s.hub = true → (u.bay b).radio.test = some t → t.started = none →
      exec (.testEnd q) s = .next (s.to (okDone specTestEnd q [] [] (endTest b .ok 0 u)))) ∧
    (passes specCoexSet q s.hub = true → fld q.payload 1 1 ≤ 1 →
      let w := forAll (namedRegions (fld q.payload 0 1) u) (fun r h => setCoex r (fun c => { c with pending := some (fld q.payload 1 1 == 1) }) h) u
      exec (.coexSet q) s =
        .next (s.to (okNow specCoexSet q [⟨8, 1, flags ((List.range 8).map (coexSetting w))⟩] [] w)))

/-- BAY_TAG WRITE, REARM and ENABLE (R236, R237, R545): while the field side does not own the tag the write is committed at once and answered with
what the commit says; while it does, up to 4 writes wait, ACCEPTED. -/
def Obligations.TagWrites : Prop :=
  ∀ (i : Instr) (c : Spec) (q : Req) (s : State),
    let u := taken q s
    let a := accept c q u
    let b := fld q.payload 0 2
    (i = .bayTagWrite q ∧ c = specBayTagWrite ∧ 1 ≤ fld q.payload 3 1 ∧ fld q.payload 3 1 + fld q.payload 4 1 ≤ 14 ∧
        q.data.length = 64 * fld q.payload 4 1 ∨
      i = .bayTagRearm q ∧ c = specBayTagRearm ∧ fld q.payload 3 1 ≤ 1 ∨
      i = .bayTagEnable q ∧ c = specBayTagEnable ∧ fld q.payload 3 1 ≤ 1) →
    passes c q s.hub = true →
    (∀ v, (u.bay b).hf.owned = false → wireCommit b (wireOf q (refOf c q) u) u = (.ok, v) →
      exec i s = .next (s.to (okNow c q (tagResult v b) [] v))) ∧
    ((u.bay b).hf.owned = true → (u.bay b).hf.wire.length < 4 →
      exec i s = .next (s.to (setHf b (fun h => { h with wire := h.wire ++ [wireOf q (refOf c q) a] }) a)))

/-- SESSION_WRAP (R550): a bay whose authorisation runs, and one that charges under supervisor ownership, holds the command; otherwise a session is
triggered to wrap, and an ENGAGED bay without one ends its dialogues. RELEASE_HOLD, RELEASE_RESUME and RELEASE_CLASS (R551) of the bay's own
session: under supervisor ownership the command is held for the handback; otherwise HOLD and RESUME set what the next boundary takes up, with its
cause, unless it is that already, and CLASS sets the class. -/
def Obligations.WrapAndReleaseCommands : Prop :=
  (∀ (q : Req) (s : State),
     let u := taken q s
     let b := fld q.payload 0 2
     passes specSessionWrap q s.hub = true →
     (isAuthorizing u b = true ∨ sessNamed q u b = true ∧ (u.rel b).supervisor = true ∧ isCharging u b = true →
       exec (.sessionWrap q) s = .next (s.to ((accept specSessionWrap q u).setBay b (fun x =>
         { x with held := x.held ++ [{ kind := 0, cls := 0, ref := some (refOf specSessionWrap q) }] })))) ∧
     (isAuthorizing u b = false → sessNamed q u b = true → ((u.rel b).supervisor && isCharging u b) = false →
       let w := if (u.bay b).sess.isSome then trigger b cHostWrap u else endDialogues b .dialogueEnd u
       exec (.sessionWrap q) s = .next (s.to (okNow specSessionWrap q [⟨8, 1, bayStateCode (w.bay b).st⟩] [] w)))) ∧
  (∀ (q : Req) (s : State),
     let u := taken q s
     let b := fld q.payload 0 2
     let cls := fld q.payload 2 1
     sessNamed q u b = true →
     (∀ k i c, (k = 1 ∧ i = Instr.releaseHold q ∧ c = specReleaseHold ∧ cls = 0 ∨ k = 2 ∧ i = Instr.releaseResume q ∧ c = specReleaseResume ∧ cls = 0 ∨
         k = 3 ∧ i = Instr.releaseClass q ∧ c = specReleaseClass ∧ cls ≠ 0) →
       (u.rel b).supervisor = true → passes c q s.hub = true →
       exec i s = .next (s.to ((accept c q u).setBay b (fun x => { x with held := x.held ++ [{ kind := k, cls := cls, ref := some (refOf c q) }] })))) ∧
     ((u.rel b).supervisor = false →
       (passes specReleaseHold q s.hub = true → cls = 0 →
         exec (.releaseHold q) s = .next (s.to (okNow specReleaseHold q [] []
           (if (u.rel b).want = .hold then u else setRel b (fun r => { r with want := .hold, cause := .hostHold }) u)))) ∧
       (passes specReleaseResume q s.hub = true → cls = 0 →
         exec (.releaseResume q) s = .next (s.to (okNow specReleaseResume q [] []
           (if (u.rel b).want = .release then u else setRel b (fun r => { r with want := .release, cause := .hostResume }) u)))) ∧
       (passes specReleaseClass q s.hub = true → cls ≠ 0 →
         exec (.releaseClass q) s = .next (s.to (okNow specReleaseClass q [] [] (setRel b (fun r => { r with cls := cls }) u))))))

/-- SAFETY_CUT (R552) answers OK with the cut begun. PERMIT_DROP (R553): a safety cut begins at every bay that is CHARGING or WRAPPING in the
regions named; where none of their cuts is open afterwards the PWRPERMIT lines go low and the answer names the regions. METER_READ (R554) starts a
spot reading with the command waiting for it. SESSION_AUTHORIZE (R546, R547) of a class V or C token whose dialogue passes every check of R546:
ACCEPTED, and the session begins with its opening burst. -/
def Obligations.CutsReadingsAndAuthorize : Prop :=
  (∀ (q : Req) (s : State),
     let u := taken q s
     let b := fld q.payload 0 2
     (passes specSafetyCut q s.hub = true → exec (.safetyCut q) s = .next (s.to (okNow specSafetyCut q [] [] (hostSafetyCut b u)))) ∧
     (passes specPermitDrop q s.hub = true →
       let l := namedRegions (fld q.payload 0 1) u
       let w := l.foldl (fun h r => (liveBays h r).foldl (fun h b => hostSafetyCut b h) h) u
       (∀ r ∈ l, (w.region r).bus.cutsOpen = [] ∧ (w.region r).bus.cutFrames = []) →
       exec (.permitDrop q) s = .next (s.to (okNow specPermitDrop q [⟨8, 1, flags ((List.range 8).map (fun r => l.contains r))⟩] []
         (l.foldl (fun h r => setPermit r false h) w)))) ∧
     (passes specMeterRead q s.hub = true → sessNamed q u b = true → bayPlans u b = true → (u.rel b).req = none → u.rng.available = true →
       u.rng.rawActive = false →
       exec (.meterRead q) s = .next (s.to (startMeter b .spot (some (refOf specMeterRead q)) q.room (accept specMeterRead q u))))) ∧
  (∀ (q : Req) (s : State),
     let u := taken q s
     let b := fld q.payload 0 2
     let k := classOf (fld q.payload 2 1)
     ∀ d, passes specSessionAuthorize q s.hub = true → fld q.payload 2 1 ≤ 1 → fld q.payload 3 1 ≠ 0 →
       authorizeStatus u b k (fld q.payload 4 8) = none → boundDialogue u b k (fld q.payload 4 8) = some d →
       exec (.sessionAuthorize q) s =
         .next (s.to (openSession b k d (fld q.payload 3 1) (fld q.payload 12 8) (refOf specSessionAuthorize q) (accept specSessionAuthorize q u))))

/-- REGION_CONTROL (R606): on a region with no restart in progress, QUARANTINE of one that is ACTIVE or DRAINING quarantines it; RESTORE of a
QUARANTINED one restarts it, or ends IMAGE_INCOMPATIBLE where the image of the slot in use cannot start; OFF of an ACTIVE or QUARANTINED one without
live bays takes it OFF; ON powers an OFF one up and starts it; SET_QUAR_RELEASE sets, in every region named, the release mode of its next
quarantine. -/
def Obligations.RegionControlActs : Prop :=
  ∀ (q : Req) (s : State),
    let u := taken q s
    let r := fld q.payload 0 1
    (r ≠ 0xFF → (u.region r).restart = none →
      (passes specRegionControlQuarantine q s.hub = true → fld q.payload 1 1 = 1 → (u.region r).st = .active ∨ (u.region r).st = .draining →
        exec (.regionControlQuarantine q) s = .next (s.to (okNow specRegionControlQuarantine q [] [] (quarantine r .host u)))) ∧
      (passes specRegionControlRestore q s.hub = true → (u.region r).st = .quarantined →
        exec (.regionControlRestore q) s =
          .next (s.to (if regStarts u (activeSlot u) then startRestart r .restore (some (refOf specRegionControlRestore q)) (countRestart r (accept specRegionControlRestore q u))
                       else answer specRegionControlRestore q false (.async .imageIncompatible [] []) u))) ∧
      (passes specRegionControlOff q s.hub = true → (u.region r).st = .active ∨ (u.region r).st = .quarantined → liveBays u r = [] →
        exec (.regionControlOff q) s = .next (s.to (okDone specRegionControlOff q [] [] (regionOff r u)))) ∧
      (passes specRegionControlOn q s.hub = true → (u.region r).st = .off →
        exec (.regionControlOn q) s =
          .next (s.to (startRestart r .power (some (refOf specRegionControlOn q)) (regionPowerTo r .s0 (accept specRegionControlOn q u)))))) ∧
    (passes specRegionControlSetQuarRelease q s.hub = true → (∀ x ∈ namedRegions r u, (u.region x).restart = none) → fld q.payload 2 1 ≤ 1 →
      exec (.regionControlSetQuarRelease q) s =
        .next (s.to (okDone specRegionControlSetQuarRelease q [] []
          (forAll (namedRegions r u) (fun x h => h.setRegion x (fun y => { y with quarRelease := if fld q.payload 2 1 = 0 then .cut else .proxy })) u))))

/-- SPLICE (R517, R604): a signed command that its verification passes, for a valid slot whose image fits, starts the splice run over the 8 regions.
COMPLIANCE_WRITE (R147 to R151, R556): a page that is intact, signed by the compliance authority and newer than the one in flash is written to the
sector that is not in force, takes effect, is answered with its version and told by an EVENT; where the page has changed, every link that runs is
trained again. -/
def Obligations.SpliceAndComplianceWrite : Prop :=
  (∀ (q : Req) (s : State), passesToSig specSplice q s.hub = true →
     ∃ t, exec (.splice q) s = .next t ∧ t.pending = s.pending ∧
       ∀ v, verifiedTo specSplice q s.hub v → fld q.payload 0 1 ≤ 1 → v.splice = none → slotValid v 1 (regImage v (fld q.payload 0 1)) = true →
         ((regImage v (fld q.payload 0 1)).map (fun i => !abiFits v i)).getD false = false →
         let a := accept specSplice q v
         t.hub = spliceNext { a with splice := some { ref := refOf specSplice q, slot := fld q.payload 0 1, old := activeSlot a, todo := List.range 8
                                                      done := [] } }) ∧
  (∀ (q : Req) (s : State), passesToSig specComplianceWrite q s.hub = true →
     ∃ t, exec (.complianceWrite q) s = .next t ∧ t.pending = s.pending ∧
       ∀ v k w, verifiedTo specComplianceWrite q s.hub v →
         let p := signedData q
         pageIntact p = true → pageSigned v p = true → (∀ o, flashVersion v = some o → o < fld p 4 4) → pageBurst 16 v = (.done k, w) →
         let y := okDone specComplianceWrite q [⟨8, 4, fld p 4 4⟩] [] (postEvent 0xC chipSrc [⟨0, 4, fld p 4 4⟩] (compWritten p w))
         (compWritten p w).boot.compValid = true ∧ compPage (compWritten p w) = some p ∧
           t.hub = if compPage y = compPage s.hub then y else retrainAll y)

/-- CRED_ENROL (R374, R378, R569): a signed record that is in order, whose key unwraps, for which a slot and its fleet's quota are free and the
lifetime count is not exhausted, takes its slot with its block and with the count's next number, and the answer names slot, count and number.
CRED_REVOKE (R379, R570): a token that no open session rests on leaves its slot free and every dialogue; one that an open session rests on is
RETIRING and its sessions are triggered to wrap, where FLAGS allow it. FLEET_SET (R370, R572) with a quota that holds what is enrolled is written
and answered. -/
def Obligations.CredentialCommands : Prop :=
  (∀ (q : Req) (s : State), passesToSig specCredEnrol q s.hub = true →
     ∃ t, exec (.credEnrol q) s = .next t ∧ t.pending = s.pending ∧
       ∀ v key, verifiedTo specCredEnrol q s.hub v → storeBusy v = false → recordOk (q.data.take 64) = true → recordKey v (q.data.take 64) = some key →
         let c := recordCred (q.data.take 64) key
         let i := (findCred v c.cls c.tokenId).getD (firstFree 0 v.creds.slots)
         let old := v.cred i
         let n := if counts old c then 1 else 0
         let no := cellVal v cellEnrol + n
         i < credSlots → (old.valid = true ∧ old.retiring = false ∧ old.fleet = c.fleet ∨ enrolled v c.fleet + 1 ≤ (fleetOf v c.fleet).quota) →
         (n = 0 ∨ no ≤ enrolMax) →
         ∀ k a m w, (if n = 0 then (Commit.done 0, v) else cellAdvance cellEnrol no v) = (.done k, a) →
           commitSlot i (enrolInto old c no) a = (.done m, w) →
           t.hub = okDone specCredEnrol q (enrolResult i n (!old.valid) w) [] w) ∧
  (∀ (q : Req) (s : State),
     (passesToSig specCredRevoke q s.hub = true →
       ∃ t, exec (.credRevoke q) s = .next t ∧ t.pending = s.pending ∧
         ∀ v i k w, verifiedTo specCredRevoke q s.hub v → storeBusy v = false → fld q.payload 0 1 ≤ 2 →
           findCred v (classOf (fld q.payload 0 1)) (fld q.payload 4 8) = some i → (v.cred i).retiring = false →
           ((v.cred i).inSession = false → commitSlot i {} v = (.done k, w) →
             t.hub = okDone specCredRevoke q (revokeResult i (v.cred i).fleet 0) [] (dropToken i w)) ∧
           ((v.cred i).inSession = true → bit (fld q.payload 1 1) 0 = true → commitSlot i { v.cred i with retiring := true } v = (.done k, w) →
             t.hub = okDone specCredRevoke q (revokeResult i (v.cred i).fleet 1) [] ((sessionBays w i).foldl (fun h b => trigger b cRevoked h) w))) ∧
     (passesToSig specFleetSet q s.hub = true →
       ∃ t, exec (.fleetSet q) s = .next t ∧ t.pending = s.pending ∧
         ∀ v k w, verifiedTo specFleetSet q s.hub v → storeBusy v = false →
           let f := fld q.payload 0 2
           let n := fld q.payload 4 1
           f ≤ 4095 → 1 ≤ n → n ≤ 64 → enrolled v f ≤ fld q.payload 2 2 → pageBurst 9 (fleetErase (f / 256) v) = (.done k, w) →
           let x := fleetProgram (f / 256) (w.setNv (fun y => { y with fleets := Tab.put {} f { quota := fld q.payload 2 2, fobW := n } y.fleets }))
           t.hub = okDone specFleetSet q [⟨8, 2, f⟩, ⟨10, 2, fld q.payload 2 2⟩, ⟨12, 2, enrolled x f⟩, ⟨14, 1, n⟩] [] x))

/-- Bulk loads (R382 to R386, R574 to R577): BULK_BEGIN opens a load of the fleets named under the next load number. BULK_DATA for it adds records
that fit, and programs them behind those the staging area holds. BULK_COMMIT whose digest and counts are right writes the blocks that change, advances
the lifetime count and commits the journal entry: ACCEPTED, and the blocks wait for their switch at slot boundaries with the command's result; where
no block changes, it is done at once. BULK_ABORT closes the load with nothing changed, and so does BULK_TIMEOUT once 600 s have passed; before that,
or with no load open, BULK_TIMEOUT changes nothing. -/
def Obligations.BulkLoad : Prop :=
  ∀ (q : Req) (s : State),
    let u := taken q s
    (∀ v k w, passesToSig specBulkBegin q s.hub = true → verifiedTo specBulkBegin q s.hub v → storeBusy v = false →
      let fs := fleetList (signedData q)
      let n := cellVal v cellLoad + 1
      distinct fs = true → (∀ f ∈ fs, f ≤ 4095) → cellAdvance cellLoad n v = (.done k, w) →
      exec (.bulkBegin q) s = .next (s.to (okDone specBulkBegin q [⟨8, 4, n⟩] []
        (setCreds (fun c => { c with bulk := some { fleets := fs, loadId := n % 2 ^ 32, lastAt := w.now } }) w)))) ∧
    (∀ b, passes specBulkData q s.hub = true → u.creds.loading = false → openLoad u = some b → fld q.payload 0 4 = b.loadId →
      fld q.payload 4 4 = b.records.length → b.records.length + (recordList q.data).length ≤ loadMax →
      let w := setCreds (fun c => { c with bulk := some { b with lastAt := u.now } }) u
      firstBad w b.fleets (b.records.map recordToken) 0 (recordList q.data) = none →
      exec (.bulkData q) s = .next (s.to (okDone specBulkData q (dataResult (b.records.length + (recordList q.data).length) noSlot) []
        (setCreds (fun c => { c with bulk := some { b with lastAt := u.now, records := b.records ++ recordList q.data } })
          (w.program (flashStaging + 64 * b.records.length) (recordList q.data).flatten))))) ∧
    (∀ v b, passesToSig specBulkCommit q s.hub = true → verifiedTo specBulkCommit q s.hub v → v.creds.loading = false → openLoad v = some b →
      fld q.payload 0 4 = b.loadId → signedData q = loadDigest b → (loadStore b v).unplaced = 0 →
      (∀ f ∈ b.fleets, (b.records.filter (fun l => fld l 8 2 == f)).length ≤ (fleetOf v f).quota) →
      ((loadStore b v).counted = 0 ∨ cellVal v cellEnrol + (loadStore b v).counted ≤ enrolMax) →
      let ref := refOf specBulkCommit q
      (∀ res w, commitLoad b (loadStore b v) ref v = (.async .ok res [], w) → exec (.bulkCommit q) s = .next (s.to (okDone specBulkCommit q res [] w))) ∧
      ((commitLoad b (loadStore b v) ref v).1 = .later →
        let x := loadStore b v
        let a := accept specBulkCommit q v
        let ks := changedBlocks v.creds.slots x.slots
        let n := cellVal v cellEnrol + x.counted
        ∀ i k m e f g, writeBlocks b.loadId x.slots ks a = (.done i, e) →
          (if x.counted = 0 then (Commit.done 0, e) else cellAdvance cellEnrol n e) = (.done k, f) →
          commit { js := [.bulkCommit b.loadId (cellVal f cellEnrol)] } f = (.done m, g) →
          ∃ t, exec (.bulkCommit q) s = .next (s.to t) ∧
            t = setCreds (fun c => { c with fobDirty := c.fobDirty.filter (fun i => !ks.contains (i / 32)), switch := t.creds.switch }) g ∧
            ∃ y, t.creds.switch = some y ∧ y.blocks = ks ∧ y.newSlots = x.slots ∧ y.ref = ref ∧
              ∃ freed retiring, y.res = commitResult b x freed retiring (cellVal g cellEnrol))) ∧
    (∀ b, passes specBulkAbort q s.hub = true → u.creds.loading = false → openLoad u = some b → fld q.payload 0 4 = b.loadId →
      exec (.bulkAbort q) s = .next (s.to (okNow specBulkAbort q [] [] (setCreds (fun c => { c with bulk := none }) u)))) ∧
    (∀ b, openLoad s.hub = some b → s.hub.passed b.lastAt (sec 600) = true →
      exec .bulkTimeout s = .next (s.to (setCreds (fun c => { c with bulk := none }) s.hub))) ∧
    ((∀ b, openLoad s.hub = some b → s.hub.passed b.lastAt (sec 600) = false) → exec .bulkTimeout s = .next s)

/-- LOG_ACK (R473, R580) up to the newest record; LOG_CONFIG (R465, R468, R581) of a new offset, and of a new size in FACTORY or COMMISSIONING with
every record acknowledged, each with the site record written; TIME_SET (R467, R584): each is answered OK with what is in force after its burst. -/
def Obligations.ReelAndTimeCommands : Prop :=
  ∀ (q : Req) (s : State),
    let u := taken q s
    (passes specLogAck q s.hub = true → fld q.payload 0 8 ≤ newestSeq u →
      (fld q.payload 0 8 ≤ cellVal u cellReelAck →
        exec (.logAck q) s = .next (s.to (okDone specLogAck q (ackResult u) [] u))) ∧
      (∀ k w, cellVal u cellReelAck < fld q.payload 0 8 → cellAdvance cellReelAck (fld q.payload 0 8) u = (.done k, w) →
        exec (.logAck q) s = .next (s.to (okDone specLogAck q (ackResult w) [] w)))) ∧
    (passes specLogConfig q s.hub = true →
      (∀ k w, fld q.payload 0 2 = 0 → fld q.payload 4 4 ≤ 86399 → pageBurst 1 u = (.done k, w) →
        let x := siteWritten (setOffset (fld q.payload 4 4) w)
        exec (.logConfig q) s = .next (s.to (okDone specLogConfig q (configResult x) [] x))) ∧
      (∀ k w, fld q.payload 4 4 = 0xFFFFFFFF → fld q.payload 0 2 ≠ 0 → sizeOk u (fld q.payload 0 2) = true →
        u.lc = factory ∨ u.lc = commissioning → allAcked u = true → resize (fld q.payload 0 2) u = (.done k, w) →
        exec (.logConfig q) s = .next (s.to (okDone specLogConfig q (configResult (siteWritten w)) [] (siteWritten w))))) ∧
    (∀ k w, passes specTimeSet q s.hub = true → fld q.payload 0 8 ≠ 0 →
      commit { ents := [eventEnt 0xA chipSrc 1 (fld q.payload 0 8) [⟨0, 8, u.aon.rtc⟩] false] } u = (.done k, w) →
      exec (.timeSet q) s =
        .next (s.to (okDone specTimeSet q [⟨8, 8, u.aon.rtc⟩, ⟨16, 8, fld q.payload 0 8⟩] [] (setRtc (fld q.payload 0 8) w))))

/-- KEY_INSTALL (R591 to R593, R740): a blob of its kind's length that yields a key, within the rules of R591, is installed, and the answer carries
its check value; REMOVE installs an empty record. LIFECYCLE_SET (R596, R744, R770) makes a transition whose conditions hold: the field's copies are
programmed, DECOMMISSIONED clears the vault, and an EVENT and the answer carry both states. RNG_READ (R598, R728): 1 to 48 bytes of one generate
request in the result, more as data; with the DRBG due for a reseed that the pool cannot make, the command waits. RUSHES_SET and RUSHES_READ (R599,
R600, R736) outside FIELDED, and the end of DURATION. -/
def Obligations.KeysLifeCycleAndRng : Prop :=
  (∀ (q : Req) (s : State),
     (∀ v n w m x,
       let kind := (keyOf q).1
       let idx := (keyOf q).2.1
       let remove := (keyOf q).2.2
       let blob := if keySigned q v then signedData q else q.data
       ready specKeyInstall q s.hub v → keyKind kind = some (n, w) → (if kind = 1 then idx < 4 else 3 < kind ∨ idx = 0) →
       blob.length = (if remove then 0 else n) → (if remove then some none else (blobKey v w blob).map some) = some m →
       keyAllowed kind idx remove v = true → installKey kind idx m v = (true, x) →
       exec (.keyInstall q) s = .next (s.to (okDone specKeyInstall q
         [⟨8, 1, kind⟩, ⟨9, 1, idx⟩, bytesFld 12 (match m with | some l => keyCheck w l | none => [])] [] x))) ∧
     (passesToSig specLifecycleSet q s.hub = true →
       ∃ t, exec (.lifecycleSet q) s = .next t ∧ t.pending = s.pending ∧
         ∀ v k w, verifiedTo specLifecycleSet q s.hub v →
           let new := fld q.payload 0 1
           transition v.lc new = true → transitionReady new v = true → pageBurst 1 v = (.done k, w) →
           let x := programField new w
           let y := if new = decommissioned then vaultCleared x else x
           let torn := b2n (lcTorn y.fuse.lc)
           t.hub = limitsApplied s.hub (okDone specLifecycleSet q [⟨8, 1, v.lc⟩, ⟨9, 1, new⟩, ⟨10, 1, torn⟩] []
             (postEvent 8 chipSrc (lifecycleDetail v.lc new torn) y)))) ∧
  (∀ (q : Req) (s : State),
     let u := taken q s
     let n := fld q.payload 0 2
     let on := fld q.payload 0 1
     let dur := fld q.payload 4 4
     (passes specRngRead q s.hub = true → 1 ≤ n → n ≤ 4096 → (n ≤ 48 ∨ n ≤ q.room) →
       (∀ l g, u.rng.generate n = some (l, g) →
         exec (.rngRead q) s =
           .next (s.to (okNow specRngRead q (if n ≤ 48 then [bytesFld 0 l] else []) (if n ≤ 48 then [] else l) { u with rng := g }))) ∧
       (u.rng.generate n = none → u.rng.available = true → u.rng.rawActive = false →
         exec (.rngRead q) s =
           .next (s.to ((accept specRngRead q u).setRng (fun g => { g with waiting := g.waiting ++ [{ ref := refOf specRngRead q, len := n }] }))))) ∧
     (passes specRushesSet q s.hub = true → u.lc ≠ fielded → q.data = [] →
       (on = 1 → 1 ≤ dur → dur ≤ 3600 → u.rng.rawActive = true →
         exec (.rushesSet q) s = .next (s.to (okDone specRushesSet q [] [] (u.setRng (fun g => { g with rawEnd := u.now + sec dur }))))) ∧
       (on = 1 → 1 ≤ dur → dur ≤ 3600 → u.rng.rawActive = false → u.rng.rawPend = none → anyLive u = false →
         exec (.rushesSet q) s = .next (s.to (okDone specRushesSet q [] [] (rushesEnter dur u)))) ∧
       (on = 0 → u.rng.rawPend = none → u.rng.rawActive = true →
         exec (.rushesSet q) s = .next (s.to (rushesExit (some (refOf specRushesSet q)) (accept specRushesSet q u))))) ∧
     (passes specRushesRead q s.hub = true → (on ≤ 3 ∨ on = 0xFF) → 1 ≤ dur → dur ≤ 2 ^ 24 → dur ≤ q.room → u.rng.rawActive = true →
       exec (.rushesRead q) s =
         .next (s.to (okDone specRushesRead q [⟨8, 4, dur⟩] (toLe dur (freeVal (8 * dur) u).1) (freeVal (8 * dur) u).2))) ∧
     (s.hub.rng.rawActive = true → s.hub.rng.rawEnd ≤ s.hub.now → exec .rushesDurationEnd s = .next (s.to (rushesExit none s.hub))))

/-- IMAGE_STAGE (R602, R763): an image of its kind that passes every check is written to the slot that does not run, with an EVENT; a slot named for
the next start gives way first. IMAGE_ACTIVATE (R603, R765) of a valid slot names it in the boot record, on trial where it does not run. The two
manufacturing steps (R743, R770, R780): in BLANK, MFG_STEP fuses K_ROOT where it is not fused yet, draws the device and credential keys, writes the
vault records and programs the FACTORY field; in FACTORY, MFG_CALIB writes a sound page of this hub's serial; elsewhere neither changes anything. -/
def Obligations.ImageAndManufacturingCommands : Prop :=
  (∀ (q : Req) (s : State),
     (∀ v, ready specImageStage q s.hub v → flashAbsent v = false → fld q.payload 0 1 ≤ 1 → (fld q.payload 0 1 = 1 → v.splice = none) →
       let kind := fld q.payload 0 1
       let l := imageData q v
       let i : Image := { hdr := l.take 256, payload := l.drop 256 }
       let slot := stageSlot kind v
       ∃ t, exec (.imageStage q) s = .next t ∧ t.pending = s.pending ∧
         ∀ k w, imageStatus v kind i = none →
           (if kind = 0 ∧ (bootRec v).supActive = slot then writeBoot (fun r => { r with supActive := 1 - slot, trial := false }) v else (.done 0, v)) =
             (.done k, w) →
           t.hub = okDone specImageStage q [⟨8, 1, kind⟩, ⟨9, 1, slot⟩, ⟨12, 4, imageVersion (some i)⟩] []
             (postEvent 9 chipSrc [⟨0, 1, kind⟩, ⟨1, 1, slot⟩, ⟨2, 4, imageVersion (some i)⟩] ({ w with flash := writeSlot kind slot i w.flash }.program
               (if kind = 0 then flashSup slot else flashReg slot) (i.hdr ++ i.payload)))) ∧
     (∀ v, ready specImageActivate q s.hub v → flashAbsent v = false → fld q.payload 0 1 ≤ 1 → fld q.payload 1 1 ≤ 1 →
       let kind := fld q.payload 0 1
       let slot := fld q.payload 1 1
       let running := if v.fwReady then some v.boot.supSlot else none
       ∃ t, exec (.imageActivate q) s = .next t ∧ t.pending = s.pending ∧
         ∀ k w, slotValid v kind (if kind = 0 then supImage v slot else regImage v slot) = true →
           writeBoot (activated kind slot running (cellVal v cellBootTry)) v = (.done k, w) →
           t.hub = okDone specImageActivate q [] []
             (if kind = 0 ∧ running = some slot then setBoot (fun b => { b with trial := false, tries := 0 }) w else w))) ∧
  (∀ (s : State),
     let h := s.hub
     h.boot.phase ≠ .held →
     (∀ k kImport dev cred h0 h1 h2 i j w1 w2, h.lc = blank → h.rng.available = true →
       (h.fuse.kRoot = some k ∧ h0 = h ∨ h.fuse.kRoot = none ∧ ∃ n, drawRandom 32 h = some (n, h0) ∧ k = BitVec.ofNat 256 n) →
       drawRandom 32 h0 = some (dev, h1) → drawRandom 32 h1 = some (cred, h2) →
       pageBurst 13 (vaultErase 0 { h2 with fuse := { h2.fuse with kRoot := some k, rootCheck := rootCheckOf k } }) = (.done i, w1) →
       pageBurst 1 (vaultProgram 0 (w1.setNv (fun v => { v with vault := baseKeys dev cred (kImport % 2 ^ 256) v.vault }))) = (.done j, w2) →
       exec (.mfgStep kImport) s = .next (s.to (programField factory w2))) ∧
     (∀ kImport, h.lc ≠ blank → exec (.mfgStep kImport) s = .next s) ∧
     (∀ l k w, h.lc = factory → pageSound l = true → fld l 8 8 = Config.serial.toNat → pageBurst wholeWrite h = (.done k, w) →
       exec (.mfgCalib l) s = .next (s.to (pageInForce (factoryPage w l) (pageWritten wholeSectors (factoryPage w l) w)))) ∧
     (∀ l, h.lc ≠ factory ∨ pageSound l = false ∨ fld l 8 8 ≠ Config.serial.toNat → exec (.mfgCalib l) s = .next s))

/-- HOLDUP_SET (R483, R589), CALIB_EXPORT (R608), CALIB_IMPORT (R609), CALIB_BAY (R610, R788): parameters in range are written to the page with an
EVENT in their burst; the page is exported with the device's signature and marked exported; a page of this hub under the device's signature that is
sound takes effect; what the procedure solves is written to the bay's entry. -/
def Obligations.CalibrationCommands : Prop :=
  ∀ (q : Req) (s : State),
    let u := taken q s
    (∀ k w, passes specHoldupSet q s.hub = true → holdupRanges q.payload = true →
      let c := changed u u.boot.cal.changes { u.boot.cal with cHold := fld q.payload 0 4, pLoad := fld q.payload 4 4, vMin := fld q.payload 8 2
                                                              vDiv := fld q.payload 10 1, tPage := fld q.payload 11 1 }
      commit { ents := [eventEnt 0xB chipSrc 1 u.aon.rtc (calibEvent 0xFF (pageCrc c)) false], other := boardWrite } u = (.done k, w) →
      exec (.holdupSet q) s =
        .next (s.to (okDone specHoldupSet q [] [] (if w.boot.calValid then pageInForce c (pageWritten [] c w)
          else setBoot (fun b => { b with cal := c }) (pageWritten [] c w))))) ∧
    (passes specCalibExport q s.hub = true → 65616 ≤ q.room →
      let page := pageBytes u.boot.cal
      let tail := toLe 8 Config.serial.toNat ++ toLe 8 u.aon.rtc
      exec (.calibExport q) s =
        .next (s.to (okDone specCalibExport q [] (page ++ tail ++ sigBytes (Config.ecdsaSign 0x10 (exportDigest page tail)))
          { u with flash := { u.flash with exported := true } }))) ∧
    (passes specCalibImport q s.hub = true →
      ∃ t, exec (.calibImport q) s = .next t ∧ t.pending = s.pending ∧
        ∀ k w,
          let page := q.data.take 65536
          let tail := (q.data.drop 65536).take 16
          let c := changed u (if u.boot.calValid then u.boot.cal.changes else (pageOf page).changes) (pageOf page)
          q.data.length = 65616 → anyLive u = false → fld tail 0 8 = Config.serial.toNat →
          Config.ecdsaVerify (BitVec.ofNat 512 (vaultKey u 0x13 0).val) (exportDigest page tail) (sigOf (q.data.drop 65552)) = true →
          pageSound page = true → fld page 8 8 = Config.serial.toNat → pageBurst wholeWrite u = (.done k, w) →
          t.hub = okDone specCalibImport q [] []
            (postEvent 0xB chipSrc (calibEvent 0xFF (pageCrc c)) (retune (headsChecked (pageInForce c (pageWritten wholeSectors c w)))))) ∧
    (∀ m e r w res x, passes specCalibBay q s.hub = true →
      let b := fld q.payload 0 2
      let n := if (bit (calWhat q) 0 || bit (calWhat q) 1) && (calibTuned (calWhat q) m b u).isSome then countCalibTakes b m u else u
      calibFails q b u = none → calibSolve q m b n = .ok (e, r, w) → calibWrite (calWhat q) b e r w = (.async .ok res [], x) →
      exec (.calibBay q m) s = .next (s.to (okDone specCalibBay q res [] x)))

/-- BAY_STATUS (R534 to R536), whose clear bit, from the active port, clears that bay's own counters, BAY_TAG READ (R236, R545), REGION_STATUS
(R607), COMPLIANCE_READ (R557), QUEUE_DUMP (R42, R560), CAPTURE_READ (R561): the answer holds what the hub holds, and the hub is otherwise as it
was. -/
def Obligations.BayAndRegionReads : Prop :=
  ∀ (q : Req) (s : State),
    let u := taken q s
    let p := q.payload
    (passes specBayStatus q s.hub = true → (bit (fld p 2 1) 1 = true → fromActive q u = true) → (bit (fld p 2 1) 0 = true → 512 ≤ q.room) →
      exec (.bayStatus q) s = .next (s.to (okNow specBayStatus q (bayStatusResult u (fld p 0 2))
        (if bit (fld p 2 1) 0 then counterBlock u (fld p 0 2) else []) (if bit (fld p 2 1) 1 then clearCounters (fld p 0 2) u else u)))) ∧
    (passes specBayTagRead q s.hub = true → fld p 2 1 = 1 → fld p 3 1 + fld p 4 1 ≤ 16 → 64 * fld p 4 1 ≤ q.room →
      exec (.bayTagRead q) s = .next (s.to (okNow specBayTagRead q (tagResult u (fld p 0 2))
        ((u.img (fld p 0 2)).bytes (64 * fld p 3 1) (64 * fld p 4 1)) u))) ∧
    (passes specRegionStatus q s.hub = true →
      exec (.regionStatus q) s = .next (s.to (okNow specRegionStatus q (regionStatusResult u (fld p 0 1)) [] u))) ∧
    (passes specComplianceRead q s.hub = true →
      exec (.complianceRead q) s = .next (s.to (okNow specComplianceRead q
        [⟨8, 4, (flashVersion u).getD 0⟩, ⟨12, 1, b2n (validPage u).isSome⟩, ⟨13, 1, b2n (limits u).testPermit⟩, ⟨14, 1, limitSet u⟩,
         bytesFld 16 (toLe 30 (limitsPayload (limits u))).reverse]
        (if 4096 ≤ q.room then (compPage u).getD (List.replicate 4096 0xFF) else []) u))) ∧
    (passes specQueueDump q s.hub = true → fld p 1 1 ≤ 2 → (fld p 1 1 = 1 → regionOf (fld p 2 2) = fld p 0 1) →
      (fld p 1 1 = 0 → fld p 4 4 < queuesTotal) → 32 ≤ q.room → (u.region (fld p 0 1)).st ≠ .off →
      let l := dumped u (fld p 0 1) (fld p 1 1) (fld p 2 2) (fld p 4 4)
      let n := min l.length (q.room / 32)
      exec (.queueDump q) s = .next (s.to (okNow specQueueDump q [⟨8, 4, n⟩, ⟨12, 4, l.length⟩] (l.take n).flatten u))) ∧
    (passes specCaptureRead q s.hub = true → 1 ≤ fld p 1 1 → fld p 1 1 ≤ 16 → fld p 4 4 ≤ 0x3FFFFF → 4096 * fld p 1 1 ≤ q.room →
      exec (.captureRead q) s = .next (s.to (okNow specCaptureRead q []
        (captureBytes (u.region (fld p 0 1)) (fld p 4 4) (4096 * fld p 1 1)) u)))

/-- CRED_QUERY (R571), FLEET_QUERY (R573), CRED_STATUS (R578), whose clear bit, from the active port, clears the store's three error counters,
KEY_STATUS (R593), DEVICE_KEY_GET (R594). -/
def Obligations.CredentialAndKeyReads : Prop :=
  ∀ (q : Req) (s : State),
    let u := taken q s
    let p := q.payload
    (passes specCredQuery q s.hub = true → u.creds.loading = false →
      (queried p u = some none → exec (.credQuery q) s = .next (s.to (okNow specCredQuery q [⟨0, 4, noSlot⟩] [] u))) ∧
      (∀ i, queried p u = some (some i) →
        exec (.credQuery q) s = .next (s.to (okNow specCredQuery q (queryResult i (u.cred i))
          (if 76 ≤ q.room then (slotBytes (u.cred i)).take 16 ++ (slotBytes (u.cred i)).drop 32 else []) u)))) ∧
    (passes specFleetQuery q s.hub = true → u.creds.loading = false → fld p 0 2 ≤ 4095 →
      exec (.fleetQuery q) s = .next (s.to (okNow specFleetQuery q
        [⟨0, 2, fld p 0 2⟩, ⟨2, 2, (fleetOf u (fld p 0 2)).quota⟩, ⟨4, 2, enrolled u (fld p 0 2)⟩, ⟨6, 1, (fleetOf u (fld p 0 2)).fobW⟩,
         ⟨8, 4, retiringOf u (fld p 0 2)⟩] [] u))) ∧
    (passes specCredStatus q s.hub = true → (bit (fld p 0 1) 0 = true → fromActive q u = true) →
      exec (.credStatus q) s = .next (s.to (okNow specCredStatus q
        ([⟨0, 4, (u.creds.slots.filter (fun x => x.2.valid)).length⟩, ⟨4, 4, (u.creds.slots.filter (fun x => x.2.retiring)).length⟩,
          ⟨8, 8, cellVal u cellEnrol⟩,
          ⟨16, 1, flags [u.creds.loading, decide (u.creds.bulk ≠ none), decide (enrolMax ≤ cellVal u cellEnrol)]⟩,
          ⟨28, 4, u.creds.ecc⟩, ⟨32, 4, u.creds.slotLost⟩, ⟨36, 4, u.creds.blockLost⟩, ⟨40, 4, backoffCount u⟩,
          ⟨44, 4, u.creds.resync.length⟩] ++
          (u.creds.bulk.map (fun x => [Fld.mk 20 4 x.loadId, ⟨24, 4, x.records.length⟩])).getD [])
        [] (if bit (fld p 0 1) 0 then { u with creds := { u.creds with ecc := 0, slotLost := 0, blockLost := 0 } } else u)))) ∧
    (passes specKeyStatus q s.hub = true →
      exec (.keyStatus q) s = .next (s.to (okNow specKeyStatus q
        [⟨0, 1, flags ([0x10, 0x02, 0x03, 0x12].map (fun k => (vaultKey u k 0).present))⟩, ⟨1, 1, operatorMask u⟩, ⟨8, 16, keyMap u 4⟩,
         ⟨24, 16, keyMap u 5⟩, ⟨40, 16, keyMap u 6⟩] [] u))) ∧
    (passes specDeviceKeyGet q s.hub = true → (vaultKey u 0x13 0).present = true →
      exec (.deviceKeyGet q) s = .next (s.to (okNow specDeviceKeyGet q [bytesFld 0 (hashBytes (Config.sha256 (devicePoint u)))]
        (if 64 ≤ q.room then devicePoint u else []) u)))

/-- LOG_READ (R472, R579), LOG_STATUS (R582), whose clear bit, from the active port, clears the engine's counters, DAILIES_GET (R583), TIME_GET
(R585), POWER_STATUS (R590), VERSION (R601), CALIB_STATUS (R611). -/
def Obligations.ReelAndStatusReads : Prop :=
  ∀ (q : Req) (s : State),
    let u := taken q s
    let p := q.payload
    (passes specLogRead q s.hub = true → 1 ≤ fld p 8 4 → fld p 8 4 ≤ 1048576 → 64 ≤ q.room →
      let l := u.nv.reel.recs.filter (fun r => decide (fld p 0 8 ≤ r.seq))
      let out := l.take (min (fld p 8 4) (q.room / 64))
      exec (.logRead q) s = .next (s.to (okDone specLogRead q
        [⟨8, 8, ((out.head?).map (·.seq)).getD 0⟩, ⟨16, 4, out.length⟩,
         ⟨20, 1, flags [decide (fld p 0 8 < oldestSeq u), decide (out.length < l.length)]⟩, ⟨24, 8, newestSeq u⟩, ⟨32, 8, cellVal u cellReelAck⟩]
        (out.flatMap recBytes) u))) ∧
    (passes specLogStatus q s.hub = true → (bit (fld p 0 1) 1 = true → fromActive q u = true) → (bit (fld p 0 1) 0 = true → 36 ≤ q.room) →
      let l := u.nv.reel
      exec (.logStatus q) s = .next (s.to (okNow specLogStatus q
        [⟨0, 1, fillLevel u⟩, ⟨4, 4, l.sizeMiB⟩, ⟨8, 4, reelFreeKiB u⟩, ⟨12, 4, l.dailiesOfs⟩, ⟨16, 8, oldestSeq u⟩, ⟨24, 8, newestSeq u⟩,
         ⟨32, 8, cellVal u cellReelAck⟩, ⟨40, 8, l.lastDailiesSeq⟩, ⟨48, 8, cellVal u cellSession⟩]
        (if bit (fld p 0 1) 0 then reelCounters u.eng.cnt else [])
        (if bit (fld p 0 1) 1 then { u with eng := { u.eng with cnt := {} } } else u)))) ∧
    (passes specDailiesGet q s.hub = true →
      exec (.dailiesGet q) s = .next (s.to (okNow specDailiesGet q
        [⟨0, 8, u.nv.reel.lastDailiesSeq⟩, ⟨8, 8, u.nv.reel.lastDailiesRtc.getD 0⟩, bytesFld 16 (hashBytes u.nv.reel.lastDailiesH)] [] u))) ∧
    (passes specTimeGet q s.hub = true →
      exec (.timeGet q) s = .next (s.to (okNow specTimeGet q
        [⟨0, 8, u.aon.rtc⟩, ⟨8, 8, u.ticks⟩, ⟨16, 8, u.tmu.time.toNat⟩,
         ⟨24, 1, b2n u.aon.rtcSet + 2 * clapCode u + 8 * b2n (decide (u.hubIndex = u.masterHub))⟩, ⟨28, 4, u.aon.outages⟩, ⟨32, 4, u.slot⟩] [] u))) ∧
    (passes specPowerStatus q s.hub = true →
      exec (.powerStatus q) s = .next (s.to (okNow specPowerStatus q (powerStatusResult u) [] u))) ∧
    (passes specVersion q s.hub = true →
      exec (.version q) s = .next (s.to (okNow specVersion q
        ([⟨12, 2, 0x9144⟩, ⟨14, 2, stepping⟩, ⟨16, 4, Config.romVersion.toNat⟩] ++ (if u.romRecovery then [] else versionImage u)) [] u))) ∧
    (passes specCalibStatus q s.hub = true →
      let c := u.boot.cal
      exec (.calibStatus q) s = .next (s.to (okNow specCalibStatus q
        [⟨0, 1, flags [u.boot.calValid, u.flash.exported, u.boot.calValid && c.entries.all (fun e => !entryPresent e.2 || entryFactory e.2)]⟩,
         ⟨4, 4, if u.boot.calValid then pageCrc c else 0⟩, ⟨8, 8, if u.boot.calValid then c.changeRtc else 0⟩,
         ⟨16, 16, flags ((List.range 128).map (fun b => (u.bay b).link.headChanged))⟩, ⟨32, 16, recalibrated u⟩] [] u)))

/-- Whatever its entry and whatever the state, a command that reads changes nothing but the host side: BAY_TAG READ, QUEUE_DUMP, CAPTURE_READ,
REGION_STATUS, COMPLIANCE_READ, CRED_QUERY, FLEET_QUERY, LOG_READ, DAILIES_GET, TIME_GET, POWER_STATUS, KEY_STATUS, DEVICE_KEY_GET, VERSION and
CALIB_STATUS; and BAY_STATUS, CRED_STATUS and LOG_STATUS whose clear bit is 0. -/
def Obligations.ReadingChangesNothing : Prop :=
  ∀ (q : Req) (s t : State) (i : Instr),
    i ∈ [Instr.bayTagRead q, .queueDump q, .captureRead q, .regionStatus q, .complianceRead q, .credQuery q, .fleetQuery q, .logRead q,
         .dailiesGet q, .timeGet q, .powerStatus q, .keyStatus q, .deviceKeyGet q, .version q, .calibStatus q] ∨
      (i = .bayStatus q ∧ bit (fld q.payload 2 1) 1 = false) ∨ (i = .credStatus q ∧ bit (fld q.payload 0 1) 0 = false) ∨
      (i = .logStatus q ∧ bit (fld q.payload 0 1) 1 = false) →
    exec i s = .next t → t.pending = s.pending ∧ HostSideOnly s.hub t.hub

/-- HOST_ROLE (R495) of a port whose link is up: CLAIM makes it active where no port is, or where the other active port's link is down or its
heartbeat has lapsed; HEARTBEAT of the active port starts its second anew; RELEASE of the active port leaves none active; and HEARTBEAT_LAPSE marks
the lapse once 1 s has passed without one. -/
def Obligations.HostRoles : Prop :=
  ∀ (p : Port) (s : State),
    let h := s.hub
    ((h.port p).linkUp = true →
      (h.host.active = none → exec (.hostRoleClaim p 1) s = .next (s.to (setActive (some p) h))) ∧
      (h.host.active = some (Port.other p) → (h.port (Port.other p)).linkUp = false ∨ lapsed h = true →
        exec (.hostRoleClaim p 1) s = .next (s.to (setActive (some p) h))) ∧
      (h.host.active = some p → exec (.hostRoleHeartbeat p 2) s = .next (s.to { h with host := { h.host with heartbeat := h.now, hbLapsed := false } })) ∧
      (h.host.active = some p → exec (.hostRoleRelease p 4) s = .next (s.to (setActive none h)))) ∧
    (h.host.active ≠ none → h.passed h.host.heartbeat (sec 1) = true →
      exec .heartbeatLapse s = .next (s.to { h with host := { h.host with hbLapsed := true } }))

/-- Mailboxes and the notice ring of a port whose link is up (R502 to R507, R522, R523): a CMD_TAIL that hands entries over, and no more than 256;
an RSP_HEAD not beyond the tail, with the ring's vector where responses are left; RESET that stops and clears; ENABLE; NTC_HEAD likewise. -/
def Obligations.MailboxRegisters : Prop :=
  ∀ (p : Port) (u : Bool) (v : W32) (s : State),
    let h := s.hub
    let m := h.mailbox (mbxOf p u)
    let n := (h.port p).ntc
    (h.port p).linkUp = true →
    (subMod 512 (v.toNat % 512) m.cmdHead ≤ 256 → subMod 512 m.cmdTail m.cmdHead ≤ subMod 512 (v.toNat % 512) m.cmdHead →
      exec (.cmdTailDoorbell p u v) s = .next (s.to (h.setMailbox (mbxOf p u) (fun m => { m with cmdTail := v.toNat % 512 })))) ∧
    (subMod 512 (v.toNat % 512) m.rspHead ≤ subMod 512 m.rspTail m.rspHead →
      let w := h.setMailbox (mbxOf p u) (fun m => { m with rspHead := v.toNat % 512 })
      exec (.rspHeadWrite p u v) s = .next (s.to (if v.toNat % 512 = m.rspTail then w else sendVector p (if u then 1 else 0) w))) ∧
    (v.getLsbD 1 = true → v.getLsbD 0 = false →
      exec (.mailboxReset p u v) s = .next (s.to (h.setMailbox (mbxOf p u) (fun m => { cmdBase := m.cmdBase, rspBase := m.rspBase })))) ∧
    (v.getLsbD 1 = false → v.getLsbD 0 = true →
      exec (.mailboxEnable p u v) s =
        .next (s.to (h.setMailbox (mbxOf p u) (fun m => { m with enable := true, seqNext := if m.enable then m.seqNext else none })))) ∧
    (subMod 8192 (v.toNat % 8192) n.head ≤ ntcHeld n →
      let w := h.setPort p (fun x => { x with ntc := { x.ntc with head := v.toNat % 8192 } })
      exec (.ntcHeadWrite p v) s = .next (s.to (if v.toNat % 8192 = n.tail then w else sendVector p 2 w))) ∧
    (v.getLsbD 1 = true → v.getLsbD 0 = false →
      exec (.noticeRingReset p v) s = .next (s.to (h.setPort p (fun x => { x with ntc := { x.ntc with enable := false, head := 0, tail := 0 } })))) ∧
    (v.getLsbD 1 = false →
      exec (.noticeRingEnable p v) s = .next (s.to (h.setPort p (fun x => { x with ntc := { x.ntc with enable := v.getLsbD 0 } }))))

/-- Other registers of the window, from a port whose link is up: HOST_VOTE keeps the nine votes of its port (R677); TAMPER_CFG in FACTORY and
COMMISSIONING and ALARM_CTRL, from the active port (R695 to R697); CLK_MEAS_SEL starts a measurement, whose value is there after 1 ms (R666); a
32-bit write to CLK_EVENT clears the flags written 1 (R655, R497), and a write of fewer than 4 bytes sets PARTIAL_WRITE alone (R497). A port's link
(R494): PCIE_PORT_RESET disables its mailboxes and notice ring and clears their pointers; PCIE_LINK_UP out of reset and out of S3. RNG_OUT (R731)
gives the next word of the port's buffer, and 0 while the RNG is unavailable. -/
def Obligations.WindowAndLinkRegisters : Prop :=
  (∀ (p : Port) (v : W32) (s : State),
     let h := s.hub
     ((h.port p).linkUp = true →
       (exec (.hostVoteWrite p v) s = .next (s.to (match p with
         | .a => { h with pwr := { h.pwr with voteA := v.toNat % 512 } }
         | .b => { h with pwr := { h.pwr with voteB := v.toNat % 512 } }))) ∧
       (h.host.active = some p → h.lc = factory ∨ h.lc = commissioning →
         let en := bits v.toNat 11 8
         let lv := bits v.toNat 7 4
         let fresh := (en &&& (15 ^^^ h.aon.tamperEn)) ||| (en &&& (lv ^^^ h.aon.tamperLevel))
         exec (.tamperCfgWrite p v) s = .next (s.to { h with aon :=
           { h.aon with tamperEn := en, tamperLevel := lv, tamperAct := h.aon.tamperAct &&& en &&& (15 ^^^ fresh) } })) ∧
       (h.host.active = some p →
         exec (.alarmWrite p 0x30180 v) s = .next (s.to { h with aon :=
           { h.aon with alarmFired := w1c h.aon.alarmFired (v.toNat / 16) 3, alarmWakeOut := bits v.toNat 3 2, alarmEn := bits v.toNat 1 0
                        alarmDue := h.aon.alarmDue &&& bits v.toNat 1 0 } })) ∧
       (exec (.clkMeasSelWrite p v) s = .next (s.to { h with clk :=
           { h.clk with measSel := v.toNat % 16, measValid := false, measSince := some h.now
                        measCoast := (if v.toNat % 16 = 3 then h.clk.tpll.coast else h.clk.cpll.coast) } })) ∧
       (exec (.registerWrite p 0x30004 4 v) s = .next (s.to { h with clk := { h.clk with event := w1c h.clk.event v.toNat 0x1FFF } })) ∧
       (∀ off n, n < 4 → exec (.registerWrite p off n v) s = .next (s.to (raiseCause p 1 (h.setPort p (fun x => { x with partialWrite := true })))))) ∧
     (∀ t, clkRuns h = true → h.clk.measSince = some t → h.passed t (ms 1) = true →
       let f := freeVal 29 h
       exec .clkMeasDone s = .next (s.to (setClk (fun c => { c with measSince := none, measValid := true, measValue := f.1, measUnitHz := c.measSel == 6 || c.measSel == 7 }) f.2)))) ∧
  (∀ (p : Port) (s : State),
     let h := s.hub
     (∀ down, exec (.pciePortReset p down) s = .next (s.to (h.setPort p (fun x =>
         { x with normal := { cmdBase := x.normal.cmdBase, rspBase := x.normal.rspBase }, urgent := { cmdBase := x.urgent.cmdBase, rspBase := x.urgent.rspBase }
                  ntc := { x.ntc with enable := false, head := 0, tail := 0 }, linkUp := if down then false else x.linkUp })))) ∧
     (h.boot.phase ≠ .held → h.pwr.chip = .s0 →
       exec (.pcieLinkUp p) s = .next (s.to (h.setPort p (fun x => { x with linkUp := true })))) ∧
     ((h.port p).linkUp = true →
       (exec (.rngOutRead p) s = .next (s.to (({ h with rng := (h.rng.outWord p).2 } : Hub).emit (.read ((h.rng.outWord p).1.getD 0).toNat)))) ∧
       (h.rng.available = false → (h.rng.outWord p).1 = none)))

/-- The SMBus port out of reset and out of S3 (R526 to R528, R688): a Block Write of 6 to 32 bytes is held while none runs and none waits to be
read; the response, the status byte and the alert address are read; the hub's address wakes it from S3. -/
def Obligations.SmbusPort : Prop :=
  ∀ (s : State),
    let h := s.hub
    let used := fun (x : Hub) => x.setSmb (fun m => { m with lastUse := x.now })
    (smbServed h = true →
      (∀ l, h.host.smb.busy = false → h.host.smb.rspReady = false → 6 ≤ l.length → l.length ≤ 32 →
        exec (.smbCommandWrite l) s = .next (s.to ((used h).setSmb (fun m => { m with busy := true, held := some (smbReq l) })))) ∧
      (h.host.smb.rspReady = true →
        exec .smbResponseRead s = .next (s.to (((used h).emit (.readBytes h.host.smb.rsp)).setSmb (fun m => { m with rspReady := false, rsp := [] })))) ∧
      (exec .smbStatusRead s =
        .next (s.to ((h.emit (.read (smbStatus h))).setSmb (fun m => { m with alertLow := false, lastUse := h.now })))) ∧
      (h.host.smb.alertLow = true → exec .smbAlertResponse s =
        .next (s.to ((h.emit (.read (2 * (0x58 + h.boot.smbStrap)))).setSmb (fun m => { m with alertLow := false, lastUse := h.now }))))) ∧
    (h.pwr.chip ≠ .s0 →
      exec (.smbAddressMatchWake (0x58 + h.boot.smbStrap)) s =
        .next (s.to { h with pwr := { h.pwr with wakeSrc := h.pwr.wakeSrc ||| 1, wakeDuring := true, smbStretch := true } }))

/-- Writes to a timer from the active port (R498, R701, R703, R704, R711, R712): TMU_CTRL keeps its writable bits, and clears the prescaler where
RUN goes to 1 or PRESCALE changes; TMU_CNT loads the count and clears the prescaler, with no flag; TMU_CMP loads the compare value; TMU_LINK keeps
its 8 bits and closes a toggled gate. From the other port WRITE_REFUSED is set and no timer changes. -/
def Obligations.TimerWrites : Prop :=
  ∀ (p : Port) (n : Nat) (v : W32) (s : State), n < 16 → (s.hub.port p).linkUp = true →
    let h := s.hub
    let put := fun (f : Timer → Timer) => s.to (timerCheck { h with tmu := { h.tmu with timers := modNth h.tmu.timers n f } })
    let t := h.tmu.timer n
    (h.host.active = some p →
      (let c := v &&& 0x0000FFDF
       let fresh : Timer := { t with ctrl := c }
       let restart := fresh.capPin != t.capPin || fresh.filter != t.filter || (fresh.capEn && !t.capEn)
       exec (.tmuCtrlWrite p n v) s =
         .next (put (fun _ => { t with ctrl := c, pre := if (fresh.run && !t.run) || fresh.prescale != t.prescale then 0 else t.pre
                                       level := if restart then bit h.tmu.tcap fresh.capPin else t.level }))) ∧
      exec (.tmuCntWrite p n v) s = .next (put (fun t => { t with cnt := v, pre := 0 })) ∧
      exec (.tmuCmpWrite p n v) s = .next (put (fun t => { t with cmp := v })) ∧
      exec (.tmuLinkWrite p n v) s = .next (put (fun t => { t with link := v &&& 0xFF, gateOpen := false }))) ∧
    (h.host.active ≠ some p → ∀ i ∈ [Instr.tmuCtrlWrite p n v, .tmuCntWrite p n v, .tmuCmpWrite p n v, .tmuLinkWrite p n v],
      exec i s = .next (s.to (raiseCause p 1 (h.setPort p (fun x => { x with writeRefused := true })))))

/-- The cycle of a compare match, an overflow, a capture or a link event (R703, R706 to R710, R712), out of reset and out of S4: one CBCLK cycle
passes; a match leaves the count at the compare value with CMP_F set, an overflow leaves it at 0 with OVF_F set, and a capture edge loads the count
that stood before the cycle and sets its flag. -/
def Obligations.TimerEvents : Prop :=
  ∀ (n : Nat) (s : State), n < 16 → s.hub.boot.phase ≠ .held → s.hub.aon.inS4 = false →
    let h := s.hub
    (nextEvent h n 0 = true →
      ∃ t, exec (.tmuCompareMatch n) s = .next t ∧ t.pending = s.pending ∧ t.hub = clockCycle none h ∧
        (t.hub.tmu.timer n).cnt = (t.hub.tmu.timer n).cmp ∧ bit (t.hub.tmu.timer n).flags 0 = true) ∧
    (nextEvent h n 1 = true →
      ∃ t, exec (.tmuOverflow n) s = .next t ∧ t.pending = s.pending ∧ t.hub = clockCycle none h ∧
        (t.hub.tmu.timer n).cnt = 0 ∧ bit (t.hub.tmu.timer n).flags 1 = true) ∧
    ((h.tmu.timer n).level = false → (h.tmu.timer n).capEn = true →
      ∃ t, exec (.tmuCaptureEdge n true) s = .next t ∧ t.pending = s.pending ∧ (t.hub.tmu.timer n).capRise = (h.tmu.timer n).cnt ∧
        (t.hub.tmu.timer n).level = true ∧ bit (t.hub.tmu.timer n).flags 2 = true) ∧
    (h.tmu.eventAt n = true → exec (.tmuLinkEvent n) s = .next (s.to (clockCycle none h)))

/-- R706: OVF_F is set in the cycle in which the count passes from 0xFFFF_FFFF to 0 by a tick or a CLOCK event, and only then: a RESET event and a
write set it in no cycle. With a compare value of 0 the overflow sets CMP_F too. -/
def Obligations.OverflowSetsItsFlag : Prop :=
  ∀ (u : Tmu) (n : Nat) (cap : Option Bool),
    let t := u.timer n
    let w := u.cycleAt n cap
    let reset := t.modeAt n = 1 ∧ u.eventAt n = true
    (bit w.flags 1 = true ↔ bit t.flags 1 = true ∨ (t.cnt = 0xFFFFFFFF ∧ w.cnt = 0 ∧ ¬ reset)) ∧
    (t.cnt = 0xFFFFFFFF → w.cnt = 0 → ¬ reset → t.cmp = 0 → bit w.flags 0 = true ∧ bit w.flags 1 = true) ∧
    (∀ v, n < u.timers.length → ((u.writeCnt n v).timer n).flags = t.flags ∧ ((u.writeCnt n v).timer n).cnt = v)

/-- R704: over any cycles of the timer unit, with any captures, in which a timer takes no RESET event, its compare flag, clear at the start, stands
after exactly k ticks and not before, k = (CMP - CNT) mod 2^32 with 0 counting as 2^32. `ticks j` counts the first `j` cycles in which the count
moved. -/
def Obligations.CompareFiresAfterExactlyKTicks : Prop :=
  ∀ (w : Nat → Tmu) (c : Nat → Option (Nat × Nat × Bool)) (ticks : Nat → Nat) (n : Nat), n < 16 →
    (∀ j, w (j + 1) = (w j).cycle (c j)) → (∀ j, ((w j).timer n).modeAt n = 1 → (w j).eventAt n = false) →
    bit ((w 0).timer n).flags 0 = false → ticks 0 = 0 →
    (∀ j, ticks (j + 1) = ticks j + if ((w (j + 1)).timer n).cnt = ((w j).timer n).cnt then 0 else 1) →
    let t := (w 0).timer n
    let k := if t.cmp = t.cnt then 2 ^ 32 else (t.cmp - t.cnt).toNat
    ∀ j, bit ((w j).timer n).flags 0 = decide (k ≤ ticks j)

/-- A timer on the whole hub: with nothing commanded, out of reset and of S4, a running timer in MODE OFF has its compare flag, clear at the start,
set after exactly k * 2^PRESCALE - pre cycles of CBCLK, where `pre` is where its prescaler stands. An idle step is one such cycle (the model's
choice, log entry 1). -/
def Obligations.TimerFiresWhileTheHubIdles : Prop :=
  ∀ (s : State) (n j : Nat), n < 16 → s.pending = [] → s.hub.boot.phase ≠ .held → s.hub.aon.inS4 = false →
    let t := s.hub.tmu.timer n
    t.run = true → t.modeAt n = 0 → t.pre < 2 ^ t.prescale → bit t.flags 0 = false →
    let k := if t.cmp = t.cnt then 2 ^ 32 else (t.cmp - t.cnt).toNat
    ∃ v, core.run j s = .next v ∧ bit (v.hub.tmu.timer n).flags 0 = decide (k * 2 ^ t.prescale ≤ j + t.pre)

/-- R509 (with R496, R504, R508 and R518): an entry that a mailbox of a port fetches for one of the host's command rows is completed with the first
status that applies, in this order: SEQ, FLAGS, OPCODE, mailbox and port, LENGTH, the target's range and presence; then (R514, R532) the data's
read, the life cycle, the quarantine and the bay's state. Nothing else of the hub changes but the mailbox. An entry that is for no row at all is
answered BAD_OPCODE by whichever row takes it. -/
def Obligations.EntriesCheckedInOrder : Prop :=
  ∀ (q : Req) (m : CalibRun) (i : Instr) (c : Spec) (s : State), (i, c) ∈ hostRows q m → fetches q s.hub = true → q.entryOk = true →
    q.mbx ≠ .smbus → (q.op = c.op ∧ c.mine q = true) ∨ q.op ∉ knownOpcodes →
    let u := consume q s.hub
    let fails := fun (e : Bool) (st : Status) (u : Hub) => exec i s = .next (s.to (answer c q e (.done st [] []) u))
    (seqOk q (s.hub.mailbox q.mbx) = false → fails true .badParam (mbxErr q.mbx (fun m => { m with seqErr := true }) u)) ∧
    (seqOk q (s.hub.mailbox q.mbx) = true →
      (flagsOk q = false → fails false .badParam u) ∧
      (flagsOk q = true →
        (q.op ∉ knownOpcodes ∨ u.romRecovery = true ∧ romServes q.op u = false → fails false .badOpcode u) ∧
        (q.op ∈ knownOpcodes → u.romRecovery = false ∨ romServes q.op u = true →
          (allowed c q u = false → fails false .notAuthorised u) ∧
          (allowed c q u = true →
            (lengthOk c q = false → fails false .badLength u) ∧
            (lengthOk c q = true →
              (∀ st, targetStatus (c.target q.payload) u = some st → fails false st u) ∧
              (targetStatus (c.target q.payload) u = none →
                (q.dataOk = false → fails false .badParam (mbxErr q.mbx (fun m => { m with dmaErr := true }) u)) ∧
                (q.dataOk = true → c.signed q u = false → ∀ st, commonStatus c q u = some st → fails false st u)))))))

/-- Training of a head port (R81, R113 to R117, R152): a signal, or 100 ms after a failed attempt, starts an attempt; codewords move the lock
machine, and lock in the ADAPT step sends DONE and goes on to EQUALISE; EQ_REQ and EQ_STATUS act in EQUALISE, on a cascade lane while it has lock;
an IDENT the hub can run is answered with LIMITS; LIMITS_ACK with the CRC sent is answered with GO; 16 echoes bring the port UP; the limit of a step
ends the attempt. R81, R113, R114, R122: codewords at a receiver. Four good codewords in a row lock a receiver, and eight uncorrectable ones among
the last 16 unlock it; each counts at a head port; lock in the ADAPT step sends DONE. At a cascade lane a lane that locks sends CHELLO. -/
def Obligations.TrainingAndCodewords : Prop :=
  (∀ (b : Nat) (m : BitVec 248) (s : State), b < 128 →
     let h := s.hub
     let l := (h.bay b).link
     (let u := setLink b (fun x => { x with signal := true, signalLost := none }) h
      l.state = .down → mayTrain u b = true → l.trainFails = 0 → exec (.signalDetected b) s = .next (s.to (startTraining b u))) ∧
     (l.state = .down → 0 < l.trainFails → l.signal = true → mayTrain h b = true → h.passed l.since (ms 100) = true →
       exec (.trainingRetry b) s = .next (s.to (startTraining b h))) ∧
     (l.state = .training →
       (l.step = .equalise →
         (pay m 247 240 = 0x10 → exec (.eqReq (.head b) m) s = .next (s.to (eqCheck b (sendEqStatus b
           (setLink b (fun x => { x with eq := x.eq.request (pay m 239 236) (pay m 235 232) (pay m 230 228) }) h))))) ∧
         (pay m 247 240 = 0x90 → exec (.eqStatus (.head b) m) s = .next (s.to (eqCheck b
           (setLink b (fun x => { x with eq := { x.eq with doneAcked := x.eq.doneAcked || (x.eq.doneSent && bit m.toNat 213) } }) h))))) ∧
       (l.step = .hello → pay m 247 240 = 0x81 → (identOf m).compatible = true →
         let u := setLink b (fun x => { x with ident := identOf m }) h
         duplicateSerial u b (identOf m).serial = false →
         exec (.ident b m) s = .next (s.to (sendTrain b 0x02 (limitsPayload (limits u))
           (setLink b (fun x => { x with limitsCrc := limitsCrc (limits u) }) (toStep b .limits u))))) ∧
       (l.step = .limits → pay m 247 240 = 0x82 → pay m 239 208 = l.limitsCrc →
         exec (.limitsAck b m) s = .next (s.to (sendTrain b 0x03 (atBit (wantedFmt h) 222)
           (toStep b .echoes (setSl b (fun x => { cnt := x.cnt, upFmt := wantedFmt h, fmtOld := wantedFmt h
                                                  timing := { markNum := x.timing.markNum } }) h))))) ∧
       (l.step = .echoes → 16 ≤ (h.bay b).sl.timing.accepted → (h.bay b).sl.rep.lock = true → (h.bay b).sl.timing.settled = true →
         linkDelay h b ≤ 31948 → exec (.trainingComplete b) s = .next (s.to (comeUp b h))) ∧
       (h.passed l.since l.step.limit = true → exec (.trainingTimeout b) s = .next (s.to (trainFailed b h))))) ∧
  (∀ (b lane : Nat) (c : CSide) (m : BitVec 248) (l : List Codeword) (s : State), b < 128 → lane < 2 →
     let h := s.hub
     let e := eqOf (h.side c) lane
     (∀ i ∈ [Instr.codewordLock (.head b) l, .codewordLockLost (.head b) l],
       exec i s = .next (s.to (headCodewords b (l.map cwJudge) (headBlocks b l h)))) ∧
     (∀ i ∈ [Instr.codewordLock (.casc c lane) l, .codewordLockLost (.casc c lane) l],
       exec i s = .next (s.to (cascCodewords c lane (l.map cwJudge) h))) ∧
     (sideUsed h c = true → (laneOf (h.side c) lane).locked = true →
       (pay m 247 240 = 0x10 →
         let w := e.request (pay m 239 236) (pay m 235 232) (pay m 230 228)
         exec (.eqReq (.casc c lane) m) s = .next (s.to (sendLane c lane blkTrain (atBit 0x90 240 + w.status) (modEq c lane (fun _ => w) h)))) ∧
       (pay m 247 240 = 0x90 → exec (.eqStatus (.casc c lane) m) s = .next (s.to (modEq c lane (fun _ => e.answered m) h)))) ∧
     (∀ (x : CwLock) (w : List Cw), x.locked = false → x.goodRun = 0 → w.length = 4 → Cw.bad ∉ w → (w.foldl CwLock.feed x).locked = true) ∧
     (∀ (x : CwLock) (w : List Cw), x.locked = true → w.length = 8 → (∀ y ∈ w, y = Cw.bad) → (w.foldl CwLock.feed x).locked = false))

/-- The loss of a link (R80, R96, R101, R113, R121): the limits that take a port to FAULT, each with its reason; the head's LINKDOWN is the loss of
the signal; a cue with no echo in time ends; 10 ms after the fault the port goes DOWN, but a port held for its head's identity only 10 ms after the
signal went. -/
def Obligations.LinkLimits : Prop :=
  ∀ (b : Nat) (s : State), b < 128 →
    let h := s.hub
    let l := (h.bay b).link
    (l.state = .up → h.passed l.lastGood (us 100) = true →
      exec (.upstreamSlateTimeout b) s = .next (s.to (toFault b (if l.cw.locked then .crcBurst else .lockLost) h))) ∧
    (∀ t, (h.bay b).sl.credits.emptySince = some t → isUp h b = true → h.passed t (ms 10) = true → (h.bay b).sl.outstanding ≠ [] →
      exec (.creditTimeout b) s = .next (s.to (toFault b .creditTimeout h))) ∧
    (∀ c d, (h.bay b).sl.outstanding = [c] → c.due = some d → d < h.ticks →
      exec (.cueEchoTimeout b) s = .next (s.to (cueEnded b c 8 0 (countPort b (fun k => { k with cueUnknown := satAdd k.cueUnknown 1 })
        (setSl b (fun x => { x with outstanding := x.outstanding.filter (· ≠ c) }) h))))) ∧
    (l.state = .drowse → h.passed l.lastGood (ms 3) = true ∨ l.cw.locked = false →
      exec (.drowseTimeout b) s = .next (s.to (toFault b .lockLost h))) ∧
    (∀ m, exec (.linkdown ⟨b, m⟩) s = .next (s.to (setLink b (fun x =>
      { x with signal := false, signalLost := some h.now, farReason := pay m 247 240, cw := { x.cw with locked := false } }) h))) ∧
    (l.state = .fault →
      (l.reason ≠ .incompatible → l.reason ≠ .duplicate → h.passed l.since (ms 10) = true →
        exec (.faultRecoveryTimeout b) s = .next (s.to (takeDown b .none_ h))) ∧
      (∀ t, l.reason = .incompatible ∨ l.reason = .duplicate → l.signalLost = some t → h.passed t (ms 10) = true →
        exec (.faultRecoveryTimeout b) s = .next (s.to (takeDown b .none_ h))) ∧
      (l.reason = .incompatible ∨ l.reason = .duplicate → l.signalLost = none → exec (.faultRecoveryTimeout b) s = .next s))

/-- Slates, markers and DROWSE (R88, R89, R105, R113, R118, R119, R195 to R197, R203): a bad upstream slate is only counted and a good one is taken
in; a downstream slate and a marker slate launch; a port with nothing to do asks for DROWSE; the head's block enters it, and there gives a delay
measurement; a marker goes out in it; work wakes the head; a low HEAD_WAKE_N queries its region up to three times and is then masked until it is
high again. -/
def Obligations.SlatesAndDrowse : Prop :=
  ∀ (b r : Nat) (u : UpSlate) (d : BitVec 248) (a : Nat) (s : State), b < 128 → r < 8 →
    let h := s.hub
    let l := (h.bay b).link
    let v := slateBits u.blocks
    let hdr := v / 2 ^ (256 * u.blocks.length - 128)
    let styp := bits hdr 127 124
    let necho := bits v 735 732
    (slatesDown l = true →
      (crcHolds u = false →
        exec (.upstreamSlateReceived b u) s = .next (s.to (countPort b (fun c => { c with usCrc := satAdd c.usCrc 1 }) h))) ∧
      (crcHolds u = true → styp = (h.bay b).sl.upFmt + 1 → u.blocks.length = upBlocks styp → necho ≤ 10 →
        exec (.upstreamSlateReceived b u) s = .next (s.to (goodSlate b u hdr v necho h)))) ∧
    exec (.downstreamSlateLaunch b) s = .next (s.to (launchSlate b false h)) ∧
    exec (.markerLaunch b) s = .next (s.to (launchSlate b true h)) ∧
    (isUp h b = true → wantsDrowse h b = true → (h.bay b).sl.toSend = [] → (h.bay b).sl.outstanding = [] →
      exec (.drowseRequest b) s = .next (s.to (setSl b (fun l => { l with drowseReq := true }) h))) ∧
    (pay d 247 240 = 0x81 → bit d.toNat 175 = false →
      let seen := setSl b (fun x => { x with queryAt := none, rep := { x.rep with cap := pay d 191 176, touch := false } })
      (l.state = .up → (h.bay b).sl.drowseTold = true → exec (.drowseBlock b d a) s = .next (s.to (seen (enterDrowse b h)))) ∧
      (l.state = .drowse → pay d 207 192 = (h.bay b).sl.timing.markNum →
        exec (.drowseBlock b d a) s = .next (s.to (delayMeasured b (delayOf (h.bay b).sl.timing a (pay d 239 208))
          (seen (setLink b (fun x => { x with lastGood := h.now }) h)))))) ∧
    (l.state = .drowse →
      exec (.drowseMarkerSend b) s = .next (s.to (setSl b (fun x => { x with timing := { x.timing with
          markNum := h.ticks / 15974400 % 65536, markLaunch := h.ticks } })
        (sendBlockTo b blkDrowse (atBit 0x01 240 + atBit (h.ticks + linkDelay h b) 176 + atBit (h.ticks / 15974400 % 65536) 160) h))) ∧
      (wantsUp h b = true → l.wakeAt = none →
        exec (.wake b) s = .next (s.to (sendBlockTo b blkWake 0 (setLink b (fun l => { l with wakeAt := some h.now }) h))))) ∧
    ((h.region r).wakeMasked = false → h.pwr.chip = .s0 → (h.region r).st ≠ .off → (h.region r).power ≠ .s2 → (h.region r).wakeLow = false →
      exec (.headWakeLow r) s = .next (s.to (queryRegion r (h.setRegion r (fun x => { x with wakeLow := true, wakeQueries := 0 }))))) ∧
    ((h.region r).wakeLow = true → (h.region r).wakeMasked = false → 3 ≤ (h.region r).wakeQueries →
      h.passed (h.region r).wakeQueryAt (ms 1) = true →
      exec (.wakeLineMask r) s =
        .next (s.to (h.setRegion r (fun x => { x with wakeMasked := true, wakeSpurious := satAdd x.wakeSpurious 1 })))) ∧
    exec (.wakeLineUnmask r) s = .next (s.to (h.setRegion r (fun x => { x with wakeLow := false, wakeMasked := false, wakeQueries := 0 })))

/-- The call sheet of a slot (R38, R40, R45, R46, R48, R51 to R59, R71, R134, R135, R614, R616): the boundary carries what takes effect there; from
25 µs before it the next slot is planned once; a safety dispatch stops the emitter for 16 slates, or until one lets it go, and pre-empts what was
granted; a due calibration run is queued; a cell, an engine or a queue word fails. -/
def Obligations.CallSheetRuns : Prop :=
  ∀ (b r e c g : Nat) (bad : List Nat) (s : State), b < 128 → r < 8 →
    let h := s.hub
    (h.slotDone ≤ h.slot → h.fwReady = true →
      exec .slotBoundary s =
        .next (s.to (let u := stepClapper h
                     let n := u.slot
                     let v := geomAtSlot (reserveAtSlot (profileAtSlot (bulkAtSlot (serveDraws { u with slotDone := n + 1 }))))
                     forAllBays bayAtSlot (forRegions (itemsAtSlot n) (forRegions coexAtSlot v))))) ∧
    (sheetRuns h r = true → (h.region r).frozen ≤ h.slot + 1 → (h.slot + 1) * slotTicks ≤ h.ticks + ticksUs 25 →
      exec (.planFreeze r) s =
        .next (s.to ((planSlot r (h.slot + 1) (fallDue r (h.slot + 1) h)).setRegion r (fun x => { x with frozen := h.slot + 2 })))) ∧
    ((h.region (regionOf b)).st ≠ .off → h.bayPresent b = true →
      ∀ hold, exec (.safetyDispatch ⟨b, hold⟩) s =
        .next (s.to (let u := setSl b (fun l => { l with emitStop := true, emitLeft := 16, emitHold := hold }) h
                     ((u.bayItems b).filter (fun i => i.granted && i.needs != {})).foldl (fun u i => preempt (regionOf b) i.q u) u))) ∧
    (isUp h b = true → (h.bay b).radio.calDue = false → calNeeded h b = true → (h.region (regionOf b)).st = .active →
      (h.bay b).radio.copy = .standby →
      let w := enqueue false { q := 0, kind := .poll, cls := .housekeeping, bay := b, what := .calibrate, earliest := h.slot
                               latest := h.slot + 250, order := h.slot } h
      exec (.calibrationRun b) s =
        .next (s.to (if w.1.isSome then setRadio b (fun x => { x with calDue := true }) w.2 else countRefused b w.2))) ∧
    (e < 8 → h.regionPresent r = true →
      (c < 136 → c ∉ (nth {} (h.region r).engines e).retired →
        exec (.cellFailure r e c) s = .next (s.to (cellFails r e c h))) ∧
      (g < 16 → g ∉ (nth {} (h.region r).engines e).held → (nth {} (h.region r).engines e).out = false →
        exec (.groupSelfTest r e g bad) s =
          .next (s.to ((bad.filter (fun c => ((nth {} (h.region r).engines e).posOf c).map (· / 8) == some g)).foldl
            (fun s c => cellFails r e c s) h))) ∧
      ((nth {} (h.region r).engines e).out = false →
        exec (.engineLost r e) s =
          .next (s.to (let u := (holders h r e none).foldl (fun s i => invalidateItem i s) (modEngine r e (fun x => { x with out := true }) h)
                       regionNotice r (u.region r).st (u.region r).st .engineLost u)))) ∧
    ((h.region r).power ≠ .s2 → (h.region r).power ≠ .off →
      exec (.queueStoreEcc r true) s = .next (s.to (regionFault r .queueEcc h)) ∧
      exec (.queueStoreEcc r false) s = .next (s.to (h.setRegion r (fun x => { x with corrected := satAdd x.corrected 1 }))))

/-- Coexistence and a burst's launch (R145, R150, R153, R158 to R164): the request rises 20 µs before the item's air time; a grant sampled high lets
the item run and one sampled low defers it; while coexistence is disabled nothing is raised, sampled or deferred; the request falls with what it
covered; a staged burst within the limits launches, one that the limits forbid or that is not fully staged is refused. -/
def Obligations.AirAndGrants : Prop :=
  ∀ (b r q : Nat) (s : State), b < 128 → r < 8 →
    let h := s.hub
    let x := (h.region r).coex
    (∀ t, airOf h r q = some t → x.enabled = true →
      (q ∉ x.covered → t ≤ h.ticks + ticksUs 20 →
        exec (.coexReqRaise r q) s =
          .next (s.to (setCoex r (fun x => { x with covered := (h.region r).coex.covered ++ [q], req := true
                                                    pri := coexPri h r ((h.region r).coex.covered ++ [q]) }) h))) ∧
      (q ∈ x.covered → q ∉ x.clear → t ≤ h.ticks + grantLead h (airBay h r q) → q < queuesTotal →
        exec (.coexGrantSample r q true) s = .next (s.to (coexRuns r q (setCoex r (fun x => { x with gnt := true }) h))) ∧
        exec (.coexGrantSample r q false) s = .next (s.to (coexDefer r q (setCoex r (fun x => { x with gnt := false }) h))))) ∧
    (x.enabled = false → exec (.coexReqRaise r q) s = .next s ∧ ∀ g, exec (.coexGrantSample r q g) s = .next s) ∧
    ((∀ k ∈ x.covered, stillCovered h r k = false) → (∀ i ∈ h.items r, airOf h r i.q = none) → (∀ k, k < 16 → airOf h r (queuesTotal + k) = none) →
      exec (.coexReqFall r) s =
        .next (s.to (setCoex r (fun x => { x with covered := [], clear := [], req := false, pri := false }) h))) ∧
    (∀ u, (h.bay b).radio.staged = some u → u.first / slateTicks * slateTicks ≤ h.ticks + launchLead h b + slateTicks →
      mayAir h (regionOf b) u.q = true → (h.bay b).sl.emitStop = false →
      let out := setRadio b (fun y => { y with staged := none }) h
      (u.desc = true → u.stsChips ≤ u.stsReady → burstAllowed (limits h) (h.bay b).radio u = true →
        exec (.burstLaunchDeadline b) s = .next (s.to (launchBurst b u h))) ∧
      (u.desc = true → u.stsChips ≤ u.stsReady → burstAllowed (limits h) (h.bay b).radio u = false →
        exec (.burstLaunchDeadline b) s = .next (s.to (burstRefused b u .regLimit (regRefused b out)))) ∧
      (u.desc = false ∨ u.stsReady < u.stsChips → exec (.burstLaunchDeadline b) s =
        .next (s.to (burstRefused b u .txLate (countRadio b (fun c => { c with txUnstaged := satAdd c.txUnstaged 1 }) out)))))

/-- Sighting traffic (R68 to R70): a well-formed packet for this hub is taken in, one for another hub is sent on; a listen that is asked for is
received or declined, a sighting and a decline are noted, a cancel withdraws the listen. -/
def Obligations.SightingTraffic : Prop :=
  ∀ (m : SightMsg) (s : State), m.body.length = 32 → s.hub.fwReady = true →
    let h := s.hub
    let p := Packet.ofBytes m.body
    (p.dest ≠ h.hubIndex → ∀ i ∈ [Instr.listenRequest m, .sighting m, .decline m, .cancel m], ∀ pt ∈ [ptListen, ptSighting, ptDecline, ptCancel],
      p.ptype = pt → exec i s = .next (s.to (if i = (if pt = ptListen then Instr.listenRequest m else if pt = ptSighting then .sighting m
        else if pt = ptDecline then .decline m else .cancel m) then sendPacket p h else h))) ∧
    (p.dest = h.hubIndex →
      (p.ptype = ptListen → exec (.listenRequest m) s =
        .next (s.to (if usable p h then receiveListen p h else declineListen (listenOf p none) h))) ∧
      (p.ptype = ptSighting → exec (.sighting m) s = .next (s.to (if usable p h then receiveSighting p h else h))) ∧
      (p.ptype = ptDecline → exec (.decline m) s =
        .next (s.to (noteListener p.ownHandle p.sweep p.lisHub p.lisBay (fun l => if l.state = 0 then { l with state := 2 } else l) h))) ∧
      (p.ptype = ptCancel → exec (.cancel m) s = .next (s.to (cancelListen p.ownHub p.ownHandle p.lisBay h))))

/-- The exchange of a take (R253, R266, R267, R269, R280 to R288, R332): a RESPONSE that passes its checks is measured and FINAL is staged, one that
fails ends the take; a REPORT that opens gives the intervals, whose clock and sign are checked; the end of its window without one is NO_REPORT or
REPORT_BAD; the end of the collection window evaluates the take; a listen ends in a sighting or a decline. A listen that was granted ends at its
reception (R67, R269, R270): in a sighting where the head saw the POLL with its timing settled and its calibration allowed, in a decline otherwise.
-/
def Obligations.TakeAndListen : Prop :=
  (∀ (b : Nat) (t : Take) (d : Dialogue) (c : RespCir) (n : ReportMeas) (s : State), b < 128 →
     let h := s.hub
     (h.bay b).take = some t → (h.bay b).dlgV = some d →
     (c.badMode = true → exec (.response b c) s = .next (s.to (countModeErr b h))) ∧
     (n.badMode = true → exec (.report b n) s = .next (s.to (countModeErr b h))) ∧
     (c.badMode = false → t.stage = .polled → t.tPoll + replyTicks - ticksUs 1 ≤ h.ticks →
       let u := captureItem (regionOf b) t.q h
       let m := respSeen t.tPoll t.width (t.txAnt d.cfg) c
       (∀ o, respFails d.cfg.stsUnits m = some o → 
         let x := failMeas u b t m
         exec (.response b c) s = .next (s.to (failTake b o (takeStatus o .internal)
           (modTake b (fun t => { t with meas := x }) (countRange b (fun c => { c with fpSuspect := satAdd c.fpSuspect (b2n x.suspect) }) u))))) ∧
       (respFails d.cfg.stsUnits m = none →
         let x := respMeas u b t d m
         let v := modTake b (fun t => { t with stage := .responded, meas := x })
           (countRange b (fun c => { c with fpSuspect := satAdd c.fpSuspect (b2n x.suspect) }) u)
         exec (.response b c) s = .next (s.to (stage b (pollBurst v b .final (t.tPoll + roundTicks) t d) v).2))) ∧
     (t.stage = .finished →
       (((n.rmarker : Int) - (t.meas.tResp + (roundTicks : Int) * 256)).natAbs ≤ 256 * ticksUs 1 → n.badMode = false →
           ∃ w, exec (.report b n) s = .next w ∧ w.pending = s.pending ∧
             (readReport d b t n.cipher = none → w.hub = modTake b (fun t => { t with reportSeen := true }) h) ∧
             ∀ db rb, readReport d b t n.cipher = some (db, rb) →
               let i := intervals t d.cfg.uwbCh db rb
               w.hub = if i.clockOdd then failTake b .clockOdd .authFail h else if i.negative then failTake b .negRange .internal h
                       else completeTake b i h) ∧
       (t.tPoll + ticksUs 900 ≤ h.ticks → exec (.reportWindowClose b) s =
         .next (s.to (if t.reportSeen then failTake b .reportBad .authFail h else failTake b .noReport .wrongState h)))) ∧
     (t.ok = true → t.closed = false → t.closeSlot < h.slot → t.rapid = false →
       exec (.collectionWindowClose b) s = .next (s.to (evaluate b (modTake b (fun t => { t with closed := true }) h))))) ∧
  (∀ (r i : Nat) (it : Item) (l : ListenReq) (c : ListenCir) (s : State), r < 8 → s.hub.item r i = some it → listenFor s.hub it = some l →
     it.granted = true → it.start ≤ s.hub.slot → listenPoll it + ticksUs 260 ≤ s.hub.ticks →
     (c.badMode = true → exec (.listenReceptionEnd r i c) s = .next (s.to (sendStandby l.bay (declineListen l (countModeErr l.bay s.hub))))) ∧
     (c.badMode = false → ∃ w, exec (.listenReceptionEnd r i c) s = .next w ∧ w.pending = s.pending ∧
       let u := captureItem r i s.hub
       let m := listenSeen (listenPoll it) it.width c
       let saw := headToa l.cal (listenChannel u l.bay l.ownHub l.ownHandle) it.width m.ants
       (saw = none ∨ c.lost = true ∨ (u.bay l.bay).sl.timing.settled = false ∨ calibrationOk u l.bay = false →
         w.hub = sendStandby l.bay (declineListen l u)) ∧
       ∀ toa, saw = some toa → c.lost = false → (u.bay l.bay).sl.timing.settled = true → calibrationOk u l.bay = true →
         w.hub = sendSighting l it m toa u))

/-- The rapid exchange and continuity (R258, R304 to R311): the exchange stages its first challenge where the limits and the period allow and all
challenges are staged; each round is judged, and a round that fails ends the exchange; a continuity take falls due on its grid. -/
def Obligations.RapidExchangeRuns : Prop :=
  ∀ (b : Nat) (t : Take) (x : Rapid) (d : Dialogue) (c : RoundCorr) (s : State), b < 128 →
    let h := s.hub
    (h.bay b).take = some t → (h.bay b).rapid = some x → (h.bay b).dlgV = some d → x.outcome = none →
    (∀ i w, x.ready = false → h.item (regionOf b) x.q = some i → i.granted = true →
      let ts := rapidTick t i.start
      let own := reservedEngine h (regionOf b)
      let v := modRapid b (fun x => { x with ready := true, tStart := ts, k := (i.start - rapidFirst t) / 10, engine := i.engine.getD 0
                                             reserved := own.isSome && decide (i.engine = own) }) h
      exec (.rapidStart b w) s = .next (s.to (
        if !rapidAllowed h b x.q ts d.rxPeriod then endRapid b .notRun .regLimit (regRefused b h)
        else if !(h.bay b).sl.timing.settled then rapidInvalid b h
        else if d.rxPeriod < roundPeriod h b then endRapid b .periodShort .wrongState h
        else if !w then rapidNext b t x.q .txLate h
        else (stage b (mkChallenge v b x.q 0 ts) v).2))) ∧
    (x.started = true →
      ∃ w, exec (.rapidRoundVerdict b c) s = .next w ∧ w.pending = s.pending ∧
        let m := roundSeen (zeroArrival t x d).toNat c
        let j := judgeRound h b x d m
        let u := roundHeard b m j.1 h
        let v := modRapid b (Rapid.passedAt (roundDistance u b t x d m.raw)) u
        (∀ o, j.2 = some o → w.hub = endRapid b o (rapidStatus o .internal) (modRapid b (fun y => { y with failRound := some y.round }) u)) ∧
        (j.2 = none → w.hub = if x.round + 1 = 32 then endRapid b .rapidOk .ok v
                              else if nextDeadline v b x d < v.ticks then invalidateRapid b v else sendChallenge b (x.round + 1) v)) ∧
    exec (.continuityTakeDue b) s = .next (s.to (continuityDue b h))

/-- The limits of a dialogue and of a bay's watch (R199, R201, R203, R209, R335, R336, R337, R340, R346): 10 s LOST ends a free dialogue or trips
its session; 10 s CONTESTED in a session is LOST; ENGAGE_LIMIT ends a dialogue without a session; a BLINK engages the bay that hears it; WATCH falls
back to IDLE or DARK; the loss of the external field resets the tag. R340, R341: a BLINK heard at no bay changes nothing; one of 13 bytes and kind 1
whose token is engaged nowhere engages the bay that hears it earliest, hearings within 1 µs counting; a token engaged elsewhere is evidence at every
other bay that hears it; a token in back-off is only counted. -/
def Obligations.WatchLimitsAndBlinks : Prop :=
  (∀ (b : Nat) (k : TokenClass) (s : State), b < 128 →
     let h := s.hub
     (∀ d, (h.bay b).dlg k = some d →
       (d.verdict = .lost → h.passed d.since (sec 10) = true →
         exec (.lostTimeout b k) s =
           .next (s.to (if inSession (h.bay b) d then trigger b cTokenLost h else endDialogue b k .dialogueEnd h))) ∧
       (k = .v → d.verdict = .contested → h.passed d.since (sec 10) = true → inSession (h.bay b) d = true →
         exec (.contestedTimeout b k) s = .next (s.to (moveVerdict b k .lost .competitor 0 {} h))) ∧
       (∀ t, d.limitFrom = some t → h.passed t (sec d.bcfg.engageLimit) = true → inSession (h.bay b) d = false →
         exec (.engageLimitExpiry b k) s = .next (s.to (endDialogue b k .dialogueEnd h)))) ∧
     (watchIdle h b = true → effectivePolicy (h.bay b) = .capacitive → h.passed (h.bay b).poll.holdFrom (sec (h.bay b).poll.cfg.watchHold) = true →
       exec (.watchHoldExpiry b) s = .next (s.to (leaveWatch b .idle h))) ∧
     (watchIdle h b = true → effectivePolicy (h.bay b) = .continuous → 0 < (h.bay b).poll.cfg.darkWeeks →
       (h.bay b).poll.darkFrom + ((h.bay b).poll.cfg.darkWeeks * 604800 : Nat) ≤ (h.aon.rtc : Int) →
       exec (.darkEntry b) s = .next (s.to (countPoll b (fun c => { c with darkEntry := satAdd c.darkEntry 1 }) (leaveWatch b .dark h)))) ∧
     (∀ t, (h.bay b).hf.belowSince = some t → (h.bay b).hf.extField = true → h.passed t (us 100) = true →
       exec (.externalFieldLost b) s =
         .next (s.to (setHf b (fun x => { tagReset x with extField := false, belowSince := none, halted := false, uid := none
                                                          ownEnd := if x.owned then some (h.now + ms 5) else none }) h)))) ∧
  (∀ (m : BlinkMsg) (s : State), m.badMode = false → m.payload.length = 13 → byteAt m.payload 0 = 0x01 → s.hub.creds.loading = false →
     ∃ w, exec (.blink m) s = .next w ∧ w.pending = s.pending ∧
       let h := s.hub
       let tok := fld m.payload 1 8
       let caps : List Fld := [⟨32, 1, fld m.payload 9 1⟩]
       (blinkHeard m h = [] → w.hub = h) ∧
       ∀ p l, blinkHeard m h = p :: l →
         (∀ e, engagedAt h .v tok = some e →
           w.hub = (p :: l).foldl (fun s p => if p.1 = e then s else heardElsewhere p.1 .v 0 tok caps s) h) ∧
         (engagedAt h .v tok = none →
           let f := l.foldl earlier p
           (inBackoff h .v tok = true → w.hub = countBackoff f.1 h) ∧
           (inBackoff h .v tok = false →
             w.hub = engageAuth ((l.filter (fun q => decide ((q.2 - f.2).natAbs ≤ 256 * ticksUs 1))).foldl earlier f).1 .v 0 tok caps h)))

/-- Authentication replies (R253, R380, R391 to R395, R398 to R401): a reply inside its window is judged, one in a mode of R253 is counted, its
absence ends the pass; a fob frame whose CRC fails is counted, one heard clearly at one bay is judged there; a RETIRING slot's block commit is asked
for again after 100 ms. -/
def Obligations.AuthRepliesJudged : Prop :=
  ∀ (b : Nat) (k : TokenClass) (f : List Byte) (s : State), b < 128 →
    let h := s.hub
    (∀ bad, bad = false ∨ k ≠ .v →
      (awaits h b k .auth1 = true → exec (.auth2 b k ⟨f, bad⟩) s = .next (s.to (takeAuth2 b k f h))) ∧
      (awaits h b k .auth3 = true → exec (.authAck b k ⟨f, bad⟩) s = .next (s.to (takeAck b k f h)))) ∧
    (k = .v → exec (.auth2 b k ⟨f, true⟩) s = .next (s.to (countModeErr b h)) ∧ exec (.authAck b k ⟨f, true⟩) s = .next (s.to (countModeErr b h))) ∧
    (∀ d, (h.bay b).dlg k = some d → d.auth.window ≠ 0 →
      (k ≠ .c → d.auth.window ≤ h.ticks → exec (.authReplyWindowClose b k) s = .next (s.to (passUnanswered 3 b k h))) ∧
      (k = .c → (∀ t, (h.bay b).hf.txn = some t → t.kind = 2 ∧ (t.limit ≤ h.now ∨ t.deadline ≤ h.now ∧ 2 ≤ t.retries)) →
        exec (.authReplyWindowClose b k) s = .next (s.to (passUnanswered 3 b .c (endPassTxn b .cardTimeout h))))) ∧
    (∀ (n : Nat) p, n < 262144 → h.eng.retry.find? (fun p => p.1 == .credBlock (n / 32)) = some p → h.passed p.2 (ms 100) = true →
      h.eng.mainPresent = true →
      exec (.retiringCommitRetry n) s =
        .next (s.to (request p.1 (h.setEng (fun e => { e with retry := e.retry.filter (fun x => !(x.1 == .credBlock (n / 32))) }))))) ∧
    (∀ (g : FobHeard), g.frame.length = 16 → h.creds.loading = false →
      ∃ w, exec (.fobFrame g) s = .next w ∧ w.pending = s.pending ∧
        let tok := beNat (g.frame.take 4)
        (fobHeard g h = [] → w.hub = h) ∧
        (fobHeard g h ≠ [] → crc16 (g.frame.take 14) ≠ beNat (g.frame.drop 14) →
          w.hub = (fobHeard g h).foldl (fun s p => countAuth p.1 (fun c => { c with fobCrcErr := satAdd c.fobCrcErr 1 }) s) h) ∧
        (∀ e rssi, fobBay (fobHeard g h) = some (e, rssi) → fobHeard g h ≠ [] → crc16 (g.frame.take 14) = beNat (g.frame.drop 14) →
          engagedAt h .f tok = some e → inBackoff h .f tok = false → w.hub = judgeFob e ((uhfWindow h e).getD 0) g.frame rssi h))

/-- The tag without an APDU (R213 to R215, R222, R224, R226, R227, R234, R238, R239): the listening gap, REQA and WUPA, SELECT of its UID,
deselection, the end of ownership, the end of writes that waited 250 ms, and the waiting time of the reader's transaction. -/
def Obligations.TagField : Prop :=
  ∀ (b : Nat) (s : State), b < 128 →
    let h := s.hub
    let x := (h.bay b).hf
    ((h.bay b).st = .watch → (h.bay b).poll.cfg.hfMode = .continuousField → x.img.enable = true → x.gapTo = none → readerBusy h b = false →
      h.passed x.gapLast (ms 400) = true → isUp h b = true →
      exec (.tagListenGap b) s = .next (s.to (setRole b true (setHf b (fun x => { x with gapTo := some (h.now + ms 40), gapLast := h.now }) h)))) ∧
    (tagListens h b = true → x.active = false →
      exec (.tagReqa b true) s = .next (s.to (sendHf b [0x04, 0x00] h)) ∧
      (x.halted = false → exec (.tagReqa b false) s = .next (s.to (sendHf b [0x04, 0x00] h))) ∧
      (x.halted = true → exec (.tagReqa b false) s = .next s) ∧
      (∀ u, holdCoil b h = some u →
        exec (.tagAnticollisionSelect b (tagUid h b)) s =
          .next (s.to (setHf b (fun y => { tagReset y with active := true, halted := false, owned := true, ownEnd := none
                                                           cnt := { y.cnt with tagSelects := satAdd y.cnt.tagSelects 1 } })
            (sendHf b (withCrc false [0x20]) u))))) ∧
    (tagListens h b = true → x.active = true →
      exec (.tagDeselect b true) s = .next (s.to (endOwnership b (setHf b (fun x => { tagReset x with halted := true }) h))) ∧
      exec (.tagDeselect b false) s =
        .next (s.to (endOwnership b (setHf b (fun x => { tagReset x with halted := true }) (sendHf b (withCrc false sDeselect) h))))) ∧
    (∀ t, x.ownEnd = some t → x.owned = true → t ≤ h.now → exec (.tagOwnershipEnd b) s = .next (s.to (endOwnership b h))) ∧
    (∀ w, x.wire = [w] → h.passed w.received (ms 250) = true →
      exec (.tagWireWriteTimeout b) s =
        .next (s.to (let u := setHf b (fun x => { x with wire := x.wire.filter (fun w => !h.passed w.received (ms 250)) }) h
                     finish w.ref .busy (tagResult u b) [] (countWireBusy b u)))) ∧
    (∀ t, x.txn = some t → t.deadline ≤ h.now →
      (t.kind = 0 → t.step = .wupa → exec (.frameWaitingTimeExpiry b) s = .next (s.to (sendAct b .wupb wupb h))) ∧
      (t.kind = 0 → t.step = .wupb → x.card = none → exec (.frameWaitingTimeExpiry b) s = .next (s.to (endTxn b .noCard [] .wrongState h))) ∧
      (t.kind ≠ 0 → t.retries < 2 → h.now < t.limit → exec (.frameWaitingTimeExpiry b) s = .next (s.to (askAgain b h))) ∧
      (t.kind = 3 → 2 ≤ t.retries → exec (.frameWaitingTimeExpiry b) s =
        .next (s.to (if t.write then endTxn b .writeUnknown [] .internal h else endTxn b .cardTimeout [] .wrongState h))) ∧
      (t.kind = 2 → 2 ≤ t.retries → exec (.frameWaitingTimeExpiry b) s =
        .next (s.to (passUnanswered 3 b .c (countTxn b .cardTimeout (setHf b (fun x => { x with txn := none }) h))))))

/-- The tag's files and keys (R228 to R236, R239, R240): what the six instructions of R232 answer, SELECT by name, SELECT of a file, READ BINARY
(E105 in SECURED only), UPDATE BINARY (E105 in SECURED, committed before the answer), VERIFY (the attempt counted first), GET CHALLENGE and EXTERNAL
AUTHENTICATE; another CLA and another INS. A challenge is good for the very next APDU only; one that the random number unit cannot draw yet waits. -/
def Obligations.TagApdus : Prop :=
  ∀ (b : Nat) (p : List Byte) (s : State), b < 128 → (s.hub.bay b).hf.active = true → (s.hub.bay b).hf.blk.dep = true →
    tagListens s.hub b = true →
    let h := s.hub
    let a := wholeApdu h b p
    let u := setHf b (fun x => { x with challenge := none, blk := { x.blk with bn := 1 - x.blk.bn, got := [] } }) h
    let x := (u.bay b).hf
    (∀ i ∈ [Instr.tagSelectByName b p, .tagSelectByFile b p, .readBinary b p, .updateBinary b p, .verify b p, .getChallenge b p,
            .externalAuthenticate b p],
      (byteAt a 0 ≠ 0 → exec i s = .next (s.to (tagAnswers b 0x6E00 [] u))) ∧
      (byteAt a 0 = 0 → fld a 1 1 ∉ tagIns → exec i s = .next (s.to (tagAnswers b 0x6D00 [] u)))) ∧
    (byteAt a 0 = 0 →
      (fld a 1 1 = 0xA4 → fld a 2 1 = 4 → fld a 3 1 = 0 → apduData a = some ndefAid →
        exec (.tagSelectByName b p) s = .next (s.to (tagAnswers b 0x9000 [] (setHf b (fun x => { x with appSel := true, file := none }) u)))) ∧
      (∀ d f, fld a 1 1 = 0xA4 → fld a 2 1 = 0 → fld a 3 1 = 0x0C → apduData a = some d → tagFile d = some f → x.appSel = true →
        exec (.tagSelectByFile b p) s = .next (s.to (tagAnswers b 0x9000 [] (setHf b (fun x => { x with file := some f }) u)))) ∧
      (∀ f, x.file = some f → fld a 1 1 = 0xB0 → a.length = 5 →
        (f ≠ .e105 ∨ x.secured = true → 1 ≤ fld a 4 1 → fld a 4 1 ≤ 246 → p1p2 a + fld a 4 1 ≤ f.span.2 →
          exec (.readBinary b p) s = .next (s.to (tagAnswers b 0x9000 (x.img.bytes (f.span.1 + p1p2 a) (fld a 4 1)) u))) ∧
        (f = .e105 → x.secured = false → exec (.readBinary b p) s = .next (s.to (tagAnswers b 0x6982 [] u)))) ∧
      (∀ d, fld a 1 1 = 0xD6 → x.file = some .e105 → apduData a = some d → 1 ≤ d.length → d.length ≤ 246 → p1p2 a + d.length ≤ 384 →
        (x.secured = true → exec (.updateBinary b p) s =
          .next (s.to (let c := commitImage b 1 (x.img.write (0x200 + p1p2 a) d) u
                       tagAnswers b (if c.1 then 0x9000 else 0x6581) [] c.2))) ∧
        (x.secured = false → exec (.updateBinary b p) s = .next (s.to (tagAnswers b 0x6982 [] u)))) ∧
      (∀ d, fld a 1 1 = 0x20 → p1p2 a = 1 → x.img.pwSet = true → (tagPassword u b).present = true → tagFail u b < 8 + x.img.failBase →
        x.img.failBase ≤ tagFail u b → apduData a = some d → d.length = 4 →
        exec (.verify b p) s = .next (s.to (match cellAdvance (cellTagFail b) (tagFail u b + 1) u with
          | (.done _, v) => judgePassword b d v
          | (_, v) => tagAnswers b 0x6581 [] v))) ∧
      (fld a 1 1 = 0x84 → p1p2 a = 0 → a.length = 5 → fld a 4 1 = 16 →
        exec (.getChallenge b p) s = .next (s.to (match drawRandom 16 u with
          | none => tagDrawWaits b true u
          | some (rb, v) => giveChallenge b rb v))) ∧
      (∀ rb d, fld a 1 1 = 0x82 → p1p2 a = 1 → x.img.aesSet = true → (tagKey u b).present = true → apduData a = some d → d.length = 32 →
        (h.bay b).hf.challenge = some rb →
        let k := BitVec.ofNat 128 (tagKey u b).val
        exec (.externalAuthenticate b p) s = .next (s.to (
          if d.drop 16 = bytes16 (Config.aesCmac k (0x01 :: (toLe 16 rb ++ d.take 16 ++ tagUid u b ++ bayByte b)))
          then tagAnswers b 0x9000 (bytes16 (Config.aesCmac k (0x02 :: (d.take 16 ++ toLe 16 rb ++ tagUid u b ++ bayByte b))))
            (setHf b (fun x => { x with secured := true }) u)
          else tagAnswers b 0x6300 [] (countTag b (fun c => { c with tagAesFail := satAdd c.tagAesFail 1 }) u)))))

/-- The release boundary and its frames (R421, R423, R425, R426, R553): a boundary that is due is taken; a frame still not complete after 5 ms is
counted once; safety-cut frames that waited go out ahead; a cut complete on its bus drops its lines; HOLD_TIME past the hold makes the next boundary
send CUT. -/
def Obligations.ReleaseFrames : Prop :=
  ∀ (b : Nat) (s : State), b < 128 →
    let h := s.hub
    let r := regionOf b
    (boundaryDue h b = true → exec (.releaseBoundary b) s = .next (s.to (boundaryStep b h))) ∧
    (∀ t, (h.rel b).txSince = some t → h.passed t (ms 5) = true →
      ((h.rel b).txLate = false → exec (.releaseFrameLate b) s =
        .next (s.to (setRel b (fun r => { r with txLate := true, cnt := { r.cnt with txLate := satAdd r.cnt.txLate 1 } }) h))) ∧
      ((h.rel b).txLate = true → exec (.releaseFrameLate b) s = .next s)) ∧
    (busSends h r = true → (∃ c ∈ (h.region r).bus.cutFrames, c.1 = b) → exec (.safetyCutSend b) s = .next (s.to (busDrain r h))) ∧
    (b ∈ (h.region r).bus.cutsOpen → exec (.busFrameComplete b) s =
      .next (s.to (dropLines r (setBus r (fun u => { u with cutsOpen := u.cutsOpen.filter (· ≠ b) }) h)))) ∧
    (∀ x t, (h.bay b).sess = some x → x.phase = .holding → x.holdAt = some t → h.passed t (ms (100 * x.holdTime)) = true →
      exec (.holdTimeExpiry b) s = .next (s.to (setSess b (fun y => { y with cutDue := true }) h)))

/-- R409, R411, R432 to R442: frames a bus brings, each of its type and length for the bay its identifier names; any other frame is foreign. A
charging bay whose status or meter is silent trips; METER_B not seen within 10 ms of METER_A and a request unanswered within 200 ms fail. R428,
R655: bus-off that lasts longer than the shortest interval of a charging bay wraps every charging bay of the region, once; the controller's return
lets the frames that waited go out. -/
def Obligations.BusFramesAndBusOff : Prop :=
  (∀ (r ident b : Nat) (f : List Byte) (s : State), r < 8 → b < 128 →
     let h := s.hub
     (busHears h r = true →
       (ident / 16 = 0x30 → f.length = 32 → exec (.bpcStatus r ident f) s = .next (s.to (bpcStatus (16 * r + ident % 16) f h))) ∧
       (ident / 16 = 0x08 → f.length = 32 → exec (.bpcUrgent r ident f) s = .next (s.to (bpcStatus (16 * r + ident % 16) f h))) ∧
       (ident / 16 = 0x28 → f.length = 64 → exec (.meterA r ident f) s = .next (s.to (meterA (16 * r + ident % 16) f h))) ∧
       (ident / 16 = 0x29 → f.length = 48 → exec (.meterB r ident f) s = .next (s.to (meterB (16 * r + ident % 16) f h))) ∧
       (ident / 16 ∉ [0x08, 0x28, 0x29, 0x30] → exec (.foreignFrame r ident f) s = .next (s.to (foreign r h))) ∧
       ((h.region r).bus.busOff = none → exec (.busOff r) s =
         .next (s.to (setBus r (fun u => { u with busOff := some h.now, busOffTold := false, busOffCnt := satAdd u.busOffCnt 1 }) h)))) ∧
     (isCharging h b = true →
       (h.passed (h.rel b).lastStatus (sec 3) = true → exec (.bpcSilent b) s =
         .next (s.to (trigger b cBayFault (setRel b (fun r => { r with cnt := { r.cnt with silent := satAdd r.cnt.silent 1 } }) h)))) ∧
       (h.passed (h.rel b).lastMeter (sec 30) = true → exec (.meterTimeout b) s =
         .next (s.to (trigger b cBayFault (setRel b (fun r => { r with lastMeter := h.now
                                                                       cnt := { r.cnt with meterTimeout := satAdd r.cnt.meterTimeout 1 } }) h))))) ∧
     (∀ x t, (h.rel b).meterA = some (x, t) → h.passed t (ms 10) = true → exec (.meterBTimeout b) s =
       .next (s.to (meterBad b (setRel b (fun r => { r with meterA := none }) h)))) ∧
     (∀ q, (h.rel b).req = some q → q.deadline ≠ 0 → q.deadline ≤ h.now → exec (.meterReqTimeout b) s = .next (s.to (meterFailed b h)))) ∧
  (∀ (r : Nat) (s : State), r < 8 →
     let h := s.hub
     (∀ t i, (h.region r).bus.busOff = some t → shortestInterval h r = some i → (h.region r).bus.busOffTold = false → h.passed t (ms i + 1) = true →
       exec (.busOffPersist r) s = .next (s.to (((baysOf r).filter (isCharging h)).foldl (fun s b => trigger b cBusOff s)
         (setBus r (fun u => { u with busOffTold := true }) h)))) ∧
     (∀ t, (h.region r).bus.busOff = some t →
       let u := setBus r (fun u => { u with busOff := none, busOffTold := false }) h
       exec (.busOffRecovery r) s = .next (s.to (if busSends u r then busDrain r u else u))))

/-- The commit engine and main power (R64, R403, R418, R462, R465, R466, R470, R480 to R490): a burst takes the next request; a sample of VHOLD
enters the window of eight; the loss of main power and its return; the dailies instant asks for its records; a short journal is copied forward; an
erase completes; refused bursts are asked for again after 100 ms. -/
def Obligations.CommitEngine : Prop :=
  ∀ (b code : Nat) (s : State), b < 128 →
    let h := s.hub
    (h.fwReady = true →
      (∀ w l, h.pwr.chip ≠ .s3 → h.eng.mainLost = false → nvPick h h.eng.queue = some (w, l) →
        exec .commitBurst s = .next (s.to (stillStalled (serve w (h.setEng (fun e => { e with queue := l })))))) ∧
      (h.eng.mainLost = false → exec .mainLost s = .next (s.to (mainLost h)) ∧
        exec .mainLostClear s = .next (s.to (h.setEng (fun e => { e with mainPresent := true })))) ∧
      (h.eng.mainLost = true → exec .mainLostClear s = .next (s.to (mainClear h)) ∧ exec .mainLost s = .next s) ∧
      (h.eng.dailiesAt ≤ h.aon.rtc → exec .dailies s = .next (s.to (
        let u := request .detectTimes (request .dailies (h.setEng (fun e => { e with dailiesAt := nextDailies h.aon.rtc h.nv.reel.dailiesOfs })))
        askCopy (((u.creds.fobDirty.map (· / 32)).eraseDups).foldl (fun s k => request (.credBlock k) s) u)))) ∧
      (jErased h.nv.journal < 8 → (∀ p ∈ h.eng.retry, p.1 ≠ .journalCopy) → exec .journalCopyForward s = .next (s.to (askCopy h)))) ∧
    (h.boot.phase ≠ .held → h.pwr.chip ≠ .s3 →
      exec (.vholdSample code) s = .next (s.to (h.setEng (fun e => { e with codes := (code % 4096 :: e.codes).take 8 })))) ∧
    exec .sectorEraseComplete s = .next (s.to (if h.nv.reel.erasing = 0 then tagEraseDone h else eraseDone h)) ∧
    (∀ w t, h.eng.retry = [(w, t)] → h.passed t (ms 100) = true → h.eng.mainPresent = true →
      let u := h.setEng (fun e => { e with retry := [] })
      (w = .seal b → h.eng.mainLost = false → exec (.sealRetry b) s = .next (s.to (request w u))) ∧
      (w = .relRange b → exec (.relRangeRetry b) s = .next (s.to (request w u))) ∧
      (ofRecovery w = true → exec .recoveryBurstRetry s =
        .next (s.to (h.setEng (fun e => { e with queue := e.queue ++ [w], retry := [] })))))

/-- Region faults and live service (R606, R622, R627 to R629, R637 to R641): the watchdog; a restart by itself 10 ms after quarantine; the limit of
a proxied release; a drain is pre-empted after 50 ms, and ends when nothing runs; READY hands the bays back; a restart that takes three intervals
fails; a failed lane or memory halts the sequencer. -/
def Obligations.RegionLife : Prop :=
  ∀ (r : Nat) (s : State), r < 8 →
    let h := s.hub
    let x := h.region r
    (x.seqRuns = true → x.power = .s0 → exec (.regionWatchdogExpiry r) s = .next (s.to (regionFault r .watchdog h))) ∧
    (x.st = .quarantined → x.restart = none → x.reason.auto = true → x.restartLimit = false → h.passed x.enteredAt (ms 10) = true →
      exec (.autoRestart r) s = .next (s.to (startRestart r .autoRestart none (countRestart r
        (h.setRegion r (fun x => { x with autoTimes := h.aon.rtc :: recentRestarts h r })))))) ∧
    (x.st = .quarantined → x.quarMode = .proxy → x.proxyTold = false → h.passed x.proxyFrom (sec 10) = true →
      exec (.proxyLimit r) s = .next (s.to (regionNotice r .quarantined .quarantined .proxyLimit
        (((baysOf r).filter (fun b => (h.rel b).supervisor && isCharging h b)).foldl (fun s b => trigger b cRegionFault s)
          (h.setRegion r (fun x => { x with proxyTold := true })))))) ∧
    (∀ y, x.restart = some y →
      (y.phase = .draining →
        (h.passed y.since (ms 50) = true → exec (.drainTimeout r) s = .next (s.to (
          let u := drainQueued r h
          (u.items r).foldl (fun s i => match s.item r i.q with
            | some j => preemptItem j s
            | none => s) u))) ∧
        (let u := drainQueued r h
         (∃ i ∈ u.items r, i.granted = true) → exec (.drainComplete r) s = .next (s.to u)) ∧
        (let u := drainQueued r h
         (∀ i ∈ u.items r, i.granted = false) → exec (.drainComplete r) s = .next (s.to (regionStep r
          ((forBays r (fun b s => endFreeDialogues b .dialogueEnd s) u).setRegion r (fun x =>
            { x with restart := x.restart.map (fun y => { y with phase := .takeover }) })))))) ∧
      (y.phase = .restarting →
        (bit h.boot.regHeld r = false → exec (.sequencerReady r) s = .next (s.to (regionStep r (h.setRegion r (fun x =>
          { x with seqRuns := true, halted := !x.hashLane || x.aesLanes == 0, imageVersion := imageVersion (regImage h y.slot), imageSlot := y.slot
                   masked := abiMasked h y.slot, restart := x.restart.map (fun y => { y with phase := .handback }) }))))) ∧
        (h.passed y.since (ms (3 * intervalMax h r)) = true → exec (.restartLimitExpiry r) s =
          .next (s.to (if y.splice then spliceFails r .internal h else quarantine r .watchdog h))))) ∧
    exec (.cryptoLaneFailure r true) s = .next (s.to (haltSequencer r (h.setRegion r (fun x => { x with hashLane := false })))) ∧
    (let u := h.setRegion r (fun x => { x with aesLanes := x.aesLanes - 1 })
     exec (.cryptoLaneFailure r false) s = .next (s.to (if (u.region r).aesLanes = 0 then haltSequencer r u else u))) ∧
    exec (.sequencerMemoryError r) s = .next (s.to (haltSequencer r h))

/-- R362, R631, R632, R687, R691 to R697, R742, R828, R829: a chip fault of each cause, the supervisor's watchdog, a vault alarm, an enabled tamper
input in service and an alarm of the RTC; twelve temperatures are taken in, four hot samples in a row trip; WAKE_OUT ends; the store's errors. -/
def Obligations.ChipFaultsAndAlarms : Prop :=
  ∀ (c n : Nat) (t : List Int) (s : State),
    let h := s.hub
    (1 ≤ c → c ≤ 5 → exec (.chipFault c) s = .next (s.to (chipFault c h))) ∧
    (supRuns h = true → exec .supWatchdog s = .next (s.to (chipFault 1 h))) ∧
    exec .vaultAlarm s = .next (s.to (chipFault 3 h)) ∧
    (t.length = 12 → h.boot.phase ≠ .held → exec (.tempSensorSample t) s = .next (s.to (
      let u := sampleSensors t h
      if u.sens.hot.any (fun n => decide (4 ≤ n)) then chipFault 5 u else u))) ∧
    (n < 4 → bit h.aon.tamperEn n = true →
      let u := { h with aon := { h.aon with tamperAct := h.aon.tamperAct ||| 2 ^ n } }
      exec (.tamperActive n) s = .next (s.to (if h.aon.inS4 then backupEntry n (tamperLevelOf u n) u else chipFault 4 u))) ∧
    (n < 2 → bit h.aon.alarmDue n = true →
      let u := { h with aon := { h.aon with alarmDue := h.aon.alarmDue &&& (3 ^^^ 2 ^ n), alarmFired := h.aon.alarmFired ||| 2 ^ n } }
      (h.aon.inS4 = false → h.boot.phase ≠ .held → exec (.rtcAlarm n) s = .next (s.to (alarmInService n u))) ∧
      (h.aon.inS4 = false → h.boot.phase = .held → exec (.rtcAlarm n) s = .next (s.to u)) ∧
      (h.aon.inS4 = true → exec (.rtcAlarm n) s = .next (s.to (
        let v := backupEntry (8 + n) 0 u
        if bit v.aon.alarmWakeOut n then { v with aon := { v.aon with wakeOut := true, wakeOutAt := v.now } } else v)))) ∧
    (h.aon.wakeOut = true → h.aon.inS4 = false ∨ h.passed h.aon.wakeOutAt (sec 60) = true →
      exec .wakeOutEnd s = .next (s.to { h with aon := { h.aon with wakeOut := false } })) ∧
    (h.fwReady = true → h.pwr.chip = .s0 →
      (h.creds.loading = true → exec .credStoreLoaded s = .next (s.to (
        let f := storeCheck h
        let u := fobApplied (storeRead f.1.1 f.1.2 f.2)
        if u.eng.recovering then u else clearRetiring u))) ∧
      (n < 262144 → h.creds.loading = false →
        exec (.credStoreEcc n false) s = .next (s.to { h with creds := { h.creds with ecc := satAdd h.creds.ecc 1 } }) ∧
        exec (.credStoreEcc n true) s = .next (s.to (fobApplied ((blockSlots (n / 32)).foldl (fun s i => setCred i (fun c =>
          { credAtRest s i with inSession := c.inSession }) s) h)))))

/-- R10, R27, R746, R747, R815: POR_N resets everything but the fuses, the flash and non-volatile stores, the always-on domain and what time and
pins are; SYS_RST_N does so and keeps the kept registers, with its own cause; a rail below its threshold is a POR_N, which leaves at most the rest
of the reel page in progress torn; a rail above it is nothing. -/
def Obligations.ResetsKeep : Prop :=
  ∀ (rail : Rail) (mv torn : Nat) (s : State),
    let h := s.hub
    (∃ t, exec .porNAssert s = .next t ∧ t.pending = s.pending ∧ t.hub.fuse = h.fuse ∧ t.hub.flash = h.flash ∧ t.hub.aon = h.aon ∧
      t.hub.kept = {} ∧ t.hub.nv = { h.nv with reel := { h.nv.reel with erasing := 0 } } ∧ t.hub.boot.phase = .held ∧ t.hub.host = {} ∧
      t.hub.clap = 0 ∧ t.hub.casc = {} ∧ t.hub.bays = baysReset h.fuse.order) ∧
    (¬ (h.boot.phase = .held ∧ h.kept.cause = .por) →
      ∃ t, exec .sysRstNAssert s = .next t ∧ t.pending = s.pending ∧ t.hub.fuse = h.fuse ∧ t.hub.flash = h.flash ∧ t.hub.aon = h.aon ∧
        t.hub.kept = { h.kept with cause := .sys } ∧ t.hub.boot.phase = .held ∧ t.hub.host = {} ∧ t.hub.bays = baysReset h.fuse.order) ∧
    (mv < brownOutMv rail →
      let l := h.nv.reel
      let k := if h.fwReady then min torn (min (4 - l.nextSlot % 4) (l.erasedTo - l.nextSlot)) else 0
      exec (.brownOut rail mv torn) s = .next (s.to (powerOnReset (h.setReel (fun l => { l with tornSlots := max l.tornSlots k }))))) ∧
    (brownOutMv rail ≤ mv → exec (.brownOut rail mv torn) s = .next s)

/-- BOOT, TRIAL_CONFIRM and the JTAG instructions (R678, R750, R764, R765, R773, R810): a held hub that has main power is released and its ROM
starts, or, in BLANK with TEST_EN high, its scan mode; a trial is confirmed after 60 s; debug holds the supervisor or a region where the life cycle
allows it. -/
def Obligations.BootAndDebug : Prop :=
  ∀ (m : BootInput) (r : Nat) (s : State), r < 8 →
    let h := s.hub
    (h.boot.phase = .held → h.boot.scan = false → m.main = true ∨ bootWrites h = false → exec (.boot m) s = .next (s.to (romStarts m (released m h)))) ∧
    (h.boot.phase ≠ .held ∨ h.boot.scan = true → exec (.boot m) s = .next s) ∧
    (h.lc = blank → m.testEn = true → h.boot.phase = .held → h.boot.scan = false → m.main = true ∨ bootWrites h = false →
      ∃ t, exec (.boot m) s = .next t ∧ t.pending = s.pending ∧ t.hub.boot.scan = true ∧ t.hub.boot.phase = .held) ∧
    (∀ k u, h.fwReady = true → h.boot.trial = true → h.passed h.boot.readyAt (sec 60) = true →
      writeBoot (fun r => { r with trial := false }) h = (.done k, u) →
      exec .trialConfirm s = .next (s.to (setBoot (fun b => { b with trial := false, tries := 0 }) u))) ∧
    (debugAllowed h = true →
      exec (.jtagInstruction .holdSupervisor) s = .next (s.to (setBoot (fun b => { b with supHeld := some (b.supHeld.getD h.now) }) h)) ∧
      exec (.jtagInstruction .releaseSupervisor) s = .next (s.to (setBoot (fun b => { b with supHeld := none }) h)) ∧
      (h.regionPresent r = true →
        exec (.jtagInstruction (.holdRegion r)) s = .next (s.to (setBoot (fun b => { b with regHeld := b.regHeld ||| 2 ^ r }) h)) ∧
        exec (.jtagInstruction (.releaseRegion r)) s = .next (s.to (setBoot (fun b => { b with regHeld := b.regHeld &&& (255 ^^^ 2 ^ r) }) h)))) ∧
    (debugAllowed h = false → ∀ i ∈ [Jtag.holdSupervisor, .releaseSupervisor, .holdRegion r, .releaseRegion r],
      exec (.jtagInstruction i) s = .next s) ∧
    (∀ i ∈ [Jtag.bypass, .boundaryScan], exec (.jtagInstruction i) s = .next s)

/-- Clock sources, PLLs and multiplexers (R651 to R656, R660 to R663): a source's loss sets its flag and puts the PLLs it feeds into coast, or the
RTC on RC32K; its return; a phase error; a relock; a bay's boundary while the TPLL coasts; a multiplexer's handshake, forced switch and fallback. -/
def Obligations.ClocksFailAndReturn : Prop :=
  ∀ (x : Src) (p : Pll) (m : Mux) (b : Nat) (s : State), b < 128 → clkRuns s.hub = true →
    let h := s.hub
    ((h.source x).present = true →
      exec (.sourceLost x) s = .next (s.to (
        let u := clockEvent 0x07 (srcUnit x) 0 0 0 (flagClk (srcBit x) (setSource x (fun y => { y with present := false, lostAt := h.now }) h))
        if x = .xtal then muxRequest .rtc false u else allPlls.foldl (fun s p => coastIfFed x p s) u))) ∧
    ((h.source x).present = false →
      exec (.sourceReturned x) s = .next (s.to (
        let u := clockEvent 0x08 (srcUnit x) 0 0 ((h.now - (h.source x).lostAt) / ms 1) (setSource x (fun y => { y with present := true }) h)
        if x = .xtal then muxRequest .rtc true u else u))) ∧
    ((h.source (pllSource p)).present = true →
      ((h.pll p).lock = true → exec (.pllPhaseError p) s = .next (s.to (coastEntry p h))) ∧
      ((h.pll p).lock = false → exec (.coastExit p) s = .next (s.to (
        let u := lockEffect p (setPll p (fun x => { x with lock := true, coast := false }) h)
        startRegions (if (h.pll p).coast then clockEvent 0x02 (pllUnit p) 0 0 ((u.now - (h.pll p).since) / ms 1) u else u))))) ∧
    (coastBoundaryDue h b = true → exec (.tpllCoastBoundary b) s = .next (s.to (boundaryStep b h))) ∧
    (∀ t, muxTarget h m = some t →
      exec (.clockMuxSwitch m t) s = .next (s.to (muxDone m t h)) ∧
      exec (.clkswForced m) s = .next (s.to (clockEvent 0x03 (muxUnit m) 0 0 0 (muxDone m t (flagClk (muxBit m) h)))) ∧
      exec (.clkswFail m) s = .next (s.to (clockEvent 0x04 (muxUnit m) 0 0 0 (muxDone m false (flagClk 4 h)))))

/-- The cascade (R107, R108, R348, R350 to R358, R657): a CHELLO that fits on the active, locked lane of a side in use brings the side UP, one that
does not puts it in FAULT, and one that comes within 1 ms of the last is ignored; the retry after 10 ms; CMARK once per ms and its CECHO; the side's
delay; its loss; 3 ms without a CMARK; the lane switch. -/
def Obligations.CascadeSides : Prop :=
  ∀ (c : CSide) (lane a : Nat) (m : BitVec 248) (s : State),
    let h := s.hub
    let x := h.side c
    (sideUsed h c = true → lane = activeLane x → (laneOf x lane).locked = true → x.state ≠ .fault → h.fwReady = true → h.clk.serdes.coast = false →
      (x.helloAt = none →
        let u := modSide c (fun x => { x with helloAt := some h.now, geomVersion := pay m 215 184, geomTag := pay m 183 120 }) h
        exec (.chello c lane m) s = .next (s.to (
          if !chelloFits u c m then setSide c .fault 0 u else if x.state = .up then u else setSide c .up 0 (sendChello c u)))) ∧
      (∀ t, x.helloAt = some t → h.passed t (ms 1) = false → exec (.chello c lane m) s = .next s)) ∧
    (x.state = .fault → h.passed x.since (ms 10) = true → h.clk.serdes.coast = false →
      exec (.cascadeMismatchRetry c) s = .next (s.to (sendChello c (setSide c .down 0 h)))) ∧
    (x.state = .up →
      (towardMaster h c = false → h.hubIndex ≠ h.masterHub ∨ h.clk.tpll.coast = false → h.ticks / markTicks ≠ x.markLaunch / markTicks →
        exec (.cmarkSend c) s = .next (s.to (modSide c (fun x => { x with markNum := h.ticks / markTicks % 65536, markLaunch := h.ticks })
          (sendCasc c blkCmark (atBit h.hubIndex 240 + atBit (h.ticks + meanOf x.meas) 176 + atBit (h.ticks / markTicks % 65536) 160) h)))) ∧
      (towardMaster h c = true → h.clk.tpll.coast = false →
        exec (.cmark c m a) s = .next (s.to (followMark (pay m 239 176) a
          (sendCasc c blkCecho (atBit h.hubIndex 240 + atBit (h.ticks - a) 208 + atBit (pay m 175 160) 192) h)))) ∧
      (pay m 207 192 ≠ x.markNum → exec (.cecho c m a) s = .next s) ∧
      (∀ reason, reason ≠ 1 ∨ (x.lane0.locked = false ∧ x.lane1.locked = false) →
        exec (.cascadeSideDown c reason) s = .next (s.to (setSide c .down reason h)))) ∧
    (x.state = .up → pay m 207 192 = x.markNum →
      ∃ t, exec (.cecho c m a) s = .next t ∧ t.pending = s.pending ∧
        let d := openDiv ((a : Int) - x.markLaunch - pay m 239 208) 2
        let u := modSide c (fun x =>
          if !isOutlier d x.meas then { x with meas := (d.toNat :: x.meas).take 16, outliers := [] }
          else
            let o := (d.toNat :: x.outliers).take 4
            if o.length = 4 ∧ spread o ≤ 2 then { x with meas := o, outliers := [] } else { x with outliers := o }) h
        t.hub = if 31948 < meanOf (u.side c).meas then setSide c .fault 4 u else u) ∧
    (h.hubIndex ≠ h.masterHub → h.passed h.casc.lastMark (ms 3) = true → exec .cmarkTimeout s = .next (s.to (holdover h))) ∧
    exec (.cascadeLaneSwitch c) s = .next (s.to (modSide c (fun x => { x with standby := !x.lane0.locked && x.lane1.locked }) h))

/-- Power (R273, R648, R671 to R675, R679 to R690, R817): a level change takes its next step; a voltage within 10 mV settles; a failure puts it
back; a region enters S1 and S2 step by step while nothing votes and leaves them at a vote; the chip's S3 likewise, on a wake event; S4 is a reset
with the always-on domain on VBAT; a served wake source is cleared. -/
def Obligations.PowerStates : Prop :=
  ∀ (r mv n : Nat) (s : State), r < 8 →
    let h := s.hub
    let x := h.region r
    (∀ d, h.pwr.dvfs = some d →
      exec .dvfsStep s = .next (s.to (startRegions (dvfsStep d h))) ∧
      (d.step = .settle → mv ≤ h.pwr.setMv + 10 → h.pwr.setMv ≤ mv + 10 → exec (.voltageSettled mv) s =
        .next (s.to (if d.new < d.old then setDvfs (fun d => { d with step := .assist }) h else startRegions (levelDone d h)))) ∧
      (d.step = .settle ∨ d.step = .voltage → exec .dvfsFail s = .next (s.to (levelFailed h)))) ∧
    (gated h r = true →
      (regionVotes h r = 0 →
        (x.power = .s0 → x.powerStep = 0 → nth 0 h.pwr.floors r = 1 → exec (.s1Entry r) s = .next (s.to (stepTo r 1 h))) ∧
        (x.power = .s0 → x.powerStep = 1 → noneUp h r = true → exec (.s1Entry r) s = .next (s.to (regionPowerTo r .s1 h))) ∧
        (x.power ≠ .s2 →
          (x.powerStep = 0 → nth 0 h.pwr.floors r = 2 → exec (.s2Entry r) s = .next (s.to (stepTo r 2 h))) ∧
          (x.powerStep = 2 → noneUp h r = true → exec (.s2Entry r) s = .next (s.to (stepTo r 3 h))) ∧
          (x.powerStep = 3 → exec (.s2Entry r) s = .next (s.to (stepTo r 4 h))) ∧
          (x.powerStep = 4 → exec (.s2Entry r) s = .next (s.to (openSwitch r h))))) ∧
      (regionVotes h r ≠ 0 →
        (x.power = .s1 → x.powerStep = 0 → exec (.s1Exit r) s = .next (s.to (wakePorts r (regionPowerTo r .s0 h)))) ∧
        (x.powerStep = 1 → exec (.s1Exit r) s = .next (s.to (wakePorts r (stepTo r 0 h)))) ∧
        (3 ≤ x.powerStep ∨ (x.powerStep = 2 ∧ noneUp h r = true) → exec (.s2Abort r) s = .next (s.to (wakePorts r (countAbort (stepTo r 0 h))))) ∧
        (x.power = .s2 → (∀ k, k < r → (h.region k).power ≠ .s2 ∨ regionVotes h k = 0) → voltageRuns h = false →
          exec (.s2Exit r) s = .next (s.to (
            if x.lost then startRegions (h.setRegion r (fun x => { x with due := true }))
            else regionPowerTo r .s0 (setBus r (fun u => { u with stbyHigh := decide (x.st = .off) }) h)))))) ∧
    (h.pwr.chip = .s0 → h.fwReady = true →
      (chipVotes h = 0 → exec .s3Entry s = .next (s.to (s3Ports (setPwr (fun p => { p with chip := .entering 1, wakeDuring := false }) h)))) ∧
      (n < 16 → bit h.pwr.wakeSrc n = true → (n = 0 → h.passed h.host.smb.lastUse (ms 100) = true ∧ h.host.smb.busy = false) →
        (n = 1 → h.pwr.wakeSrc / 256 = 0) → (8 ≤ n → (h.region (n - 8)).wakeLow = false ∨ (h.region (n - 8)).wakeMasked = true) →
        exec (.wakeSourceServed n) s = .next (s.to (setPwr (fun p => { p with wakeSrc := w1c p.wakeSrc (2 ^ n) 0xFF0F }) h)))) ∧
    (∀ k, h.pwr.chip = .entering k →
      (h.pwr.wakeDuring = false → exec .s3Entry s = .next (s.to (
        if k = 1 then setChip (.entering 2) (s3Clocks h) else if k = 2 then setChip (.entering 3) h else setChip .s3 (s3Lose h)))) ∧
      (h.pwr.wakeDuring = true → exec .s3Abort s = .next (s.to (
        let u := countAbort (setPwr (fun p => { p with chip := .s0, wakeDuring := false, smbStretch := false }) h)
        if k = 1 then u else wakeClocks u)))) ∧
    (h.pwr.chip = .s3 → h.pwr.wakeDuring = true ∨ h.pwr.wakeSrc ≠ 0 → exec .s3Exit s = .next (s.to (
      let u := setPwr (fun p => { p with chip := .s0, wakeDuring := false, smbStretch := false, s3Resumed := true }) h
      let v := wakeClocks { u with creds := { u.creds with loading := true } }
      startRegions (forRegions (fun r s => if (s.region r).lost ∧ regionVotes s r ≠ 0 then s.setRegion r (fun x => { x with due := true }) else s)
        (powerNotice chipSrc 0x04 v.pwr.pl v.pwr.pl v.pwr.wakeSrc v))))) ∧
    (h.aon.inS4 = false → ∃ t, exec .s4Entry s = .next t ∧ t.pending = s.pending ∧ t.hub.aon.inS4 = true ∧
      t.hub.aon.outages = satAdd h.aon.outages 1 ∧ t.hub.boot.phase = .held ∧ t.hub.flash = h.flash)

/-- The random number generator (R720 to R735, R745): a source that has started is admitted, one that fails a test is set out and comes back after
10 s unless locked out; 1,024 raw bits enter the pool through the conditioner; a reseed that is due takes its blocks and serves what waited; the
nonce reserve is refilled. -/
def Obligations.RngRuns : Prop :=
  ∀ (n k : Nat) (raw : List Bool) (s : State),
    let h := s.hub
    let x := nth {} h.rng.srcs n
    (n < 4 →
      (x.started = false → exec (.rngStartupDone n) s =
        .next (s.to (h.setRng (fun g => g.setSrc n (fun x => { x with started := true, admitted := true }))))) ∧
      (x.started = true → x.admitted = false →
        exec (.rngSourceSetOut n k) s = .next (s.to (h.setRng (fun g => g.setSrc n (fun x => { x with okFrom := h.now })))) ∧
        (x.lockedOut = false → h.passed x.okFrom (sec 10) = true → exec (.rngSourceReturn n) s =
          .next (s.to (rngNotice 0x04 n 0 (h.setRng (fun g => g.setSrc n (fun x => { x with admitted := true }))))))) ∧
      (x.started = true → x.admitted = true →
        let c := satAddAt 0xFF x.setOut 1
        let u := rngNotice 0x03 n k (h.setRng (fun g =>
          { g.setSrc n (fun x => { x with admitted := false, setOut := c, lastTest := k, okFrom := h.now, lockedOut := decide (4 ≤ c) }) with
            pool := [], healthEv := true }))
        exec (.rngSourceSetOut n k) s = .next (s.to (if u.rng.healthy then u else rngDown u)))) ∧
    (raw.length = 1024 →
      let c := raw.foldl condClock h.rng.cond
      (h.rng.healthy = true → h.rng.pool.length < 4 →
        exec (.conditionedBlock raw) s = .next (s.to (h.setRng (fun g => { g with cond := c, pool := g.pool ++ [c] })))) ∧
      (h.rng.healthy = true → 4 ≤ h.rng.pool.length →
        exec (.conditionedBlock raw) s = .next (s.to (h.setRng (fun g => { g with cond := c, pool := g.pool.drop 1 ++ [c] })))) ∧
      (h.rng.healthy = false → exec (.conditionedBlock raw) s = .next (s.to (h.setRng (fun g => { g with cond := c }))))) ∧
    (h.rng.available = true → h.rng.reqLeft = 0 → 2 ≤ h.rng.pool.length → exec .drbgReseed s =
      .next (s.to (serveDraws (h.setRng Rng.reseed)))) ∧
    (h.rng.reserve.length ≤ 376 → exec .nonceReserveRefill s = .next (s.to (match h.rng.generate 64 with
      | none => h
      | some (l, g) => { h with rng := { g with reserve := g.reserve ++ nonces l } }))) ∧
    (∀ a b l, h.rng.drbg = none → h.rng.pool = a :: b :: l → h.rng.healthy = true → h.rng.rawActive = false → h.fwReady = true →
      h.rng.rawRef = none → exec .drbgInstantiate s =
        .next (s.to (rngNotice 0x02 0xFF 0 (h.setRng (fun g => { g with
          drbg := some (drbgUpdate (seed384 a b ^^^ personal h.tmu.time.toNat) (0, 0)), pool := l, reqLeft := 4096
          reseeds := satAdd g.reseeds 1, available := true })))))

/-- A step runs the command at the front of the queue on the state with the queue's rest, and nothing else. -/
def Obligations.StepRunsTheFrontCommand : Prop :=
  ∀ (c : Instr) (l : List Instr) (h : Hub), step { hub := h, pending := c :: l } = exec c { hub := h, pending := l }

/-- On an empty queue a step is one CBCLK cycle (the model's choice, log entry 1): time moves on, and in service (out of reset and of S4) the timer
unit counts its cycle. -/
def Obligations.IdleIsOneCycle : Prop :=
  ∀ (s : State), s.pending = [] →
    ∃ t, step s = .next t ∧ t.pending = [] ∧ s.hub.now < t.hub.now ∧ t.hub.flash = s.hub.flash ∧ t.hub.nv = s.hub.nv ∧ t.hub.fuse = s.hub.fuse ∧
      (s.hub.boot.phase ≠ .held → s.hub.aon.inS4 = false → t.hub.tmu.time = s.hub.tmu.time + 1)

/-- Every command whose operands name units that exist completes, in every state, and leaves the queue as it was: the hub has no exception and no
undefined command, and what is not due has no effect (the model's choice, log entry 3). A command whose operand names a unit that does not exist
stops with noSuchUnit (the model's choice, log entry 4). -/
def Obligations.CommandsCompleteOrNameNoUnit : Prop :=
  (∀ (c : Instr) (s : State), c.wf = true → ∃ t, exec c s = .next t ∧ t.pending = s.pending) ∧
  (∀ (c : Instr) (s : State), c.wf = false → exec c s = .fault .noSuchUnit)

/-- A queue of well-formed commands never stops the hub: each step answers a next state whose queue is well formed and one shorter. -/
def Obligations.StepKeepsTheQueueWellFormed : Prop :=
  ∀ (s : State), s.queueOk → (∃ t, step s = .next t) ∧ ∀ t, step s = .next t → t.queueOk ∧ t.pending = s.pending.drop 1

/-- A run of `k` steps over well-formed commands reaches its end, with `k` commands taken from the queue. -/
def Obligations.RunsOfWellFormedCommands : Prop :=
  ∀ (k : Nat) (s : State), s.queueOk → ∃ t, core.run k s = .next t ∧ t.queueOk ∧ t.pending = s.pending.drop k

/-- Sparse memory (flash pages, tag memory, credential slots, capture blocks): a write is read back, every other key reads as before, the canonical
form is kept, and two tables in it that read alike everywhere are equal. -/
def Obligations.TablesReadBackAndStayCanonical : Prop :=
  ∀ (d : Nat) (k v : Nat) (t : Tab Nat), t.wf d = true →
    (Tab.put d k v t).wf d = true ∧ Tab.get d (Tab.put d k v t) k = v ∧ (∀ j, j ≠ k → Tab.get d (Tab.put d k v t) j = Tab.get d t j) ∧
    ∀ (u : Tab Nat), u.wf d = true → (∀ j, Tab.get d u j = Tab.get d t j) → u = t

/-- Nothing waits after reset. Reset: what holds right after POR_N, where the spec gives it. The cores are held and no port is active; level 3 is in
force; no clock is locked and the clapper is free; the timers stand at 0 with compare values of 0xFFFF_FFFF; no random number is available;
mailboxes and notice rings are disabled; regions are OFF with coexistence disabled; bays are OFFLINE with their release CUT, preamble codes 9 to 12
and channel 9. -/
def Obligations.ResetValues : Prop :=
  (State.reset.queueOk ∧ State.reset.pending = []) ∧
  (let h := State.reset.hub
   State.reset.pending = [] ∧ h.boot.phase = .held ∧ h.host.active = none ∧ h.pwr.pl = 3 ∧ h.pwr.chip = .s0 ∧ h.clk.fpll.lock = false ∧
   h.clk.spll.lock = false ∧ h.clk.tpll.lock = false ∧ h.clk.cpll.lock = false ∧ h.casc.clap = .free ∧ h.tmu.time = 0 ∧
   (∀ n < 16, h.tmu.timer n = { cmp := 0xFFFFFFFF }) ∧ h.rng.available = false ∧
   (∀ p, (h.port p).linkUp = false ∧ (h.port p).normal = {} ∧ (h.port p).urgent = {} ∧ (h.port p).ntc = {} ∧ (h.port p).cause = 0) ∧
   h.regions.length = 8 ∧
   (∀ r < 8, (h.region r).st = .off ∧ (h.region r).coex = {} ∧ (h.region r).permit = false ∧ (h.region r).items = []) ∧ h.bays.length = 128 ∧
   ∀ b < 128, (h.bay b).st = .offline ∧ (h.bay b).rel.state = .cut ∧ (h.bay b).sess = none ∧ (h.bay b).range.uwbCh = 9 ∧
     (h.bay b).range.pcode = 9 + b % 4 ∧ (h.bay b).range.boundMm = 6000 ∧ (h.bay b).range.rapidMode = .ifCapable ∧
     (h.bay b).hf.img.data = [] ∧ (h.bay b).dlgV = none ∧ (h.bay b).dlgC = none ∧ (h.bay b).dlgF = none)
end

