-- ==== Sys2Proof/Laws/State.lean ====
section
/-! SUPPORT. What each update of the hub leaves, field by field, and what reading a bay, a region or a port after a change gives. -/

namespace Sys2Proof.Machine

/-! ### Hub.setBay -/

@[simp] theorem Hub.setBay_out (s : Hub) (b : Nat) (f : Bay → Bay) : (s.setBay b f).out = s.out := rfl
@[simp] theorem Hub.setBay_draws (s : Hub) (b : Nat) (f : Bay → Bay) : (s.setBay b f).draws = s.draws := rfl
@[simp] theorem Hub.setBay_now (s : Hub) (b : Nat) (f : Bay → Bay) : (s.setBay b f).now = s.now := rfl
@[simp] theorem Hub.setBay_clap (s : Hub) (b : Nat) (f : Bay → Bay) : (s.setBay b f).clap = s.clap := rfl
@[simp] theorem Hub.setBay_fuse (s : Hub) (b : Nat) (f : Bay → Bay) : (s.setBay b f).fuse = s.fuse := rfl
@[simp] theorem Hub.setBay_flash (s : Hub) (b : Nat) (f : Bay → Bay) : (s.setBay b f).flash = s.flash := rfl
@[simp] theorem Hub.setBay_nv (s : Hub) (b : Nat) (f : Bay → Bay) : (s.setBay b f).nv = s.nv := rfl
@[simp] theorem Hub.setBay_aon (s : Hub) (b : Nat) (f : Bay → Bay) : (s.setBay b f).aon = s.aon := rfl
@[simp] theorem Hub.setBay_kept (s : Hub) (b : Nat) (f : Bay → Bay) : (s.setBay b f).kept = s.kept := rfl
@[simp] theorem Hub.setBay_boot (s : Hub) (b : Nat) (f : Bay → Bay) : (s.setBay b f).boot = s.boot := rfl
@[simp] theorem Hub.setBay_sens (s : Hub) (b : Nat) (f : Bay → Bay) : (s.setBay b f).sens = s.sens := rfl
@[simp] theorem Hub.setBay_clk (s : Hub) (b : Nat) (f : Bay → Bay) : (s.setBay b f).clk = s.clk := rfl
@[simp] theorem Hub.setBay_pwr (s : Hub) (b : Nat) (f : Bay → Bay) : (s.setBay b f).pwr = s.pwr := rfl
@[simp] theorem Hub.setBay_tmu (s : Hub) (b : Nat) (f : Bay → Bay) : (s.setBay b f).tmu = s.tmu := rfl
@[simp] theorem Hub.setBay_rng (s : Hub) (b : Nat) (f : Bay → Bay) : (s.setBay b f).rng = s.rng := rfl
@[simp] theorem Hub.setBay_host (s : Hub) (b : Nat) (f : Bay → Bay) : (s.setBay b f).host = s.host := rfl
@[simp] theorem Hub.setBay_eng (s : Hub) (b : Nat) (f : Bay → Bay) : (s.setBay b f).eng = s.eng := rfl
@[simp] theorem Hub.setBay_creds (s : Hub) (b : Nat) (f : Bay → Bay) : (s.setBay b f).creds = s.creds := rfl
@[simp] theorem Hub.setBay_casc (s : Hub) (b : Nat) (f : Bay → Bay) : (s.setBay b f).casc = s.casc := rfl
@[simp] theorem Hub.setBay_geom (s : Hub) (b : Nat) (f : Bay → Bay) : (s.setBay b f).geom = s.geom := rfl
@[simp] theorem Hub.setBay_geomNext (s : Hub) (b : Nat) (f : Bay → Bay) : (s.setBay b f).geomNext = s.geomNext := rfl
@[simp] theorem Hub.setBay_reserve (s : Hub) (b : Nat) (f : Bay → Bay) : (s.setBay b f).reserve = s.reserve := rfl
@[simp] theorem Hub.setBay_reserveNext (s : Hub) (b : Nat) (f : Bay → Bay) : (s.setBay b f).reserveNext = s.reserveNext := rfl
@[simp] theorem Hub.setBay_splice (s : Hub) (b : Nat) (f : Bay → Bay) : (s.setBay b f).splice = s.splice := rfl
@[simp] theorem Hub.setBay_slotDone (s : Hub) (b : Nat) (f : Bay → Bay) : (s.setBay b f).slotDone = s.slotDone := rfl
@[simp] theorem Hub.setBay_regions (s : Hub) (b : Nat) (f : Bay → Bay) : (s.setBay b f).regions = s.regions := rfl
@[simp] theorem Hub.setBay_bays (s : Hub) (b : Nat) (f : Bay → Bay) : (s.setBay b f).bays = modNth s.bays b f := rfl

/-! ### Hub.setRegion -/

@[simp] theorem Hub.setRegion_out (s : Hub) (r : Nat) (f : Region → Region) : (s.setRegion r f).out = s.out := rfl
@[simp] theorem Hub.setRegion_draws (s : Hub) (r : Nat) (f : Region → Region) : (s.setRegion r f).draws = s.draws := rfl
@[simp] theorem Hub.setRegion_now (s : Hub) (r : Nat) (f : Region → Region) : (s.setRegion r f).now = s.now := rfl
@[simp] theorem Hub.setRegion_clap (s : Hub) (r : Nat) (f : Region → Region) : (s.setRegion r f).clap = s.clap := rfl
@[simp] theorem Hub.setRegion_fuse (s : Hub) (r : Nat) (f : Region → Region) : (s.setRegion r f).fuse = s.fuse := rfl
@[simp] theorem Hub.setRegion_flash (s : Hub) (r : Nat) (f : Region → Region) : (s.setRegion r f).flash = s.flash := rfl
@[simp] theorem Hub.setRegion_nv (s : Hub) (r : Nat) (f : Region → Region) : (s.setRegion r f).nv = s.nv := rfl
@[simp] theorem Hub.setRegion_aon (s : Hub) (r : Nat) (f : Region → Region) : (s.setRegion r f).aon = s.aon := rfl
@[simp] theorem Hub.setRegion_kept (s : Hub) (r : Nat) (f : Region → Region) : (s.setRegion r f).kept = s.kept := rfl
@[simp] theorem Hub.setRegion_boot (s : Hub) (r : Nat) (f : Region → Region) : (s.setRegion r f).boot = s.boot := rfl
@[simp] theorem Hub.setRegion_sens (s : Hub) (r : Nat) (f : Region → Region) : (s.setRegion r f).sens = s.sens := rfl
@[simp] theorem Hub.setRegion_clk (s : Hub) (r : Nat) (f : Region → Region) : (s.setRegion r f).clk = s.clk := rfl
@[simp] theorem Hub.setRegion_pwr (s : Hub) (r : Nat) (f : Region → Region) : (s.setRegion r f).pwr = s.pwr := rfl
@[simp] theorem Hub.setRegion_tmu (s : Hub) (r : Nat) (f : Region → Region) : (s.setRegion r f).tmu = s.tmu := rfl
@[simp] theorem Hub.setRegion_rng (s : Hub) (r : Nat) (f : Region → Region) : (s.setRegion r f).rng = s.rng := rfl
@[simp] theorem Hub.setRegion_host (s : Hub) (r : Nat) (f : Region → Region) : (s.setRegion r f).host = s.host := rfl
@[simp] theorem Hub.setRegion_eng (s : Hub) (r : Nat) (f : Region → Region) : (s.setRegion r f).eng = s.eng := rfl
@[simp] theorem Hub.setRegion_creds (s : Hub) (r : Nat) (f : Region → Region) : (s.setRegion r f).creds = s.creds := rfl
@[simp] theorem Hub.setRegion_casc (s : Hub) (r : Nat) (f : Region → Region) : (s.setRegion r f).casc = s.casc := rfl
@[simp] theorem Hub.setRegion_geom (s : Hub) (r : Nat) (f : Region → Region) : (s.setRegion r f).geom = s.geom := rfl
@[simp] theorem Hub.setRegion_geomNext (s : Hub) (r : Nat) (f : Region → Region) : (s.setRegion r f).geomNext = s.geomNext := rfl
@[simp] theorem Hub.setRegion_reserve (s : Hub) (r : Nat) (f : Region → Region) : (s.setRegion r f).reserve = s.reserve := rfl
@[simp] theorem Hub.setRegion_reserveNext (s : Hub) (r : Nat) (f : Region → Region) : (s.setRegion r f).reserveNext = s.reserveNext := rfl
@[simp] theorem Hub.setRegion_splice (s : Hub) (r : Nat) (f : Region → Region) : (s.setRegion r f).splice = s.splice := rfl
@[simp] theorem Hub.setRegion_slotDone (s : Hub) (r : Nat) (f : Region → Region) : (s.setRegion r f).slotDone = s.slotDone := rfl
@[simp] theorem Hub.setRegion_bays (s : Hub) (r : Nat) (f : Region → Region) : (s.setRegion r f).bays = s.bays := rfl
@[simp] theorem Hub.setRegion_regions (s : Hub) (r : Nat) (f : Region → Region) : (s.setRegion r f).regions = modNth s.regions r f := rfl

/-! ### Hub.program -/

@[simp] theorem Hub.program_out (s : Hub) (a : Nat) (l : List Byte) : (s.program a l).out = s.out ++ [.program a l] := rfl
@[simp] theorem Hub.program_draws (s : Hub) (a : Nat) (l : List Byte) : (s.program a l).draws = s.draws := rfl
@[simp] theorem Hub.program_now (s : Hub) (a : Nat) (l : List Byte) : (s.program a l).now = s.now := rfl
@[simp] theorem Hub.program_clap (s : Hub) (a : Nat) (l : List Byte) : (s.program a l).clap = s.clap := rfl
@[simp] theorem Hub.program_fuse (s : Hub) (a : Nat) (l : List Byte) : (s.program a l).fuse = s.fuse := rfl
@[simp] theorem Hub.program_flash (s : Hub) (a : Nat) (l : List Byte) : (s.program a l).flash = s.flash := rfl
@[simp] theorem Hub.program_nv (s : Hub) (a : Nat) (l : List Byte) : (s.program a l).nv = s.nv := rfl
@[simp] theorem Hub.program_aon (s : Hub) (a : Nat) (l : List Byte) : (s.program a l).aon = s.aon := rfl
@[simp] theorem Hub.program_kept (s : Hub) (a : Nat) (l : List Byte) : (s.program a l).kept = s.kept := rfl
@[simp] theorem Hub.program_boot (s : Hub) (a : Nat) (l : List Byte) : (s.program a l).boot = s.boot := rfl
@[simp] theorem Hub.program_sens (s : Hub) (a : Nat) (l : List Byte) : (s.program a l).sens = s.sens := rfl
@[simp] theorem Hub.program_clk (s : Hub) (a : Nat) (l : List Byte) : (s.program a l).clk = s.clk := rfl
@[simp] theorem Hub.program_pwr (s : Hub) (a : Nat) (l : List Byte) : (s.program a l).pwr = s.pwr := rfl
@[simp] theorem Hub.program_tmu (s : Hub) (a : Nat) (l : List Byte) : (s.program a l).tmu = s.tmu := rfl
@[simp] theorem Hub.program_rng (s : Hub) (a : Nat) (l : List Byte) : (s.program a l).rng = s.rng := rfl
@[simp] theorem Hub.program_host (s : Hub) (a : Nat) (l : List Byte) : (s.program a l).host = s.host := rfl
@[simp] theorem Hub.program_eng (s : Hub) (a : Nat) (l : List Byte) : (s.program a l).eng = s.eng := rfl
@[simp] theorem Hub.program_creds (s : Hub) (a : Nat) (l : List Byte) : (s.program a l).creds = s.creds := rfl
@[simp] theorem Hub.program_casc (s : Hub) (a : Nat) (l : List Byte) : (s.program a l).casc = s.casc := rfl
@[simp] theorem Hub.program_geom (s : Hub) (a : Nat) (l : List Byte) : (s.program a l).geom = s.geom := rfl
@[simp] theorem Hub.program_geomNext (s : Hub) (a : Nat) (l : List Byte) : (s.program a l).geomNext = s.geomNext := rfl
@[simp] theorem Hub.program_reserve (s : Hub) (a : Nat) (l : List Byte) : (s.program a l).reserve = s.reserve := rfl
@[simp] theorem Hub.program_reserveNext (s : Hub) (a : Nat) (l : List Byte) : (s.program a l).reserveNext = s.reserveNext := rfl
@[simp] theorem Hub.program_splice (s : Hub) (a : Nat) (l : List Byte) : (s.program a l).splice = s.splice := rfl
@[simp] theorem Hub.program_slotDone (s : Hub) (a : Nat) (l : List Byte) : (s.program a l).slotDone = s.slotDone := rfl
@[simp] theorem Hub.program_regions (s : Hub) (a : Nat) (l : List Byte) : (s.program a l).regions = s.regions := rfl
@[simp] theorem Hub.program_bays (s : Hub) (a : Nat) (l : List Byte) : (s.program a l).bays = s.bays := rfl

/-! ### Hub.emit -/

@[simp] theorem Hub.emit_draws (s : Hub) (o : Out) : (s.emit o).draws = s.draws := rfl
@[simp] theorem Hub.emit_now (s : Hub) (o : Out) : (s.emit o).now = s.now := rfl
@[simp] theorem Hub.emit_clap (s : Hub) (o : Out) : (s.emit o).clap = s.clap := rfl
@[simp] theorem Hub.emit_fuse (s : Hub) (o : Out) : (s.emit o).fuse = s.fuse := rfl
@[simp] theorem Hub.emit_flash (s : Hub) (o : Out) : (s.emit o).flash = s.flash := rfl
@[simp] theorem Hub.emit_nv (s : Hub) (o : Out) : (s.emit o).nv = s.nv := rfl
@[simp] theorem Hub.emit_aon (s : Hub) (o : Out) : (s.emit o).aon = s.aon := rfl
@[simp] theorem Hub.emit_kept (s : Hub) (o : Out) : (s.emit o).kept = s.kept := rfl
@[simp] theorem Hub.emit_boot (s : Hub) (o : Out) : (s.emit o).boot = s.boot := rfl
@[simp] theorem Hub.emit_sens (s : Hub) (o : Out) : (s.emit o).sens = s.sens := rfl
@[simp] theorem Hub.emit_clk (s : Hub) (o : Out) : (s.emit o).clk = s.clk := rfl
@[simp] theorem Hub.emit_pwr (s : Hub) (o : Out) : (s.emit o).pwr = s.pwr := rfl
@[simp] theorem Hub.emit_tmu (s : Hub) (o : Out) : (s.emit o).tmu = s.tmu := rfl
@[simp] theorem Hub.emit_rng (s : Hub) (o : Out) : (s.emit o).rng = s.rng := rfl
@[simp] theorem Hub.emit_host (s : Hub) (o : Out) : (s.emit o).host = s.host := rfl
@[simp] theorem Hub.emit_eng (s : Hub) (o : Out) : (s.emit o).eng = s.eng := rfl
@[simp] theorem Hub.emit_creds (s : Hub) (o : Out) : (s.emit o).creds = s.creds := rfl
@[simp] theorem Hub.emit_casc (s : Hub) (o : Out) : (s.emit o).casc = s.casc := rfl
@[simp] theorem Hub.emit_geom (s : Hub) (o : Out) : (s.emit o).geom = s.geom := rfl
@[simp] theorem Hub.emit_geomNext (s : Hub) (o : Out) : (s.emit o).geomNext = s.geomNext := rfl
@[simp] theorem Hub.emit_reserve (s : Hub) (o : Out) : (s.emit o).reserve = s.reserve := rfl
@[simp] theorem Hub.emit_reserveNext (s : Hub) (o : Out) : (s.emit o).reserveNext = s.reserveNext := rfl
@[simp] theorem Hub.emit_splice (s : Hub) (o : Out) : (s.emit o).splice = s.splice := rfl
@[simp] theorem Hub.emit_slotDone (s : Hub) (o : Out) : (s.emit o).slotDone = s.slotDone := rfl
@[simp] theorem Hub.emit_regions (s : Hub) (o : Out) : (s.emit o).regions = s.regions := rfl
@[simp] theorem Hub.emit_bays (s : Hub) (o : Out) : (s.emit o).bays = s.bays := rfl
@[simp] theorem Hub.emit_out (s : Hub) (o : Out) : (s.emit o).out = s.out ++ [o] := rfl

/-! ### freeVal -/

@[simp] theorem freeVal_out (s : Hub) (w : Nat) : ((freeVal w s).2).out = s.out := rfl
@[simp] theorem freeVal_now (s : Hub) (w : Nat) : ((freeVal w s).2).now = s.now := rfl
@[simp] theorem freeVal_clap (s : Hub) (w : Nat) : ((freeVal w s).2).clap = s.clap := rfl
@[simp] theorem freeVal_fuse (s : Hub) (w : Nat) : ((freeVal w s).2).fuse = s.fuse := rfl
@[simp] theorem freeVal_flash (s : Hub) (w : Nat) : ((freeVal w s).2).flash = s.flash := rfl
@[simp] theorem freeVal_nv (s : Hub) (w : Nat) : ((freeVal w s).2).nv = s.nv := rfl
@[simp] theorem freeVal_aon (s : Hub) (w : Nat) : ((freeVal w s).2).aon = s.aon := rfl
@[simp] theorem freeVal_kept (s : Hub) (w : Nat) : ((freeVal w s).2).kept = s.kept := rfl
@[simp] theorem freeVal_boot (s : Hub) (w : Nat) : ((freeVal w s).2).boot = s.boot := rfl
@[simp] theorem freeVal_sens (s : Hub) (w : Nat) : ((freeVal w s).2).sens = s.sens := rfl
@[simp] theorem freeVal_clk (s : Hub) (w : Nat) : ((freeVal w s).2).clk = s.clk := rfl
@[simp] theorem freeVal_pwr (s : Hub) (w : Nat) : ((freeVal w s).2).pwr = s.pwr := rfl
@[simp] theorem freeVal_tmu (s : Hub) (w : Nat) : ((freeVal w s).2).tmu = s.tmu := rfl
@[simp] theorem freeVal_rng (s : Hub) (w : Nat) : ((freeVal w s).2).rng = s.rng := rfl
@[simp] theorem freeVal_host (s : Hub) (w : Nat) : ((freeVal w s).2).host = s.host := rfl
@[simp] theorem freeVal_eng (s : Hub) (w : Nat) : ((freeVal w s).2).eng = s.eng := rfl
@[simp] theorem freeVal_creds (s : Hub) (w : Nat) : ((freeVal w s).2).creds = s.creds := rfl
@[simp] theorem freeVal_casc (s : Hub) (w : Nat) : ((freeVal w s).2).casc = s.casc := rfl
@[simp] theorem freeVal_geom (s : Hub) (w : Nat) : ((freeVal w s).2).geom = s.geom := rfl
@[simp] theorem freeVal_geomNext (s : Hub) (w : Nat) : ((freeVal w s).2).geomNext = s.geomNext := rfl
@[simp] theorem freeVal_reserve (s : Hub) (w : Nat) : ((freeVal w s).2).reserve = s.reserve := rfl
@[simp] theorem freeVal_reserveNext (s : Hub) (w : Nat) : ((freeVal w s).2).reserveNext = s.reserveNext := rfl
@[simp] theorem freeVal_splice (s : Hub) (w : Nat) : ((freeVal w s).2).splice = s.splice := rfl
@[simp] theorem freeVal_slotDone (s : Hub) (w : Nat) : ((freeVal w s).2).slotDone = s.slotDone := rfl
@[simp] theorem freeVal_regions (s : Hub) (w : Nat) : ((freeVal w s).2).regions = s.regions := rfl
@[simp] theorem freeVal_bays (s : Hub) (w : Nat) : ((freeVal w s).2).bays = s.bays := rfl
@[simp] theorem freeVal_draws (s : Hub) (w : Nat) : (freeVal w s).2.draws = s.draws + 1 := rfl

/-! ### Hub.setRng -/

@[simp] theorem Hub.setRng_out (s : Hub) (f : Rng → Rng) : (s.setRng f).out = s.out := rfl
@[simp] theorem Hub.setRng_draws (s : Hub) (f : Rng → Rng) : (s.setRng f).draws = s.draws := rfl
@[simp] theorem Hub.setRng_now (s : Hub) (f : Rng → Rng) : (s.setRng f).now = s.now := rfl
@[simp] theorem Hub.setRng_clap (s : Hub) (f : Rng → Rng) : (s.setRng f).clap = s.clap := rfl
@[simp] theorem Hub.setRng_fuse (s : Hub) (f : Rng → Rng) : (s.setRng f).fuse = s.fuse := rfl
@[simp] theorem Hub.setRng_flash (s : Hub) (f : Rng → Rng) : (s.setRng f).flash = s.flash := rfl
@[simp] theorem Hub.setRng_nv (s : Hub) (f : Rng → Rng) : (s.setRng f).nv = s.nv := rfl
@[simp] theorem Hub.setRng_aon (s : Hub) (f : Rng → Rng) : (s.setRng f).aon = s.aon := rfl
@[simp] theorem Hub.setRng_kept (s : Hub) (f : Rng → Rng) : (s.setRng f).kept = s.kept := rfl
@[simp] theorem Hub.setRng_boot (s : Hub) (f : Rng → Rng) : (s.setRng f).boot = s.boot := rfl
@[simp] theorem Hub.setRng_sens (s : Hub) (f : Rng → Rng) : (s.setRng f).sens = s.sens := rfl
@[simp] theorem Hub.setRng_clk (s : Hub) (f : Rng → Rng) : (s.setRng f).clk = s.clk := rfl
@[simp] theorem Hub.setRng_pwr (s : Hub) (f : Rng → Rng) : (s.setRng f).pwr = s.pwr := rfl
@[simp] theorem Hub.setRng_tmu (s : Hub) (f : Rng → Rng) : (s.setRng f).tmu = s.tmu := rfl
@[simp] theorem Hub.setRng_host (s : Hub) (f : Rng → Rng) : (s.setRng f).host = s.host := rfl
@[simp] theorem Hub.setRng_eng (s : Hub) (f : Rng → Rng) : (s.setRng f).eng = s.eng := rfl
@[simp] theorem Hub.setRng_creds (s : Hub) (f : Rng → Rng) : (s.setRng f).creds = s.creds := rfl
@[simp] theorem Hub.setRng_casc (s : Hub) (f : Rng → Rng) : (s.setRng f).casc = s.casc := rfl
@[simp] theorem Hub.setRng_geom (s : Hub) (f : Rng → Rng) : (s.setRng f).geom = s.geom := rfl
@[simp] theorem Hub.setRng_geomNext (s : Hub) (f : Rng → Rng) : (s.setRng f).geomNext = s.geomNext := rfl
@[simp] theorem Hub.setRng_reserve (s : Hub) (f : Rng → Rng) : (s.setRng f).reserve = s.reserve := rfl
@[simp] theorem Hub.setRng_reserveNext (s : Hub) (f : Rng → Rng) : (s.setRng f).reserveNext = s.reserveNext := rfl
@[simp] theorem Hub.setRng_splice (s : Hub) (f : Rng → Rng) : (s.setRng f).splice = s.splice := rfl
@[simp] theorem Hub.setRng_slotDone (s : Hub) (f : Rng → Rng) : (s.setRng f).slotDone = s.slotDone := rfl
@[simp] theorem Hub.setRng_regions (s : Hub) (f : Rng → Rng) : (s.setRng f).regions = s.regions := rfl
@[simp] theorem Hub.setRng_bays (s : Hub) (f : Rng → Rng) : (s.setRng f).bays = s.bays := rfl
@[simp] theorem Hub.setRng_rng (s : Hub) (f : Rng → Rng) : (s.setRng f).rng = f s.rng := rfl

/-! ### Hub.setEng -/

@[simp] theorem Hub.setEng_out (s : Hub) (f : Engine2 → Engine2) : (s.setEng f).out = s.out := rfl
@[simp] theorem Hub.setEng_draws (s : Hub) (f : Engine2 → Engine2) : (s.setEng f).draws = s.draws := rfl
@[simp] theorem Hub.setEng_now (s : Hub) (f : Engine2 → Engine2) : (s.setEng f).now = s.now := rfl
@[simp] theorem Hub.setEng_clap (s : Hub) (f : Engine2 → Engine2) : (s.setEng f).clap = s.clap := rfl
@[simp] theorem Hub.setEng_fuse (s : Hub) (f : Engine2 → Engine2) : (s.setEng f).fuse = s.fuse := rfl
@[simp] theorem Hub.setEng_flash (s : Hub) (f : Engine2 → Engine2) : (s.setEng f).flash = s.flash := rfl
@[simp] theorem Hub.setEng_nv (s : Hub) (f : Engine2 → Engine2) : (s.setEng f).nv = s.nv := rfl
@[simp] theorem Hub.setEng_aon (s : Hub) (f : Engine2 → Engine2) : (s.setEng f).aon = s.aon := rfl
@[simp] theorem Hub.setEng_kept (s : Hub) (f : Engine2 → Engine2) : (s.setEng f).kept = s.kept := rfl
@[simp] theorem Hub.setEng_boot (s : Hub) (f : Engine2 → Engine2) : (s.setEng f).boot = s.boot := rfl
@[simp] theorem Hub.setEng_sens (s : Hub) (f : Engine2 → Engine2) : (s.setEng f).sens = s.sens := rfl
@[simp] theorem Hub.setEng_clk (s : Hub) (f : Engine2 → Engine2) : (s.setEng f).clk = s.clk := rfl
@[simp] theorem Hub.setEng_pwr (s : Hub) (f : Engine2 → Engine2) : (s.setEng f).pwr = s.pwr := rfl
@[simp] theorem Hub.setEng_tmu (s : Hub) (f : Engine2 → Engine2) : (s.setEng f).tmu = s.tmu := rfl
@[simp] theorem Hub.setEng_rng (s : Hub) (f : Engine2 → Engine2) : (s.setEng f).rng = s.rng := rfl
@[simp] theorem Hub.setEng_host (s : Hub) (f : Engine2 → Engine2) : (s.setEng f).host = s.host := rfl
@[simp] theorem Hub.setEng_creds (s : Hub) (f : Engine2 → Engine2) : (s.setEng f).creds = s.creds := rfl
@[simp] theorem Hub.setEng_casc (s : Hub) (f : Engine2 → Engine2) : (s.setEng f).casc = s.casc := rfl
@[simp] theorem Hub.setEng_geom (s : Hub) (f : Engine2 → Engine2) : (s.setEng f).geom = s.geom := rfl
@[simp] theorem Hub.setEng_geomNext (s : Hub) (f : Engine2 → Engine2) : (s.setEng f).geomNext = s.geomNext := rfl
@[simp] theorem Hub.setEng_reserve (s : Hub) (f : Engine2 → Engine2) : (s.setEng f).reserve = s.reserve := rfl
@[simp] theorem Hub.setEng_reserveNext (s : Hub) (f : Engine2 → Engine2) : (s.setEng f).reserveNext = s.reserveNext := rfl
@[simp] theorem Hub.setEng_splice (s : Hub) (f : Engine2 → Engine2) : (s.setEng f).splice = s.splice := rfl
@[simp] theorem Hub.setEng_slotDone (s : Hub) (f : Engine2 → Engine2) : (s.setEng f).slotDone = s.slotDone := rfl
@[simp] theorem Hub.setEng_regions (s : Hub) (f : Engine2 → Engine2) : (s.setEng f).regions = s.regions := rfl
@[simp] theorem Hub.setEng_bays (s : Hub) (f : Engine2 → Engine2) : (s.setEng f).bays = s.bays := rfl
@[simp] theorem Hub.setEng_eng (s : Hub) (f : Engine2 → Engine2) : (s.setEng f).eng = f s.eng := rfl

/-! ### Hub.setNv -/

@[simp] theorem Hub.setNv_out (s : Hub) (f : Nv → Nv) : (s.setNv f).out = s.out := rfl
@[simp] theorem Hub.setNv_draws (s : Hub) (f : Nv → Nv) : (s.setNv f).draws = s.draws := rfl
@[simp] theorem Hub.setNv_now (s : Hub) (f : Nv → Nv) : (s.setNv f).now = s.now := rfl
@[simp] theorem Hub.setNv_clap (s : Hub) (f : Nv → Nv) : (s.setNv f).clap = s.clap := rfl
@[simp] theorem Hub.setNv_fuse (s : Hub) (f : Nv → Nv) : (s.setNv f).fuse = s.fuse := rfl
@[simp] theorem Hub.setNv_flash (s : Hub) (f : Nv → Nv) : (s.setNv f).flash = s.flash := rfl
@[simp] theorem Hub.setNv_aon (s : Hub) (f : Nv → Nv) : (s.setNv f).aon = s.aon := rfl
@[simp] theorem Hub.setNv_kept (s : Hub) (f : Nv → Nv) : (s.setNv f).kept = s.kept := rfl
@[simp] theorem Hub.setNv_boot (s : Hub) (f : Nv → Nv) : (s.setNv f).boot = s.boot := rfl
@[simp] theorem Hub.setNv_sens (s : Hub) (f : Nv → Nv) : (s.setNv f).sens = s.sens := rfl
@[simp] theorem Hub.setNv_clk (s : Hub) (f : Nv → Nv) : (s.setNv f).clk = s.clk := rfl
@[simp] theorem Hub.setNv_pwr (s : Hub) (f : Nv → Nv) : (s.setNv f).pwr = s.pwr := rfl
@[simp] theorem Hub.setNv_tmu (s : Hub) (f : Nv → Nv) : (s.setNv f).tmu = s.tmu := rfl
@[simp] theorem Hub.setNv_rng (s : Hub) (f : Nv → Nv) : (s.setNv f).rng = s.rng := rfl
@[simp] theorem Hub.setNv_host (s : Hub) (f : Nv → Nv) : (s.setNv f).host = s.host := rfl
@[simp] theorem Hub.setNv_eng (s : Hub) (f : Nv → Nv) : (s.setNv f).eng = s.eng := rfl
@[simp] theorem Hub.setNv_creds (s : Hub) (f : Nv → Nv) : (s.setNv f).creds = s.creds := rfl
@[simp] theorem Hub.setNv_casc (s : Hub) (f : Nv → Nv) : (s.setNv f).casc = s.casc := rfl
@[simp] theorem Hub.setNv_geom (s : Hub) (f : Nv → Nv) : (s.setNv f).geom = s.geom := rfl
@[simp] theorem Hub.setNv_geomNext (s : Hub) (f : Nv → Nv) : (s.setNv f).geomNext = s.geomNext := rfl
@[simp] theorem Hub.setNv_reserve (s : Hub) (f : Nv → Nv) : (s.setNv f).reserve = s.reserve := rfl
@[simp] theorem Hub.setNv_reserveNext (s : Hub) (f : Nv → Nv) : (s.setNv f).reserveNext = s.reserveNext := rfl
@[simp] theorem Hub.setNv_splice (s : Hub) (f : Nv → Nv) : (s.setNv f).splice = s.splice := rfl
@[simp] theorem Hub.setNv_slotDone (s : Hub) (f : Nv → Nv) : (s.setNv f).slotDone = s.slotDone := rfl
@[simp] theorem Hub.setNv_regions (s : Hub) (f : Nv → Nv) : (s.setNv f).regions = s.regions := rfl
@[simp] theorem Hub.setNv_bays (s : Hub) (f : Nv → Nv) : (s.setNv f).bays = s.bays := rfl
@[simp] theorem Hub.setNv_nv (s : Hub) (f : Nv → Nv) : (s.setNv f).nv = f s.nv := rfl

/-! ### setBoot -/

@[simp] theorem setBoot_out (s : Hub) (f : Boot → Boot) : (setBoot f s).out = s.out := rfl
@[simp] theorem setBoot_draws (s : Hub) (f : Boot → Boot) : (setBoot f s).draws = s.draws := rfl
@[simp] theorem setBoot_now (s : Hub) (f : Boot → Boot) : (setBoot f s).now = s.now := rfl
@[simp] theorem setBoot_clap (s : Hub) (f : Boot → Boot) : (setBoot f s).clap = s.clap := rfl
@[simp] theorem setBoot_fuse (s : Hub) (f : Boot → Boot) : (setBoot f s).fuse = s.fuse := rfl
@[simp] theorem setBoot_flash (s : Hub) (f : Boot → Boot) : (setBoot f s).flash = s.flash := rfl
@[simp] theorem setBoot_nv (s : Hub) (f : Boot → Boot) : (setBoot f s).nv = s.nv := rfl
@[simp] theorem setBoot_aon (s : Hub) (f : Boot → Boot) : (setBoot f s).aon = s.aon := rfl
@[simp] theorem setBoot_kept (s : Hub) (f : Boot → Boot) : (setBoot f s).kept = s.kept := rfl
@[simp] theorem setBoot_sens (s : Hub) (f : Boot → Boot) : (setBoot f s).sens = s.sens := rfl
@[simp] theorem setBoot_clk (s : Hub) (f : Boot → Boot) : (setBoot f s).clk = s.clk := rfl
@[simp] theorem setBoot_pwr (s : Hub) (f : Boot → Boot) : (setBoot f s).pwr = s.pwr := rfl
@[simp] theorem setBoot_tmu (s : Hub) (f : Boot → Boot) : (setBoot f s).tmu = s.tmu := rfl
@[simp] theorem setBoot_rng (s : Hub) (f : Boot → Boot) : (setBoot f s).rng = s.rng := rfl
@[simp] theorem setBoot_host (s : Hub) (f : Boot → Boot) : (setBoot f s).host = s.host := rfl
@[simp] theorem setBoot_eng (s : Hub) (f : Boot → Boot) : (setBoot f s).eng = s.eng := rfl
@[simp] theorem setBoot_creds (s : Hub) (f : Boot → Boot) : (setBoot f s).creds = s.creds := rfl
@[simp] theorem setBoot_casc (s : Hub) (f : Boot → Boot) : (setBoot f s).casc = s.casc := rfl
@[simp] theorem setBoot_geom (s : Hub) (f : Boot → Boot) : (setBoot f s).geom = s.geom := rfl
@[simp] theorem setBoot_geomNext (s : Hub) (f : Boot → Boot) : (setBoot f s).geomNext = s.geomNext := rfl
@[simp] theorem setBoot_reserve (s : Hub) (f : Boot → Boot) : (setBoot f s).reserve = s.reserve := rfl
@[simp] theorem setBoot_reserveNext (s : Hub) (f : Boot → Boot) : (setBoot f s).reserveNext = s.reserveNext := rfl
@[simp] theorem setBoot_splice (s : Hub) (f : Boot → Boot) : (setBoot f s).splice = s.splice := rfl
@[simp] theorem setBoot_slotDone (s : Hub) (f : Boot → Boot) : (setBoot f s).slotDone = s.slotDone := rfl
@[simp] theorem setBoot_regions (s : Hub) (f : Boot → Boot) : (setBoot f s).regions = s.regions := rfl
@[simp] theorem setBoot_bays (s : Hub) (f : Boot → Boot) : (setBoot f s).bays = s.bays := rfl
@[simp] theorem setBoot_boot (s : Hub) (f : Boot → Boot) : (setBoot f s).boot = f s.boot := rfl

/-! ### setClk -/

@[simp] theorem setClk_out (s : Hub) (f : Clk → Clk) : (setClk f s).out = s.out := rfl
@[simp] theorem setClk_draws (s : Hub) (f : Clk → Clk) : (setClk f s).draws = s.draws := rfl
@[simp] theorem setClk_now (s : Hub) (f : Clk → Clk) : (setClk f s).now = s.now := rfl
@[simp] theorem setClk_clap (s : Hub) (f : Clk → Clk) : (setClk f s).clap = s.clap := rfl
@[simp] theorem setClk_fuse (s : Hub) (f : Clk → Clk) : (setClk f s).fuse = s.fuse := rfl
@[simp] theorem setClk_flash (s : Hub) (f : Clk → Clk) : (setClk f s).flash = s.flash := rfl
@[simp] theorem setClk_nv (s : Hub) (f : Clk → Clk) : (setClk f s).nv = s.nv := rfl
@[simp] theorem setClk_aon (s : Hub) (f : Clk → Clk) : (setClk f s).aon = s.aon := rfl
@[simp] theorem setClk_kept (s : Hub) (f : Clk → Clk) : (setClk f s).kept = s.kept := rfl
@[simp] theorem setClk_boot (s : Hub) (f : Clk → Clk) : (setClk f s).boot = s.boot := rfl
@[simp] theorem setClk_sens (s : Hub) (f : Clk → Clk) : (setClk f s).sens = s.sens := rfl
@[simp] theorem setClk_pwr (s : Hub) (f : Clk → Clk) : (setClk f s).pwr = s.pwr := rfl
@[simp] theorem setClk_tmu (s : Hub) (f : Clk → Clk) : (setClk f s).tmu = s.tmu := rfl
@[simp] theorem setClk_rng (s : Hub) (f : Clk → Clk) : (setClk f s).rng = s.rng := rfl
@[simp] theorem setClk_host (s : Hub) (f : Clk → Clk) : (setClk f s).host = s.host := rfl
@[simp] theorem setClk_eng (s : Hub) (f : Clk → Clk) : (setClk f s).eng = s.eng := rfl
@[simp] theorem setClk_creds (s : Hub) (f : Clk → Clk) : (setClk f s).creds = s.creds := rfl
@[simp] theorem setClk_casc (s : Hub) (f : Clk → Clk) : (setClk f s).casc = s.casc := rfl
@[simp] theorem setClk_geom (s : Hub) (f : Clk → Clk) : (setClk f s).geom = s.geom := rfl
@[simp] theorem setClk_geomNext (s : Hub) (f : Clk → Clk) : (setClk f s).geomNext = s.geomNext := rfl
@[simp] theorem setClk_reserve (s : Hub) (f : Clk → Clk) : (setClk f s).reserve = s.reserve := rfl
@[simp] theorem setClk_reserveNext (s : Hub) (f : Clk → Clk) : (setClk f s).reserveNext = s.reserveNext := rfl
@[simp] theorem setClk_splice (s : Hub) (f : Clk → Clk) : (setClk f s).splice = s.splice := rfl
@[simp] theorem setClk_slotDone (s : Hub) (f : Clk → Clk) : (setClk f s).slotDone = s.slotDone := rfl
@[simp] theorem setClk_regions (s : Hub) (f : Clk → Clk) : (setClk f s).regions = s.regions := rfl
@[simp] theorem setClk_bays (s : Hub) (f : Clk → Clk) : (setClk f s).bays = s.bays := rfl
@[simp] theorem setClk_clk (s : Hub) (f : Clk → Clk) : (setClk f s).clk = f s.clk := rfl

/-! ### setPwr -/

@[simp] theorem setPwr_out (s : Hub) (f : Pwr → Pwr) : (setPwr f s).out = s.out := rfl
@[simp] theorem setPwr_draws (s : Hub) (f : Pwr → Pwr) : (setPwr f s).draws = s.draws := rfl
@[simp] theorem setPwr_now (s : Hub) (f : Pwr → Pwr) : (setPwr f s).now = s.now := rfl
@[simp] theorem setPwr_clap (s : Hub) (f : Pwr → Pwr) : (setPwr f s).clap = s.clap := rfl
@[simp] theorem setPwr_fuse (s : Hub) (f : Pwr → Pwr) : (setPwr f s).fuse = s.fuse := rfl
@[simp] theorem setPwr_flash (s : Hub) (f : Pwr → Pwr) : (setPwr f s).flash = s.flash := rfl
@[simp] theorem setPwr_nv (s : Hub) (f : Pwr → Pwr) : (setPwr f s).nv = s.nv := rfl
@[simp] theorem setPwr_aon (s : Hub) (f : Pwr → Pwr) : (setPwr f s).aon = s.aon := rfl
@[simp] theorem setPwr_kept (s : Hub) (f : Pwr → Pwr) : (setPwr f s).kept = s.kept := rfl
@[simp] theorem setPwr_boot (s : Hub) (f : Pwr → Pwr) : (setPwr f s).boot = s.boot := rfl
@[simp] theorem setPwr_sens (s : Hub) (f : Pwr → Pwr) : (setPwr f s).sens = s.sens := rfl
@[simp] theorem setPwr_clk (s : Hub) (f : Pwr → Pwr) : (setPwr f s).clk = s.clk := rfl
@[simp] theorem setPwr_tmu (s : Hub) (f : Pwr → Pwr) : (setPwr f s).tmu = s.tmu := rfl
@[simp] theorem setPwr_rng (s : Hub) (f : Pwr → Pwr) : (setPwr f s).rng = s.rng := rfl
@[simp] theorem setPwr_host (s : Hub) (f : Pwr → Pwr) : (setPwr f s).host = s.host := rfl
@[simp] theorem setPwr_eng (s : Hub) (f : Pwr → Pwr) : (setPwr f s).eng = s.eng := rfl
@[simp] theorem setPwr_creds (s : Hub) (f : Pwr → Pwr) : (setPwr f s).creds = s.creds := rfl
@[simp] theorem setPwr_casc (s : Hub) (f : Pwr → Pwr) : (setPwr f s).casc = s.casc := rfl
@[simp] theorem setPwr_geom (s : Hub) (f : Pwr → Pwr) : (setPwr f s).geom = s.geom := rfl
@[simp] theorem setPwr_geomNext (s : Hub) (f : Pwr → Pwr) : (setPwr f s).geomNext = s.geomNext := rfl
@[simp] theorem setPwr_reserve (s : Hub) (f : Pwr → Pwr) : (setPwr f s).reserve = s.reserve := rfl
@[simp] theorem setPwr_reserveNext (s : Hub) (f : Pwr → Pwr) : (setPwr f s).reserveNext = s.reserveNext := rfl
@[simp] theorem setPwr_splice (s : Hub) (f : Pwr → Pwr) : (setPwr f s).splice = s.splice := rfl
@[simp] theorem setPwr_slotDone (s : Hub) (f : Pwr → Pwr) : (setPwr f s).slotDone = s.slotDone := rfl
@[simp] theorem setPwr_regions (s : Hub) (f : Pwr → Pwr) : (setPwr f s).regions = s.regions := rfl
@[simp] theorem setPwr_bays (s : Hub) (f : Pwr → Pwr) : (setPwr f s).bays = s.bays := rfl
@[simp] theorem setPwr_pwr (s : Hub) (f : Pwr → Pwr) : (setPwr f s).pwr = f s.pwr := rfl

/-! ### setCreds -/

@[simp] theorem setCreds_out (s : Hub) (f : CredStore → CredStore) : (setCreds f s).out = s.out := rfl
@[simp] theorem setCreds_draws (s : Hub) (f : CredStore → CredStore) : (setCreds f s).draws = s.draws := rfl
@[simp] theorem setCreds_now (s : Hub) (f : CredStore → CredStore) : (setCreds f s).now = s.now := rfl
@[simp] theorem setCreds_clap (s : Hub) (f : CredStore → CredStore) : (setCreds f s).clap = s.clap := rfl
@[simp] theorem setCreds_fuse (s : Hub) (f : CredStore → CredStore) : (setCreds f s).fuse = s.fuse := rfl
@[simp] theorem setCreds_flash (s : Hub) (f : CredStore → CredStore) : (setCreds f s).flash = s.flash := rfl
@[simp] theorem setCreds_nv (s : Hub) (f : CredStore → CredStore) : (setCreds f s).nv = s.nv := rfl
@[simp] theorem setCreds_aon (s : Hub) (f : CredStore → CredStore) : (setCreds f s).aon = s.aon := rfl
@[simp] theorem setCreds_kept (s : Hub) (f : CredStore → CredStore) : (setCreds f s).kept = s.kept := rfl
@[simp] theorem setCreds_boot (s : Hub) (f : CredStore → CredStore) : (setCreds f s).boot = s.boot := rfl
@[simp] theorem setCreds_sens (s : Hub) (f : CredStore → CredStore) : (setCreds f s).sens = s.sens := rfl
@[simp] theorem setCreds_clk (s : Hub) (f : CredStore → CredStore) : (setCreds f s).clk = s.clk := rfl
@[simp] theorem setCreds_pwr (s : Hub) (f : CredStore → CredStore) : (setCreds f s).pwr = s.pwr := rfl
@[simp] theorem setCreds_tmu (s : Hub) (f : CredStore → CredStore) : (setCreds f s).tmu = s.tmu := rfl
@[simp] theorem setCreds_rng (s : Hub) (f : CredStore → CredStore) : (setCreds f s).rng = s.rng := rfl
@[simp] theorem setCreds_host (s : Hub) (f : CredStore → CredStore) : (setCreds f s).host = s.host := rfl
@[simp] theorem setCreds_eng (s : Hub) (f : CredStore → CredStore) : (setCreds f s).eng = s.eng := rfl
@[simp] theorem setCreds_casc (s : Hub) (f : CredStore → CredStore) : (setCreds f s).casc = s.casc := rfl
@[simp] theorem setCreds_geom (s : Hub) (f : CredStore → CredStore) : (setCreds f s).geom = s.geom := rfl
@[simp] theorem setCreds_geomNext (s : Hub) (f : CredStore → CredStore) : (setCreds f s).geomNext = s.geomNext := rfl
@[simp] theorem setCreds_reserve (s : Hub) (f : CredStore → CredStore) : (setCreds f s).reserve = s.reserve := rfl
@[simp] theorem setCreds_reserveNext (s : Hub) (f : CredStore → CredStore) : (setCreds f s).reserveNext = s.reserveNext := rfl
@[simp] theorem setCreds_splice (s : Hub) (f : CredStore → CredStore) : (setCreds f s).splice = s.splice := rfl
@[simp] theorem setCreds_slotDone (s : Hub) (f : CredStore → CredStore) : (setCreds f s).slotDone = s.slotDone := rfl
@[simp] theorem setCreds_regions (s : Hub) (f : CredStore → CredStore) : (setCreds f s).regions = s.regions := rfl
@[simp] theorem setCreds_bays (s : Hub) (f : CredStore → CredStore) : (setCreds f s).bays = s.bays := rfl
@[simp] theorem setCreds_creds (s : Hub) (f : CredStore → CredStore) : (setCreds f s).creds = f s.creds := rfl

/-! ### Hub.setSmb -/

@[simp] theorem Hub.setSmb_out (s : Hub) (f : Smb → Smb) : (s.setSmb f).out = s.out := rfl
@[simp] theorem Hub.setSmb_draws (s : Hub) (f : Smb → Smb) : (s.setSmb f).draws = s.draws := rfl
@[simp] theorem Hub.setSmb_now (s : Hub) (f : Smb → Smb) : (s.setSmb f).now = s.now := rfl
@[simp] theorem Hub.setSmb_clap (s : Hub) (f : Smb → Smb) : (s.setSmb f).clap = s.clap := rfl
@[simp] theorem Hub.setSmb_fuse (s : Hub) (f : Smb → Smb) : (s.setSmb f).fuse = s.fuse := rfl
@[simp] theorem Hub.setSmb_flash (s : Hub) (f : Smb → Smb) : (s.setSmb f).flash = s.flash := rfl
@[simp] theorem Hub.setSmb_nv (s : Hub) (f : Smb → Smb) : (s.setSmb f).nv = s.nv := rfl
@[simp] theorem Hub.setSmb_aon (s : Hub) (f : Smb → Smb) : (s.setSmb f).aon = s.aon := rfl
@[simp] theorem Hub.setSmb_kept (s : Hub) (f : Smb → Smb) : (s.setSmb f).kept = s.kept := rfl
@[simp] theorem Hub.setSmb_boot (s : Hub) (f : Smb → Smb) : (s.setSmb f).boot = s.boot := rfl
@[simp] theorem Hub.setSmb_sens (s : Hub) (f : Smb → Smb) : (s.setSmb f).sens = s.sens := rfl
@[simp] theorem Hub.setSmb_clk (s : Hub) (f : Smb → Smb) : (s.setSmb f).clk = s.clk := rfl
@[simp] theorem Hub.setSmb_pwr (s : Hub) (f : Smb → Smb) : (s.setSmb f).pwr = s.pwr := rfl
@[simp] theorem Hub.setSmb_tmu (s : Hub) (f : Smb → Smb) : (s.setSmb f).tmu = s.tmu := rfl
@[simp] theorem Hub.setSmb_rng (s : Hub) (f : Smb → Smb) : (s.setSmb f).rng = s.rng := rfl
@[simp] theorem Hub.setSmb_eng (s : Hub) (f : Smb → Smb) : (s.setSmb f).eng = s.eng := rfl
@[simp] theorem Hub.setSmb_creds (s : Hub) (f : Smb → Smb) : (s.setSmb f).creds = s.creds := rfl
@[simp] theorem Hub.setSmb_casc (s : Hub) (f : Smb → Smb) : (s.setSmb f).casc = s.casc := rfl
@[simp] theorem Hub.setSmb_geom (s : Hub) (f : Smb → Smb) : (s.setSmb f).geom = s.geom := rfl
@[simp] theorem Hub.setSmb_geomNext (s : Hub) (f : Smb → Smb) : (s.setSmb f).geomNext = s.geomNext := rfl
@[simp] theorem Hub.setSmb_reserve (s : Hub) (f : Smb → Smb) : (s.setSmb f).reserve = s.reserve := rfl
@[simp] theorem Hub.setSmb_reserveNext (s : Hub) (f : Smb → Smb) : (s.setSmb f).reserveNext = s.reserveNext := rfl
@[simp] theorem Hub.setSmb_splice (s : Hub) (f : Smb → Smb) : (s.setSmb f).splice = s.splice := rfl
@[simp] theorem Hub.setSmb_slotDone (s : Hub) (f : Smb → Smb) : (s.setSmb f).slotDone = s.slotDone := rfl
@[simp] theorem Hub.setSmb_regions (s : Hub) (f : Smb → Smb) : (s.setSmb f).regions = s.regions := rfl
@[simp] theorem Hub.setSmb_bays (s : Hub) (f : Smb → Smb) : (s.setSmb f).bays = s.bays := rfl
@[simp] theorem Hub.setSmb_smb (s : Hub) (f : Smb → Smb) : (s.setSmb f).host.smb = f s.host.smb := rfl

/-! ### Hub.setPort -/

@[simp] theorem Hub.setPort_out (s : Hub) (p : Port) (f : HostPort → HostPort) : (s.setPort p f).out = s.out := by cases p <;> rfl
@[simp] theorem Hub.setPort_draws (s : Hub) (p : Port) (f : HostPort → HostPort) : (s.setPort p f).draws = s.draws := by cases p <;> rfl
@[simp] theorem Hub.setPort_now (s : Hub) (p : Port) (f : HostPort → HostPort) : (s.setPort p f).now = s.now := by cases p <;> rfl
@[simp] theorem Hub.setPort_clap (s : Hub) (p : Port) (f : HostPort → HostPort) : (s.setPort p f).clap = s.clap := by cases p <;> rfl
@[simp] theorem Hub.setPort_fuse (s : Hub) (p : Port) (f : HostPort → HostPort) : (s.setPort p f).fuse = s.fuse := by cases p <;> rfl
@[simp] theorem Hub.setPort_flash (s : Hub) (p : Port) (f : HostPort → HostPort) : (s.setPort p f).flash = s.flash := by cases p <;> rfl
@[simp] theorem Hub.setPort_nv (s : Hub) (p : Port) (f : HostPort → HostPort) : (s.setPort p f).nv = s.nv := by cases p <;> rfl
@[simp] theorem Hub.setPort_aon (s : Hub) (p : Port) (f : HostPort → HostPort) : (s.setPort p f).aon = s.aon := by cases p <;> rfl
@[simp] theorem Hub.setPort_kept (s : Hub) (p : Port) (f : HostPort → HostPort) : (s.setPort p f).kept = s.kept := by cases p <;> rfl
@[simp] theorem Hub.setPort_boot (s : Hub) (p : Port) (f : HostPort → HostPort) : (s.setPort p f).boot = s.boot := by cases p <;> rfl
@[simp] theorem Hub.setPort_sens (s : Hub) (p : Port) (f : HostPort → HostPort) : (s.setPort p f).sens = s.sens := by cases p <;> rfl
@[simp] theorem Hub.setPort_clk (s : Hub) (p : Port) (f : HostPort → HostPort) : (s.setPort p f).clk = s.clk := by cases p <;> rfl
@[simp] theorem Hub.setPort_pwr (s : Hub) (p : Port) (f : HostPort → HostPort) : (s.setPort p f).pwr = s.pwr := by cases p <;> rfl
@[simp] theorem Hub.setPort_tmu (s : Hub) (p : Port) (f : HostPort → HostPort) : (s.setPort p f).tmu = s.tmu := by cases p <;> rfl
@[simp] theorem Hub.setPort_rng (s : Hub) (p : Port) (f : HostPort → HostPort) : (s.setPort p f).rng = s.rng := by cases p <;> rfl
@[simp] theorem Hub.setPort_eng (s : Hub) (p : Port) (f : HostPort → HostPort) : (s.setPort p f).eng = s.eng := by cases p <;> rfl
@[simp] theorem Hub.setPort_creds (s : Hub) (p : Port) (f : HostPort → HostPort) : (s.setPort p f).creds = s.creds := by cases p <;> rfl
@[simp] theorem Hub.setPort_casc (s : Hub) (p : Port) (f : HostPort → HostPort) : (s.setPort p f).casc = s.casc := by cases p <;> rfl
@[simp] theorem Hub.setPort_geom (s : Hub) (p : Port) (f : HostPort → HostPort) : (s.setPort p f).geom = s.geom := by cases p <;> rfl
@[simp] theorem Hub.setPort_geomNext (s : Hub) (p : Port) (f : HostPort → HostPort) : (s.setPort p f).geomNext = s.geomNext := by cases p <;> rfl
@[simp] theorem Hub.setPort_reserve (s : Hub) (p : Port) (f : HostPort → HostPort) : (s.setPort p f).reserve = s.reserve := by cases p <;> rfl
@[simp] theorem Hub.setPort_reserveNext (s : Hub) (p : Port) (f : HostPort → HostPort) : (s.setPort p f).reserveNext = s.reserveNext := by cases p <;> rfl
@[simp] theorem Hub.setPort_splice (s : Hub) (p : Port) (f : HostPort → HostPort) : (s.setPort p f).splice = s.splice := by cases p <;> rfl
@[simp] theorem Hub.setPort_slotDone (s : Hub) (p : Port) (f : HostPort → HostPort) : (s.setPort p f).slotDone = s.slotDone := by cases p <;> rfl
@[simp] theorem Hub.setPort_regions (s : Hub) (p : Port) (f : HostPort → HostPort) : (s.setPort p f).regions = s.regions := by cases p <;> rfl
@[simp] theorem Hub.setPort_bays (s : Hub) (p : Port) (f : HostPort → HostPort) : (s.setPort p f).bays = s.bays := by cases p <;> rfl
@[simp] theorem Hub.setPort_port (s : Hub) (p : Port) (f : HostPort → HostPort) : (s.setPort p f).port p = f (s.port p) := by cases p <;> rfl
@[simp] theorem Hub.setPort_other (s : Hub) (p : Port) (f : HostPort → HostPort) : (s.setPort p f).port (Port.other p) = s.port (Port.other p) := by cases p <;> rfl

/-! ### Bays and regions -/

theorem nth_modNth_same {α : Type} (d : α) (l : List α) (i : Nat) (f : α → α) (h : i < l.length) : nth d (modNth l i f) i = f (nth d l i) := by
  simp [nth, modNth, h]

theorem nth_modNth_other {α : Type} (d : α) (l : List α) (i j : Nat) (f : α → α) (h : i ≠ j) : nth d (modNth l i f) j = nth d l j := by
  simp [nth, modNth, h]

@[simp] theorem length_modNth {α : Type} (l : List α) (i : Nat) (f : α → α) : (modNth l i f).length = l.length := by
  simp [modNth]

/-- The bay that was changed. -/
theorem Hub.bay_setBay (s : Hub) (b : Nat) (f : Bay → Bay) (h : b < s.bays.length) : (s.setBay b f).bay b = f (s.bay b) :=
  nth_modNth_same _ _ _ _ h

/-- Every other bay is as it was. -/
theorem Hub.bay_setBay_other (s : Hub) (b c : Nat) (f : Bay → Bay) (h : b ≠ c) : (s.setBay b f).bay c = s.bay c :=
  nth_modNth_other _ _ _ _ _ h

/-- The region that was changed. -/
theorem Hub.region_setRegion (s : Hub) (r : Nat) (f : Region → Region) (h : r < s.regions.length) : (s.setRegion r f).region r = f (s.region r) :=
  nth_modNth_same _ _ _ _ h

/-- Every other region is as it was. -/
theorem Hub.region_setRegion_other (s : Hub) (r c : Nat) (f : Region → Region) (h : r ≠ c) : (s.setRegion r f).region c = s.region c :=
  nth_modNth_other _ _ _ _ _ h

@[simp] theorem Hub.region_setBay (s : Hub) (b r : Nat) (f : Bay → Bay) : (s.setBay b f).region r = s.region r := rfl
@[simp] theorem Hub.bay_setRegion (s : Hub) (b r : Nat) (f : Region → Region) : (s.setRegion r f).bay b = s.bay b := rfl
@[simp] theorem Hub.bay_emit (s : Hub) (b : Nat) (o : Out) : (s.emit o).bay b = s.bay b := rfl
@[simp] theorem Hub.region_emit (s : Hub) (r : Nat) (o : Out) : (s.emit o).region r = s.region r := rfl

/-! ### The state around the hub -/

/-- A meaning that answers leaves the queue as it was. -/
theorem onHub_next {f : Hub → Res} {s : State} {g : Hub} (h : f s.hub = .next g) : onHub f s = .next { s with hub := g } := by
  simp [onHub, h]

/-- Whatever a meaning answers next, the queue is as it was and the hub is what its part over the hub answers. -/
theorem onHub_inv {f : Hub → Res} {s t : State} (h : onHub f s = .next t) : ∃ g, f s.hub = .next g ∧ t = { s with hub := g } := by
  unfold onHub at h
  split at h
  · next g e => exact ⟨g, e, by injection h with h; exact h.symm⟩
  · cases h
  · cases h

/-- A command whose bay exists completes. -/
theorem atBay_next {b : Nat} {s : Hub} {f : Hub → Hub} (h : b < 128) : atBay b s f = .next (f s) := by
  simp [atBay, h]

/-- A command whose region exists completes. -/
theorem atRegion_next {r : Nat} {s : Hub} {f : Hub → Hub} (h : r < 8) : atRegion r s f = .next (f s) := by
  simp [atRegion, h]

/-- A command whose unit exists completes. -/
theorem atUnit_next {n i : Nat} {s : Hub} {f : Hub → Hub} (h : i < n) : atUnit n i s f = .next (f s) := by
  simp [atUnit, h]

end Sys2Proof.Machine
end

