-- ==== Sys2Proof/Laws/Command.lean ====
section
/-! SUPPORT. What answering a command can change, and what a host command row comes to once the shared checks are passed. -/

namespace Sys2Proof.Machine

theorem HostSideOnly.refl (a : Hub) : HostSideOnly a a := rfl

theorem HostSideOnly.trans {a b c : Hub} (h : HostSideOnly a b) (g : HostSideOnly b c) : HostSideOnly a c := by
  unfold HostSideOnly at *
  rw [g, h]

theorem HostSideOnly.emit {a b : Hub} (h : HostSideOnly a b) (o : Out) : HostSideOnly a (b.emit o) := h.trans rfl

theorem HostSideOnly.setPort {a b : Hub} (h : HostSideOnly a b) (p : Port) (f : HostPort → HostPort) : HostSideOnly a (b.setPort p f) :=
  h.trans (by cases p <;> rfl)

theorem HostSideOnly.setMailbox {a b : Hub} (h : HostSideOnly a b) (m : Mbx) (f : Mailbox → Mailbox) : HostSideOnly a (b.setMailbox m f) := by
  unfold Hub.setMailbox
  split
  · exact h.setPort _ _
  · exact h.setPort _ _
  · exact h

theorem HostSideOnly.sendVector {a b : Hub} (h : HostSideOnly a b) (p : Port) (v : Nat) : HostSideOnly a (sendVector p v b) := by
  unfold Machine.sendVector
  dsimp only
  split
  · exact h
  · split
    · exact h.setPort _ _
    · exact h.emit _

theorem HostSideOnly.raiseCause {a b : Hub} (h : HostSideOnly a b) (p : Port) (c : Nat) : HostSideOnly a (raiseCause p c b) := by
  unfold Machine.raiseCause
  have h1 := h.setPort p (fun h => { h with cause := h.cause ||| c })
  dsimp only
  split <;> split <;> first | exact (h1.sendVector _ _).sendVector _ _ | exact h1.sendVector _ _ | exact h1

theorem HostSideOnly.mbxErr {a b : Hub} (h : HostSideOnly a b) (m : Mbx) (f : Mailbox → Mailbox) : HostSideOnly a (mbxErr m f b) := by
  unfold Machine.mbxErr
  split
  · exact (h.setMailbox _ _).raiseCause _ _
  · exact (h.setMailbox _ _).raiseCause _ _
  · exact h

theorem HostSideOnly.postPort {a b : Hub} (h : HostSideOnly a b) (t s : Nat) (l : List Fld) (p : Port) : HostSideOnly a (postPort t s l p b) := by
  unfold Machine.postPort
  dsimp only
  split
  · exact h.setPort _ _
  · have h1 := ((h.setPort p (fun h => { h with ntc := { h.ntc with seq := ((b.port p).ntc.seq + 1) % 2 ^ 32 } }))).setPort p
    split <;> split <;> first
      | exact (((h1 _).emit _).raiseCause _ _).sendVector _ _
      | exact ((h1 _).emit _).raiseCause _ _
      | exact ((h1 _).emit _).sendVector _ _
      | exact (h1 _).emit _

theorem HostSideOnly.notice {a b : Hub} (h : HostSideOnly a b) (t s : Nat) (l : List Fld) : HostSideOnly a (notice t s l b) := by
  unfold Machine.notice
  split
  · exact (h.postPort _ _ _ _).postPort _ _ _ _
  · exact h

theorem HostSideOnly.ringResponse {a b : Hub} (h : HostSideOnly a b) (m : Mbx) (op tag seq : Nat) (st : Status) (fl : Nat) (res : List Fld) :
    HostSideOnly a (ringResponse m op tag seq st fl res b) := by
  unfold Machine.ringResponse
  have h1 := (h.emit (.rsp m ((b.mailbox m).rspTail % 256) op tag seq st fl res)).setMailbox m (fun b => { b with rspTail := (b.rspTail + 1) % 512 })
  dsimp only
  split
  · cases m
    · exact h1.sendVector _ _
    · exact h1.sendVector _ _
    · exact h1
  · exact h1

theorem HostSideOnly.smbResponse {a b : Hub} (h : HostSideOnly a b) (op tag : Nat) (st : Status) (res : List Fld) :
    HostSideOnly a (smbResponse op tag st res b) := h.trans rfl

theorem HostSideOnly.sendData {a b : Hub} (h : HostSideOnly a b) (m : Mbx) (l : List Byte) : HostSideOnly a (sendData m l b) := by
  unfold Machine.sendData
  split
  · exact h
  · exact h.emit _

theorem HostSideOnly.setRunning {a b : Hub} (h : HostSideOnly a b) (l : List Running) : HostSideOnly a (setRunning l b) := h.trans rfl

theorem HostSideOnly.report {a b : Hub} (h : HostSideOnly a b) (c : CmdRef) (st : Status) (res : List Fld) (l : List Byte) :
    HostSideOnly a (report c st res l b) := (h.sendData _ _).notice _ _ _

/-- Reporting what is due changes the host side alone, however many commands run. -/
theorem HostSideOnly.reportDue {a : Hub} (l : List Running) : ∀ (kept : List Running) (b : Hub), HostSideOnly a b → HostSideOnly a (reportDue kept l b) := by
  induction l with
  | nil => intro kept b h; exact h.setRunning _
  | cons r l ih =>
    intro kept b h
    unfold Machine.reportDue
    split
    · split
      · exact ih _ _ h
      · exact ih _ _ (h.report _ _ _ _)
    · exact ih _ _ h

theorem HostSideOnly.finish {a b : Hub} (h : HostSideOnly a b) (c : CmdRef) (st : Status) (res : List Fld) (l : List Byte) :
    HostSideOnly a (finish c st res l b) := by
  unfold Machine.finish
  split
  · exact h.smbResponse _ _ _ _
  · exact HostSideOnly.reportDue _ _ _ h

theorem HostSideOnly.accept {a b : Hub} (h : HostSideOnly a b) (c : Spec) (q : Req) : HostSideOnly a (accept c q b) := by
  unfold Machine.accept
  split
  · exact h
  · exact (h.ringResponse _ _ _ _ _ _ _).setRunning _

theorem HostSideOnly.answer {a b : Hub} (h : HostSideOnly a b) (c : Spec) (q : Req) (e : Bool) (r : Reply) : HostSideOnly a (answer c q e r b) := by
  unfold Machine.answer
  dsimp only
  split
  · cases r
    · exact h.smbResponse _ _ _ _
    · exact h.smbResponse _ _ _ _
    · exact h
  · cases r
    · dsimp only
      split
      · exact (h.accept c q).finish _ _ _ _
      · have h1 := (h.sendData q.mbx ‹_›).ringResponse q.mbx q.op q.tag q.seq
        split
        · exact (h1 _ _ _).notice _ _ _
        · exact h1 _ _ _
    · exact (h.accept c q).finish _ _ _ _
    · exact h

/-- The hub after the response ACCEPTED is the hub before it, but for the host side and the record. -/
theorem accept_eq (c : Spec) (q : Req) (u : Hub) : ∃ h o, accept c q u = { u with host := h, out := o } :=
  ⟨_, _, HostSideOnly.accept (HostSideOnly.refl u) c q⟩

/-- Taking up an entry changes its mailbox alone (R504, R508). -/
theorem HostSideOnly.consume {a b : Hub} (h : HostSideOnly a b) (q : Req) : HostSideOnly a (consume q b) := h.setMailbox _ _

theorem reaches_iff {c : Spec} {q : Req} {h : Hub} : reaches c q h = true ↔
    fetches q h = true ∧ q.op = c.op ∧ knownOpcodes.contains q.op = true ∧ c.mine q = true ∧ q.entryOk = true ∧
    (q.mbx = .smbus ∨ seqOk q (h.mailbox q.mbx) = true) ∧ flagsOk q = true ∧
    ((consume q h).romRecovery && !romServes q.op (consume q h)) = false ∧ allowed c q (consume q h) = true ∧ lengthOk c q = true ∧
    targetStatus (c.target q.payload) (consume q h) = none ∧ q.dataOk = true := by
  simp only [reaches, Bool.and_eq_true, Bool.or_eq_true, beq_iff_eq, Option.isNone_iff_eq_none, Bool.not_eq_true', and_assoc]

/-- Past the checks up to the signature, the command is what its verification and its body make of it. -/
theorem checked_reaches {c : Spec} {q : Req} {h : Hub} (body : CmdRef → Hub → Reply × Hub) (ha : reaches c q h = true) :
    checked c q body (consume q h) =
      (let v := if c.signed q (consume q h) then verifyCmd q (consume q h) else (none, consume q h)
       match v.1 with
       | some st => fail st v.2
       | none =>
         match commonStatus c q v.2 with
         | some st => fail st v.2
         | none =>
           let r := body (refOf c q) v.2
           if r.1 = .later then (.later, (body (refOf c q) (accept c q v.2)).2) else r) := by
  obtain ⟨_, _, hk, _, _, _, hf, hr, hal, hl, ht, hd⟩ := reaches_iff.mp ha
  simp only [checked, hf, hk, hr, hal, hl, ht, hd, Bool.not_true, Bool.false_or, Bool.false_eq_true, if_false]
  all_goals rfl

/-- A row whose entry passes those checks answers what `checked` gives. -/
theorem hostCommand_reaches {c : Spec} {q : Req} {h : Hub} (body : Req → CmdRef → Hub → Reply × Hub) (ha : reaches c q h = true) :
    hostCommand c body q h =
      (let x := checked c q (body q) (consume q h)
       answer c q false x.1 x.2) := by
  obtain ⟨hf, ho, _, hm, he, hs, _⟩ := reaches_iff.mp ha
  unfold hostCommand
  simp only [hf, ho, hm, he, Bool.not_true, ne_eq, not_true_eq_false, decide_false, Bool.or_false, Bool.and_false, Bool.false_eq_true, if_false]
  rcases hs with hs | hs
  · simp only [hs]
  · rcases hq : q.mbx with p | p | _ <;> simp only [hq] at hs <;> simp only [hs]

/-- A command that needs no signature and passes every shared check: what its body gives is its answer. -/
theorem hostCommand_passes {c : Spec} {q : Req} {h : Hub} (body : Req → CmdRef → Hub → Reply × Hub) (ha : passes c q h = true) :
    hostCommand c body q h =
      (let r := body q (refOf c q) (consume q h)
       if r.1 = .later then (body q (refOf c q) (accept c q (consume q h))).2 else answer c q false r.1 r.2) := by
  simp only [passes, Bool.and_eq_true, Bool.not_eq_true', Option.isNone_iff_eq_none] at ha
  obtain ⟨⟨hr, hs⟩, hc⟩ := ha
  rw [hostCommand_reaches body hr, checked_reaches _ hr]
  simp only [hs, Bool.false_eq_true, if_false, hc]
  split
  · simp only [answer]; split <;> rfl
  · rfl

/-- A signed command whose verification passes (R517). -/
theorem hostCommand_verified {c : Spec} {q : Req} {h v : Hub} (body : Req → CmdRef → Hub → Reply × Hub) (ha : passesToSig c q h = true)
    (hv : verifiedTo c q h v) :
    hostCommand c body q h =
      (let r := body q (refOf c q) v
       if r.1 = .later then (body q (refOf c q) (accept c q v)).2 else answer c q false r.1 r.2) := by
  simp only [passesToSig, Bool.and_eq_true] at ha
  obtain ⟨hr, hs⟩ := ha
  obtain ⟨hv, hc⟩ := hv
  rw [hostCommand_reaches body hr, checked_reaches _ hr]
  simp only [hs, if_true, hv, hc]
  split
  · simp only [answer]; split <;> rfl
  · rfl

/-- A signed command whose verification fails is answered with its status. -/
theorem hostCommand_unverified {c : Spec} {q : Req} {h v : Hub} {st : Status} (body : Req → CmdRef → Hub → Reply × Hub)
    (ha : passesToSig c q h = true) (hv : verifyCmd q (consume q h) = (some st, v)) :
    hostCommand c body q h = answer c q false (.done st [] []) v := by
  simp only [passesToSig, Bool.and_eq_true] at ha
  obtain ⟨hr, hs⟩ := ha
  rw [hostCommand_reaches body hr, checked_reaches _ hr]
  simp only [hs, if_true, hv, fail]

/-- The hub after a signed command whose body ends OK by COMMAND_DONE within the step. -/
theorem hostCommand_verified_done {c : Spec} {q : Req} {h v w : Hub} {body : Req → CmdRef → Hub → Reply × Hub} {r : List Fld} {d : List Byte}
    (ha : passesToSig c q h = true) (hv : verifiedTo c q h v) (hb : body q (refOf c q) v = (.async .ok r d, w)) :
    hostCommand c body q h = okDone c q r d w := by
  rw [hostCommand_verified body ha hv, hb]
  simp [okDone]

/-- Past every shared check, signed or not, what the body gives is the answer. -/
theorem hostCommand_ready {c : Spec} {q : Req} {h v : Hub} (body : Req → CmdRef → Hub → Reply × Hub) (hr : ready c q h v) :
    hostCommand c body q h =
      (let r := body q (refOf c q) v
       if r.1 = .later then (body q (refOf c q) (accept c q v)).2 else answer c q false r.1 r.2) := by
  rcases hr with ⟨ha, rfl⟩ | ⟨ha, hv⟩
  · exact hostCommand_passes body ha
  · exact hostCommand_verified body ha hv

/-- Either way, a row whose body ends OK by COMMAND_DONE within the step. -/
theorem ready_done {i : Instr} {q : Req} {s : State} {c : Spec} {body : Req → CmdRef → Hub → Reply × Hub} {r : List Fld} {d : List Byte} {v w : Hub}
    (he : exec i s = onHub (fun h => .next (hostCommand c body q h)) s) (hr : ready c q s.hub v)
    (hb : body q (refOf c q) v = (.async .ok r d, w)) : exec i s = .next { s with hub := okDone c q r d w } := by
  rw [he]
  apply onHub_next
  rw [hostCommand_ready body hr, hb]
  simp [okDone]

/-- Either way, a row whose body runs on. -/
theorem ready_later {i : Instr} {q : Req} {s : State} {c : Spec} {body : Req → CmdRef → Hub → Reply × Hub} {v w : Hub}
    (he : exec i s = onHub (fun h => .next (hostCommand c body q h)) s) (hr : ready c q s.hub v)
    (hb : (body q (refOf c q) v).1 = .later) (hw : (body q (refOf c q) (accept c q v)).2 = w) : exec i s = .next { s with hub := w } := by
  rw [he]
  apply onHub_next
  rw [hostCommand_ready body hr]
  simp [hb, hw]

/-! ### A row that is a host command completes as its body says -/

/-- A body that answers at once, with OK. -/
theorem answers_now {i : Instr} {q : Req} {s : State} {c : Spec} {body : Req → CmdRef → Hub → Reply × Hub} {r : List Fld} {d : List Byte} {v : Hub}
    (he : exec i s = onHub (fun h => .next (hostCommand c body q h)) s) (ha : passes c q s.hub = true)
    (hb : body q (refOf c q) (taken q s) = (.done .ok r d, v)) : exec i s = .next { s with hub := okNow c q r d v } := by
  rw [he]
  apply onHub_next
  rw [hostCommand_passes body ha]
  simp only [taken] at hb
  simp [hb, okNow]

/-- A body that ends by COMMAND_DONE within the step, with OK. -/
theorem answers_done {i : Instr} {q : Req} {s : State} {c : Spec} {body : Req → CmdRef → Hub → Reply × Hub} {r : List Fld} {d : List Byte} {v : Hub}
    (he : exec i s = onHub (fun h => .next (hostCommand c body q h)) s) (ha : passes c q s.hub = true)
    (hb : body q (refOf c q) (taken q s) = (.async .ok r d, v)) : exec i s = .next { s with hub := okDone c q r d v } := by
  rw [he]
  apply onHub_next
  rw [hostCommand_passes body ha]
  simp only [taken] at hb
  simp [hb, okDone]

/-- A body that runs on: its effects come after the response ACCEPTED. -/
theorem answers_later {i : Instr} {q : Req} {s : State} {c : Spec} {body : Req → CmdRef → Hub → Reply × Hub} {v : Hub}
    (he : exec i s = onHub (fun h => .next (hostCommand c body q h)) s) (ha : passes c q s.hub = true)
    (hb : (body q (refOf c q) (taken q s)).1 = .later) (hv : (body q (refOf c q) (accept c q (taken q s))).2 = v) :
    exec i s = .next { s with hub := v } := by
  rw [he]
  apply onHub_next
  rw [hostCommand_passes body ha]
  simp only [taken] at hb hv
  simp [hb, hv]

/-- A signed command that answers at once, with OK. -/
theorem answers_now_signed {i : Instr} {q : Req} {s : State} {c : Spec} {body : Req → CmdRef → Hub → Reply × Hub} {r : List Fld} {d : List Byte}
    {v w : Hub} (he : exec i s = onHub (fun h => .next (hostCommand c body q h)) s) (ha : passesToSig c q s.hub = true)
    (hv : verifiedTo c q s.hub v) (hb : body q (refOf c q) v = (.done .ok r d, w)) : exec i s = .next { s with hub := okNow c q r d w } := by
  rw [he]
  apply onHub_next
  rw [hostCommand_verified body ha hv]
  simp [hb, okNow]

/-- A signed command that ends by COMMAND_DONE within the step, with OK. -/
theorem answers_done_signed {i : Instr} {q : Req} {s : State} {c : Spec} {body : Req → CmdRef → Hub → Reply × Hub} {r : List Fld} {d : List Byte}
    {v w : Hub} (he : exec i s = onHub (fun h => .next (hostCommand c body q h)) s) (ha : passesToSig c q s.hub = true)
    (hv : verifiedTo c q s.hub v) (hb : body q (refOf c q) v = (.async .ok r d, w)) : exec i s = .next { s with hub := okDone c q r d w } := by
  rw [he]
  apply onHub_next
  rw [hostCommand_verified body ha hv]
  simp [hb, okDone]

/-- A signed command that runs on. -/
theorem answers_later_signed {i : Instr} {q : Req} {s : State} {c : Spec} {body : Req → CmdRef → Hub → Reply × Hub} {v w : Hub}
    (he : exec i s = onHub (fun h => .next (hostCommand c body q h)) s) (ha : passesToSig c q s.hub = true)
    (hv : verifiedTo c q s.hub v) (hb : (body q (refOf c q) v).1 = .later) (hw : (body q (refOf c q) (accept c q v)).2 = w) :
    exec i s = .next { s with hub := w } := by
  rw [he]
  apply onHub_next
  rw [hostCommand_verified body ha hv]
  simp [hb, hw]

/-- A host command row leaves the queue as it was, and completes whatever its entry. -/
theorem hostRow_next {i : Instr} {q : Req} {s : State} {c : Spec} {body : Req → CmdRef → Hub → Reply × Hub}
    (he : exec i s = onHub (fun h => .next (hostCommand c body q h)) s) : exec i s = .next { s with hub := hostCommand c body q s.hub } := by
  rw [he]
  exact onHub_next rfl

end Sys2Proof.Machine
end

