-- ==== Sys2Proof/Laws/Clock.lean ====
section
/-! SUPPORT. What one CBCLK cycle does: to a timer, to the timer unit, and to the rest of the hub. -/

namespace Sys2Proof.Machine

theorem bit_or (a b n : Nat) : bit (a ||| b) n = (bit a n || bit b n) := by simp [bit]

theorem flags_bit_zero (b : Bool) (r : List Bool) : bit (flags (b :: r)) 0 = b := by
  cases b <;> simp [bit, flags, b2n, Nat.testBit_zero, Nat.add_mod]

theorem flags_bit_succ (b : Bool) (r : List Bool) (n : Nat) : bit (flags (b :: r)) (n + 1) = bit (flags r) n := by
  have h : (b2n b + 2 * flags r) / 2 = flags r := by cases b <;> simp [b2n] <;> omega
  simp [bit, flags, Nat.testBit_succ, h]

theorem flags_bit_nil (n : Nat) : bit (flags []) n = false := by simp [bit, flags]

/-- A timer after a cycle of the unit. -/
theorem cycle_timer (u : Tmu) (c : Option (Nat × Nat × Bool)) (n : Nat) (hn : n < 16) : (u.cycle c).timer n = u.cycleAt n (u.capAt c n) := by
  simp [Tmu.timer, Tmu.cycle, nth, hn]

/-- The link alone decides the mode in force. -/
theorem modeAt_congr (n : Nat) (a b : Timer) (h : a.link = b.link) : a.modeAt n = b.modeAt n := by
  have h1 : a.master = b.master := by simp only [Timer.master, h]
  have h2 : a.mode = b.mode := by simp only [Timer.mode, h]
  simp only [Timer.modeAt, h1, h2]

/-- A cycle without a RESET event: the count moves up by one or stays, and CMP_F is set exactly where it moves onto the compare value (R703). -/
theorem cycleAt_count (u : Tmu) (n : Nat) (cap : Option Bool) (h : ¬ ((u.timer n).modeAt n = 1 ∧ u.eventAt n = true)) :
    (u.cycleAt n cap).link = (u.timer n).link ∧ (u.cycleAt n cap).cmp = (u.timer n).cmp ∧ (u.cycleAt n cap).ctrl = (u.timer n).ctrl ∧
    ∃ up : Bool, (u.cycleAt n cap).cnt = (if up then (u.timer n).cnt + 1 else (u.timer n).cnt) ∧
      bit (u.cycleAt n cap).flags 0 = (bit (u.timer n).flags 0 || (up && (u.cycleAt n cap).cnt == (u.timer n).cmp)) := by
  refine ⟨rfl, rfl, rfl, ?_⟩
  have hc : ((u.timer n).modeAt n == 1 && u.eventAt n) = false := by
    cases he : u.eventAt n <;> simp_all
  simp only [Tmu.cycleAt, bit_or, flags_bit_zero, hc, Bool.not_false, Bool.and_true, Bool.false_and, Bool.or_false, Bool.false_eq_true, if_false]
  exact ⟨_, rfl, rfl⟩

/-- Telling the ports of a timer's request changes the host side alone. -/
theorem HostSideOnly.timerCheck (s : Hub) : HostSideOnly s (timerCheck s) := by
  have h1 : ∀ p s u, HostSideOnly s u → HostSideOnly s (timerCause p u) := by
    intro p s u h
    unfold timerCause
    dsimp only
    split
    · exact (h.setPort _ _).sendVector _ _
    · exact h.setPort _ _
  exact h1 _ _ _ (h1 _ _ _ (HostSideOnly.refl _))

/-- Out of reset and out of S4 the timer unit takes its cycle with the hub's. -/
theorem clockCycle_tmu (c : Option (Nat × Nat × Bool)) (h : Hub) (h1 : h.boot.phase ≠ .held) (h2 : h.aon.inS4 = false) :
    (clockCycle c h).tmu = h.tmu.cycle c := by
  have e1 : ∀ s, ((cycleLength s).2.tmu = s.tmu ∧ (cycleLength s).2.boot = s.boot ∧ (cycleLength s).2.aon = s.aon) := by
    intro s; unfold cycleLength; split <;> (try split) <;> simp
  have e2 : ∀ a s, ((clapAdvance a s).2.tmu = s.tmu ∧ (clapAdvance a s).2.boot = s.boot ∧ (clapAdvance a s).2.aon = s.aon) := by
    intro a s; unfold clapAdvance; split <;> (try split) <;> simp
  have e3 : ∀ a s, ((rtcAdvance a s).2.tmu = s.tmu ∧ (rtcAdvance a s).2.boot = s.boot ∧ (rtcAdvance a s).2.aon = s.aon) := by
    intro a s; unfold rtcAdvance; split <;> simp
  have e4 : ∀ d a, (rtcTick d a).inS4 = a.inS4 := by intro d a; unfold rtcTick; dsimp only; split <;> rfl
  have e5 : ∀ s, (timerCheck s).tmu = s.tmu := fun s => by rw [HostSideOnly.timerCheck s]
  have e6 : ∀ b s, (timerWake b s).tmu = s.tmu := by
    intro b s; unfold timerWake; split
    · split <;> rfl
    · rfl
  unfold clockCycle
  dsimp only
  rw [if_neg (by simp [e4, (e3 _ _).2.1, (e2 _ _).2.1, (e1 _).2.1, (e3 _ _).2.2, (e2 _ _).2.2, (e1 _).2.2, h1, h2])]
  rw [e6, e5]
  simp [(e3 _ _).1, (e2 _ _).1, (e1 _).1]

/-- A cycle neither ends a reset nor leaves S4. -/
theorem clockCycle_keeps (c : Option (Nat × Nat × Bool)) (h : Hub) : (clockCycle c h).boot = h.boot ∧ (clockCycle c h).aon.inS4 = h.aon.inS4 := by
  have e1 : ∀ s, ((cycleLength s).2.boot = s.boot ∧ (cycleLength s).2.aon = s.aon) := by
    intro s; unfold cycleLength; split <;> (try split) <;> simp
  have e2 : ∀ a s, ((clapAdvance a s).2.boot = s.boot ∧ (clapAdvance a s).2.aon = s.aon) := by
    intro a s; unfold clapAdvance; split <;> (try split) <;> simp
  have e3 : ∀ a s, ((rtcAdvance a s).2.boot = s.boot ∧ (rtcAdvance a s).2.aon = s.aon) := by
    intro a s; unfold rtcAdvance; split <;> simp
  have e4 : ∀ d a, (rtcTick d a).inS4 = a.inS4 := by intro d a; unfold rtcTick; dsimp only; split <;> rfl
  have e5 : ∀ s, (timerCheck s).boot = s.boot ∧ (timerCheck s).aon = s.aon := by
    intro s; rw [HostSideOnly.timerCheck s]; exact ⟨rfl, rfl⟩
  have e6 : ∀ b s, (timerWake b s).boot = s.boot ∧ (timerWake b s).aon.inS4 = s.aon.inS4 := by
    intro b s; unfold timerWake; split
    · split <;> exact ⟨rfl, rfl⟩
    · exact ⟨rfl, rfl⟩
  unfold clockCycle
  dsimp only
  split
  · simp [e4, (e3 _ _).1, (e2 _ _).1, (e1 _).1, (e3 _ _).2, (e2 _ _).2, (e1 _).2]
  · rw [(e6 _ _).1, (e6 _ _).2, (e5 _).1, (e5 _).2]
    simp [e4, (e3 _ _).1, (e2 _ _).1, (e1 _).1, (e3 _ _).2, (e2 _ _).2, (e1 _).2]

/-- A command that needs no signature and whose body stays on the host side changes the host side alone, whatever its entry. -/
theorem hostCommand_quiet {c : Spec} {q : Req} {h : Hub} {body : Req → CmdRef → Hub → Reply × Hub} (hs : ∀ u, c.signed q u = false)
    (hb : ∀ r w, HostSideOnly w (body q r w).2) : HostSideOnly h (hostCommand c body q h) := by
  have hc : ∀ w, HostSideOnly w (checked c q (body q) w).2 := by
    intro w
    unfold checked
    simp only [hs, Bool.false_eq_true, if_false]
    repeat' (first | exact HostSideOnly.refl _ | split)
    all_goals try simp only [fail]
    all_goals first
      | exact HostSideOnly.refl _
      | exact HostSideOnly.mbxErr (HostSideOnly.refl _) _ _
      | exact hb _ _
      | exact HostSideOnly.trans (HostSideOnly.accept (HostSideOnly.refl _) c q) (hb _ _)
  unfold hostCommand
  have hcons := HostSideOnly.consume (HostSideOnly.refl h) q
  split
  · exact HostSideOnly.refl _
  · split
    · exact HostSideOnly.mbxErr (HostSideOnly.refl _) _ _
    · dsimp only
      split
      · exact HostSideOnly.answer (hcons.trans (hc _)) _ _ _ _
      · exact HostSideOnly.answer (HostSideOnly.mbxErr hcons _ _) _ _ _ _
      · exact HostSideOnly.answer (hcons.trans (hc _)) _ _ _ _

end Sys2Proof.Machine
end

