-- ==== Sys2Proof/Laws/Engine.lean ====
section
/-! SUPPORT. What the first-path search of an engine answers: the greatest step of a scale, the earliest tap that reaches its threshold, and the
bounds of a first path's position and quality (R276, R277). -/

namespace Sys2Proof.Machine

theorem le_greatest (ok : Nat → Bool) (k : Nat) : ∀ n, n ≤ greatest ok k n := by
  induction k with
  | zero => intro n; exact Nat.le_refl n
  | succ k ih =>
    intro n
    unfold greatest
    split
    · exact Nat.le_trans (Nat.le_add_right n (2 ^ k)) (ih _)
    · exact ih n

theorem greatest_lt (ok : Nat → Bool) (k : Nat) : ∀ n, greatest ok k n < n + 2 ^ k := by
  induction k with
  | zero => intro n; exact Nat.lt_succ_self n
  | succ k ih =>
    intro n
    unfold greatest
    split
    · have := ih (n + 2 ^ k); rw [Nat.pow_succ]; omega
    · have := ih n; rw [Nat.pow_succ]; omega

/-- The number found passes, if the first does. -/
theorem greatest_ok (ok : Nat → Bool) (k : Nat) : ∀ n, ok n = true → ok (greatest ok k n) = true := by
  induction k with
  | zero => intro n h; exact h
  | succ k ih =>
    intro n h
    unfold greatest
    split
    · exact ih _ ‹_›
    · exact ih n h

/-- No greater number passes, for a test that holds up to some number. -/
theorem greatest_max (ok : Nat → Bool) (mono : ∀ a b, a ≤ b → ok b = true → ok a = true) (k : Nat) :
    ∀ n m, m < n + 2 ^ k → ok m = true → m ≤ greatest ok k n := by
  induction k with
  | zero => intro n m h _; unfold greatest; simp at h; omega
  | succ k ih =>
    intro n m h hm
    unfold greatest
    split
    · rw [Nat.pow_succ] at h; exact ih _ m (by omega) hm
    · rename_i hn
      exact ih n m (Nat.lt_of_not_le (fun hc => hn (mono _ m hc hm))) hm

/-- The earliest place at or before the peak that reaches the threshold. -/
theorem firstReach_spec {th : Level2} {l : List Nat} {i : Nat} (h : firstReach th l = some i) :
    i ≤ peakAt l ∧ th.reached (nth 0 l i) = true ∧ ∀ j < i, th.reached (nth 0 l j) = false := by
  unfold firstReach at h
  rw [List.findIdx?_eq_some_iff_getElem] at h
  obtain ⟨hi, hr, hb⟩ := h
  have hlen : i < peakAt l + 1 ∧ i < l.length := by
    rw [List.length_take] at hi; omega
  refine ⟨by omega, ?_, ?_⟩
  · simpa [nth, List.getElem_take, hlen.2] using hr
  · intro j hj
    have := hb j hj
    simpa [nth, List.getElem_take, Nat.lt_trans hj hlen.2] using this

theorem quarterDb_le (p : Nat) (n : Level2) : quarterDb p n ≤ 255 := by
  have h : greatest (fun q => decide (q ≤ 255) && decide (10 ^ q * n.num ^ 40 ≤ (p * n.den) ^ 40)) 8 0 ≤ 255 := by
    have := greatest_lt (fun q => decide (q ≤ 255) && decide (10 ^ q * n.num ^ 40 ≤ (p * n.den) ^ 40)) 8 0
    omega
  unfold quarterDb openStep
  dsimp only
  split
  · exact h
  · split
    · exact h
    · split <;> omega

theorem crossRoots_le (th : Level2) (a b : Nat) : crossRoots th a b ≤ 4096 := by
  unfold crossRoots
  exact Nat.min_le_left _ _

/-- A first path: its tap is the earliest at or before the peak that reaches Th, it lies in the tap that ends there, or at the first tap, and its
quality is at most 255. -/
theorem firstPath_spec {start : Nat} {n : Level2} {l : List Tap} {p : FirstPath} (h : firstPath start n l = some p) :
    p.tap ≤ peakAt (l.map tapPow) ∧
      (n.threshold 36 64 (nth 0 (l.map tapPow) (peakAt (l.map tapPow)))).reached (nth 0 (l.map tapPow) p.tap) = true ∧
      (∀ j < p.tap, (n.threshold 36 64 (nth 0 (l.map tapPow) (peakAt (l.map tapPow)))).reached (nth 0 (l.map tapPow) j) = false) ∧
      start + 4096 * (p.tap - 1) ≤ p.pos ∧ p.pos ≤ start + 4096 * p.tap ∧ p.quality ≤ 255 := by
  unfold firstPath at h
  generalize hps : l.map tapPow = ps at *
  simp only [Option.map_eq_some_iff] at h
  generalize n.threshold 36 64 (nth 0 ps (peakAt ps)) = th at *
  obtain ⟨i, hi, hp⟩ := h
  obtain ⟨h1, h2, h3⟩ := firstReach_spec hi
  have hc := crossRoots_le th (nth 0 ps (i - 1)) (nth 0 ps i)
  have hq := quarterDb_le (nth 0 ps i) n
  generalize crossRoots th (nth 0 ps (i - 1)) (nth 0 ps i) = c at *
  generalize quarterDb (nth 0 ps i) n = q at *
  subst hp
  refine ⟨h1, h2, h3, ?_, ?_, hq⟩ <;> dsimp only <;> split <;> omega

end Sys2Proof.Machine
end

