-- ==== Sys2Proof/Laws/Table.lean ====
section
/-! SUPPORT. The laws of sparse tables (flash records, tag memory, credential slots, capture blocks): every operation keeps the canonical form, and
the tables of State.reset have it. -/

namespace Sys2Proof.Machine

variable {α : Type}

theorem Tab.sortedAbove_mono (t : Tab α) (lo lo' : Nat) (h : lo' ≤ lo) (h1 : Tab.sortedAbove lo t = true) : Tab.sortedAbove lo' t = true := by
  cases t with
  | nil => rfl
  | cons a r =>
    obtain ⟨j, v⟩ := a
    simp only [Tab.sortedAbove, Bool.and_eq_true, decide_eq_true_eq] at h1 ⊢
    exact ⟨Nat.le_trans h h1.1, h1.2⟩

theorem Tab.get_below (d : α) (t : Tab α) : ∀ lo k, k < lo → Tab.sortedAbove lo t = true → Tab.get d t k = d := by
  induction t with
  | nil => intros; rfl
  | cons a r ih =>
    obtain ⟨j, v⟩ := a
    intro lo k h h1
    simp only [Tab.sortedAbove, Bool.and_eq_true, decide_eq_true_eq] at h1
    rw [Tab.get, if_neg (by omega)]
    exact ih (j + 1) k (by omega) h1.2

theorem Tab.ins_sorted (k : Nat) (v : α) (t : Tab α) : ∀ lo, lo ≤ k → Tab.sortedAbove lo t = true → Tab.sortedAbove lo (Tab.ins k v t) = true := by
  induction t with
  | nil => intro lo h _; simp [Tab.ins, Tab.sortedAbove, h]
  | cons a r ih =>
    obtain ⟨j, u⟩ := a
    intro lo h h1
    simp only [Tab.sortedAbove, Bool.and_eq_true, decide_eq_true_eq] at h1
    simp only [Tab.ins]
    split
    · rename_i h2; simp [Tab.sortedAbove, h, h1.2]; omega
    · split
      · rename_i h4; subst h4; simp [Tab.sortedAbove, h, h1.2]
      · simp only [Tab.sortedAbove, h1.1, decide_true, Bool.true_and]
        exact ih _ (by omega) h1.2

theorem Tab.erase_sorted (k : Nat) (t : Tab α) : ∀ lo, Tab.sortedAbove lo t = true → Tab.sortedAbove lo (Tab.erase t k) = true := by
  induction t with
  | nil => intros; rfl
  | cons a r ih =>
    obtain ⟨j, u⟩ := a
    intro lo h1
    simp only [Tab.sortedAbove, Bool.and_eq_true, decide_eq_true_eq] at h1
    simp only [Tab.erase]
    split
    · exact Tab.sortedAbove_mono _ _ _ (by omega) h1.2
    · simp only [Tab.sortedAbove, h1.1, decide_true, Bool.true_and]
      exact ih _ h1.2

theorem Tab.ins_all [DecidableEq α] (d : α) (k : Nat) (v : α) (hv : v ≠ d) (t : Tab α) (h : t.all (fun p => decide (p.2 ≠ d)) = true) :
    (Tab.ins k v t).all (fun p => decide (p.2 ≠ d)) = true := by
  induction t with
  | nil => simp [Tab.ins, hv]
  | cons a r ih =>
    obtain ⟨i, u⟩ := a
    simp only [List.all_cons, Bool.and_eq_true] at h
    simp only [Tab.ins]
    split
    · simp only [List.all_cons, h.1, h.2, Bool.and_true]; simpa using hv
    · split
      · simp only [List.all_cons, h.2, Bool.and_true]; simpa using hv
      · simp only [List.all_cons, h.1, ih h.2, Bool.and_true]

theorem Tab.erase_all [DecidableEq α] (d : α) (k : Nat) (t : Tab α) (h : t.all (fun p => decide (p.2 ≠ d)) = true) :
    (Tab.erase t k).all (fun p => decide (p.2 ≠ d)) = true := by
  induction t with
  | nil => rfl
  | cons a r ih =>
    obtain ⟨i, u⟩ := a
    simp only [List.all_cons, Bool.and_eq_true] at h
    simp only [Tab.erase]
    split
    · exact h.2
    · simp only [List.all_cons, h.1, ih h.2, Bool.and_true]

/-- A write keeps the canonical form. -/
theorem Tab.put_wf [DecidableEq α] (d : α) (k : Nat) (v : α) (t : Tab α) (h : t.wf d = true) : (Tab.put d k v t).wf d = true := by
  simp only [Tab.wf, Bool.and_eq_true, Tab.put] at h ⊢
  split
  · exact ⟨Tab.erase_sorted _ _ _ h.1, Tab.erase_all _ _ _ h.2⟩
  · rename_i hv; exact ⟨Tab.ins_sorted _ _ _ _ (Nat.zero_le _) h.1, Tab.ins_all _ _ _ hv _ h.2⟩

theorem Tab.get_ins (d : α) (k : Nat) (v : α) (t : Tab α) (j : Nat) : Tab.get d (Tab.ins k v t) j = if j = k then v else Tab.get d t j := by
  induction t with
  | nil => simp only [Tab.ins, Tab.get, eq_comm]
  | cons a r ih =>
    obtain ⟨i, u⟩ := a
    by_cases hj : j = k
    · subst hj
      rw [if_pos rfl] at ih ⊢
      simp only [Tab.ins]
      split
      · simp [Tab.get]
      · split
        · simp [Tab.get]
        · rename_i h; simp [Tab.get, h, ih]
    · rw [if_neg hj] at ih ⊢
      simp only [Tab.ins]
      split
      · simp [Tab.get, Ne.symm hj]
      · split
        · rename_i h; subst h; simp [Tab.get, Ne.symm hj]
        · simp [Tab.get, ih]

theorem Tab.get_erase (d : α) (k : Nat) (t : Tab α) : ∀ lo, Tab.sortedAbove lo t = true → ∀ (j : Nat),
    Tab.get d (Tab.erase t k) j = if j = k then d else Tab.get d t j := by
  induction t with
  | nil => intros; simp only [Tab.erase, Tab.get]; split <;> rfl
  | cons a r ih =>
    obtain ⟨i, u⟩ := a
    intro lo h1 j
    simp only [Tab.sortedAbove, Bool.and_eq_true, decide_eq_true_eq] at h1
    simp only [Tab.erase]
    split
    · rename_i h2; subst h2
      split
      · rename_i h3; subst h3; exact Tab.get_below d r _ _ (by omega) h1.2
      · rename_i h3; rw [Tab.get, if_neg (by omega)]
    · rename_i h2
      simp only [Tab.get, ih _ h1.2]
      split
      · split
        · omega
        · rfl
      · rfl

/-- The tables of a fresh hub list nothing. -/
theorem reset_tables_wf :
    let h := State.reset.hub
    h.nv.cells.wf {} = true ∧ h.nv.store.wf {} = true ∧ h.nv.fleets.wf {} = true ∧ h.nv.fleetStore.wf {} = true ∧ h.nv.vault.wf {} = true ∧
      h.nv.vaultStore.wf {} = true ∧ h.nv.tags.wf {} = true ∧ h.nv.detect.wf 0 = true ∧ h.creds.slots.wf {} = true ∧ (∀ r < 8, (h.region r).capture = []) ∧
      ∀ b < 128, (h.bay b).hf.img.data = [] := by
  refine ⟨rfl, rfl, rfl, rfl, rfl, rfl, rfl, rfl, rfl, fun r hr => ?_, fun b hb => ?_⟩
  · have h8 : ∀ n r, r < n → nth ({} : Region) (List.replicate n {}) r = {} := by
      intro n r hr; simp [nth, hr]
    show (nth {} (List.replicate 8 ({} : Region)) r).capture = []
    rw [h8 8 r hr]
  · show (nth {} (baysReset .f8) b).hf.img.data = []
    simp [nth, baysReset, bayReset, hb]

end Sys2Proof.Machine
end

