-- ==== Sys2Proof/Tests/Slice0.lean ====
section
/-! SUPPORT. Tests: a witness for the hypotheses of every statement that has any, clause by clause; terms that WellFormed refuses; and single steps
whose expected results are worked out from the spec. Cryptographic functions are open constants, so a witness that needs one to accept assumes just
that. -/

namespace Sys2Proof.Tests

open Sys2Proof Sys2Proof.Machine

set_option Elab.async false

/-! ## Small hubs -/

/-- A running hub with main power in life-cycle state `lc`: port A is active and its normal mailbox holds one entry, every region is ACTIVE, every
bay in state `st`. -/
def hub (lc : Nat) (st : BayState) : Hub :=
  { Hub.reset with
    boot := { phase := .running }
    fuse := { lc := List.replicate (3 * lc) 0xA5 ++ List.replicate (12 - 3 * lc) 0 }
    eng := { mainPresent := true }
    host := { active := some .a, portA := { linkUp := true, normal := { enable := true, cmdTail := 1 } } }
    rng := { available := true }
    regions := List.replicate 8 { st := .active, power := .s0 }
    bays := List.replicate 128 { st := st } }

/-- The entry of a command without data, with room for 1 MiB of results. -/
def entry (op : Nat) (l : List Byte) : Req :=
  { mbx := .normal .a, op := op, tag := 7, seq := 0, len := l.length, flags := 2, payload := l, entryOk := true, dma := 0
    descs := [{ addr := 0, len := 1048576, flags := 3 }], dataOk := true, data := [] }

/-- The entry of a command with data: its descriptor goes first. -/
def dataEntry (op : Nat) (l d : List Byte) : Req :=
  { entry op l with data := d, descs := [{ addr := 0, len := (d.length + 3) / 4 * 4, flags := 0 }, { addr := 0, len := 1048576, flags := 3 }] }

/-- A signed command: OPSEQ 5 under operator key 0. -/
def signedEntry (op : Nat) (l d : List Byte) : Req := dataEntry op l (d ++ toLe 8 5 ++ List.replicate 72 0)

/-- The hub with operator key 0 provisioned. -/
def keyed (h : Hub) : Hub := h.setNv (fun v => { v with vault := [(vaultNo 0x01 0, { val := 1, version := 1, present := true })] })

/-- The signature of a signed command verifies. -/
def Signed (q : Req) : Prop :=
  Config.ecdsaVerify (BitVec.ofNat 512 1) (cmdDigest q) (sigOf ((q.data.drop (q.data.length - 80)).drop 16)) = true

/-- The hub after a signed command's verification. -/
def verified (q : Req) (h : Hub) : Hub := (cellAdvance cellOpSeq 5 (consume q h)).2

/-- A commit that was written. -/
def written (x : Commit × Hub) : Bool :=
  match x.1 with
  | .done _ => true
  | _ => false

/-- Everything that a signed command's verification needs but the signature itself. -/
def verifies (c : Spec) (q : Req) (h : Hub) : Bool :=
  let blk := q.data.drop (q.data.length - 80)
  let u := consume q h
  bit q.flags 1 && decide (80 ≤ q.data.length) && decide (fld blk 0 8 = 5) && decide (fld blk 8 1 = 0) && (vaultKey u 0x01 0).present &&
    decide ((vaultKey u 0x01 0).val = 1) && decide (cellVal u cellOpSeq < 5) && written (cellAdvance cellOpSeq 5 u) &&
    (commonStatus c q (verified q h)).isNone

theorem signed_verifies {c : Spec} {q : Req} {h : Hub} (hv : Signed q) (hc : verifies c q h = true) : verifiedTo c q h (verified q h) := by
  simp only [verifies, Bool.and_eq_true, decide_eq_true_eq, Option.isNone_iff_eq_none] at hc
  obtain ⟨⟨⟨⟨⟨⟨⟨⟨h1, h2⟩, h3⟩, h4⟩, h5⟩, h6⟩, h7⟩, h8⟩, h9⟩ := hc
  refine ⟨?_, h9⟩
  obtain ⟨k, hk⟩ : ∃ k, (cellAdvance cellOpSeq 5 (consume q h)).1 = .done k := by
    unfold written at h8
    split at h8
    · exact ⟨_, by assumption⟩
    · cases h8
  unfold Signed at hv
  unfold verifyCmd
  have e : cellAdvance cellOpSeq 5 (consume q h) = (.done k, verified q h) := by rw [← hk]; rfl
  have hl : ¬ q.data.length < 80 := by omega
  have hk : ¬ 5 ≤ cellVal (consume q h) cellOpSeq := by omega
  simp only [h1, h3, h4, h5, h6, e]
  simpa [hl, hk] using hv

theorem signedData_signedEntry (op : Nat) (l d : List Byte) : signedData (signedEntry op l d) = d := by
  have h8 : (toLe 8 5).length = 8 := by decide
  have h : (signedEntry op l d).data = d ++ (toLe 8 5 ++ List.replicate 72 0) := by simp [signedEntry, dataEntry, List.append_assoc]
  unfold signedData
  rw [h, List.length_append, List.length_append, h8, List.length_replicate, Nat.add_sub_cancel, List.take_left']
  rfl

/-- A hub whose compliance page allows everything. -/
def licensed (h : Hub) : Hub :=
  { h with boot := { h.boot with compValid := true }
           flash := { h.flash with comp := { s0 := some (
             { seq := 1, data := [0, 0, 0, 0, 1, 0, 0, 0, 0, 0, 3, 15, 63, 63, 0, 0] ++ List.replicate 12 255 ++ List.replicate 4068 0 } :
             Sector (List Byte)) } } }

/-- The state with a hub and nothing waiting. -/
abbrev on (h : Hub) : State := { hub := h }

/-- A dialogue whose authentication is done. -/
def dialogue : Dialogue := { token := 9, slot := 0, auth := { phase := .done }, verdict := .bound }

/-- A geometry of one triangular bay and its head at this hub: header, bay record, head record, CRC. -/
def blobParts : List (List Byte) :=
  [[0x4B, 0x52, 0x41, 0x50, 1, 0, 0, 0, 1, 0, 0, 0, 1, 0, 1, 0], List.replicate 48 0,
   [0, 0, 3, 0, 0, 0, 100, 0, 0, 0, 0, 0, 0, 0, 0, 0, 0xE8, 3, 0, 0, 0, 0, 0, 0, 0, 0, 0, 0, 0xE8, 3, 0, 0], List.replicate 72 0,
   List.replicate 16 255 ++ List.replicate 8 0, List.replicate 64 0]

def blob : List Byte := blobParts.flatten ++ [117, 93, 2, 34]

/-- The CRC over a list of parts, where it is `d` for the rest after each part gives the next value. -/
theorem crc_parts (l : List (List Byte)) (c : List Nat) (x d : Nat) (h : (List.zip l (List.zip (x :: c) c)).all (fun p =>
    p.1.foldl (crcByteR 0xEDB88320) p.2.1 == p.2.2) = true) (hl : l.length = c.length) (hd : (x :: c).getLast? = some d) :
    l.flatten.foldl (crcByteR 0xEDB88320) x = d := by
  induction l generalizing x c with
  | nil =>
    have : c = [] := List.length_eq_zero_iff.mp hl.symm
    subst this
    simpa using hd
  | cons a l ih =>
    cases c with
    | nil => simp at hl
    | cons y c =>
      simp only [List.zip_cons_cons, List.all_cons, Bool.and_eq_true, beq_iff_eq] at h
      rw [List.flatten_cons, List.foldl_append, h.1]
      exact ih c y h.2 (by simpa using hl) (by simpa using hd)

/-- A session of class V at bay 127, with identity 3. -/
def session (ph : SessPhase) : Session := { id := 3, phase := ph, cls := .v }

/-- A hub with that session. -/
def inSession (ph : SessPhase) (st : BayState) : Hub := (hub 2 st).setBay 127 (fun x => { x with sess := some (session ph) })

/-- A hub whose bay 127 is owned by the supervisor. -/
def owned (h : Hub) : Hub := h.setBay 127 (fun x => { x with rel := { x.rel with supervisor := true } })

/-- An image of a kind with the smallest payload. -/
def image (kind : Nat) : Image :=
  { hdr := [0x47, 0x4D, 0x49, 0x4B, BitVec.ofNat 8 kind, 1, 0, 0, 1, 0, 0, 0, 0, 0, 255, 255, 1, 0, 0, 0, 0, 16, 0, 0] ++ List.replicate 232 0
    payload := List.replicate 4096 0 }

/-- Its digest and its signature are good. -/
def Genuine (h : Hub) (i : Image) : Prop := imageSigned h i = true ∧ imageDigest i = true

theorem genuine_slotValid {h : Hub} {kind : Nat} (hk : kind ≤ 1) (hg : Genuine h (image kind)) : slotValid h kind (some (image kind)) = true := by
  have h4 : (image kind).payload.length = 4096 := List.length_replicate ..
  have hs : imageShape kind (image kind) = true := by
    unfold imageShape
    rw [h4]
    have : kind = 0 ∨ kind = 1 := by omega
    rcases this with rfl | rfl <;> decide +kernel
  have ht : imageStepping (image kind) = true := by
    have : kind = 0 ∨ kind = 1 := by omega
    rcases this with rfl | rfl <;> decide +kernel
  simp [slotValid, hs, ht, hg.1, hg.2]

/-- The compliance page of version 1, whole but for its signature. -/
def pageParts : List (List Byte) :=
  [[0x50, 0x4D, 0x4F, 0x43, 1, 0, 0, 0, 0, 0, 3, 15, 63, 63, 0, 0], List.replicate 12 255, List.replicate 104 0, List.replicate 104 0,
   List.replicate 104 0, List.replicate 104 0]

/-! ## Witnesses -/

/-- Bay 127 of region 7 in FACTORY, and a payload of 48 bytes that begins with it. -/
def cfg (l : List Byte) : List Byte := l ++ List.replicate (48 - l.length) 0

theorem wit_BayConfigSetsSection :
    (∀ b ∈ namedBays (hub 1 .watch) 127, ((hub 1 .watch).region (regionOf b)).st ≠ .quarantined) ∧
    (let q := entry 0x0102 (cfg [127, 0, 0, 0, 1, 52, 0x58, 2, 100, 0, 3, 128, 0xFF, 0x3F, 1, 128, 100, 0, 20, 0, 1, 0, 0, 32, 0, 0, 1, 0, 1])
     passes specBayConfigPolling q (hub 1 .watch) = true ∧ fld q.payload 2 1 = 0 ∧ pollCheck (limits (taken q { hub := hub 1 .watch })) q.payload = none) ∧
    (let q := entry 0x0102 (cfg [127, 0, 1, 0, 5, 12, 3, 128, 2, 15, 0x70, 0x17, 32])
     passes specBayConfigRanging q (hub 1 .watch) = true ∧ rangeCheck (limits (taken q { hub := hub 1 .watch })) q.payload = none) ∧
    (let q := entry 0x0102 (cfg [127, 0, 2, 0, 3, 80, 160, 0xEC, 0x58, 2, 3, 80])
     passes specBayConfigBinding q (hub 1 .watch) = true ∧ bindCheck q.payload = none) ∧
    (let q := entry 0x0102 (cfg [127, 0, 3, 0, 0, 1, 0xE8, 3, 100, 0])
     passes specBayConfigRelease q (hub 1 .watch) = true ∧ ∀ b ∈ namedBays (hub 1 .watch) 127, relCheck (taken q { hub := hub 1 .watch }) q.payload b = none) := by
  decide

theorem wit_BayControlActs :
    (let q := entry 0x0103 [127, 0, 1, 0]
     passes specBayControlEnable q (hub 2 .offline) = true ∧ ((hub 2 .offline).bay 127).link.enabled = false) ∧
    (let q := entry 0x0103 [127, 0, 2, 0]
     passes specBayControlDisable q (hub 2 .engaged) = true ∧ ((hub 2 .engaged).bay 127).link.disableDue = false ∧ isCharging (hub 2 .engaged) 127 = false ∧
       isWrapping (hub 2 .engaged) 127 = false) ∧
    (∀ st ∈ [BayState.idle, .dark],
      passes specBayControlWake (entry 0x0103 [127, 0, 3, 0]) (hub 2 st) = true ∧ ((hub 2 st).bay 127).st = st ∧ ((hub 2 st).region 7).st = .active ∧
        ((hub 2 st).bay 127).radio.test = none) ∧
    passes specBayControlRearmCoils (entry 0x0103 [127, 0, 4, 0]) (hub 2 .fault) = true ∧
    passes specBayControlRetrain (entry 0x0103 [127, 0, 5, 0]) (hub 2 .fault) = true := by
  decide

theorem wit_LevelsAndSettings :
    (∀ p ∈ [0, 3], let h := { hub 2 .watch with pwr := { (hub 2 .watch).pwr with profile := p } }
      passes specProfileSet (entry 0x0105 [BitVec.ofNat 8 p, 0, 0, 0]) h = true ∧ h.pwr.run = none ∧ h.pwr.dvfs = none ∧ p = h.pwr.profile) ∧
    (let h := hub 2 .engaged
     passes specProfileSet (entry 0x0105 [3, 0, 0, 0]) h = true ∧ 3 ≠ h.pwr.profile ∧ ¬(3 = patrolProfile ∧ vServed h = true)) ∧
    passes specPlSet (entry 0x0504 [0, 0, 0, 0]) (hub 2 .watch) = true ∧
    passes specPowerSet (entry 0x0503 [0, 1, 2, 0, 1, 2, 0, 2, 1, 0, 0, 0]) (hub 2 .watch) = true ∧
    passes specRapidReserve (entry 0x0505 [1, 0, 0, 0]) (hub 2 .watch) = true := by
  decide

theorem wit_LevelsAndSettings_geometry :
    let q := dataEntry 0x0104 [] blob
    passes specBayGeometrySet q (hub 2 .watch) = true ∧ 64 ≤ q.data.length ∧ q.data.length = blobLength q.data ∧
      blobSound (taken q (on (hub 2 .watch))) q.data (geometryOf q.data) = true ∧ (geometryOf q.data).ident = (hub 2 .watch).flash.cascId := by
  have hc : crc32 (blob.take (blobLength blob - 4)) = 0x22025D75 := by
    have e : blob.take (blobLength blob - 4) = blobParts.flatten := by decide +kernel
    rw [e, crc32, crc_parts blobParts [0x626a076d, 0xe1093ec1, 0xcfae31d9, 0x9ebc945e, 0x2bb88dfc, 0xddfda28a] _ 0xddfda28a (by decide +kernel) rfl rfl]
    rfl
  refine ⟨by decide +kernel, by decide +kernel, by decide +kernel, ?_, by decide +kernel⟩
  show blobSound _ blob (geometryOf blob) = true
  unfold blobSound
  simp only [hc, Bool.and_eq_true]
  decide +kernel

theorem wit_BayItemsQueued :
    (∀ t ∈ [0, 1], let h := hub 2 .watch
      passes specBayMeasure (entry 0x0106 [127, 0, t, 0]) h = true ∧ bayPlans h 127 = true ∧ queueFree h 127 false = true ∧
        (h.bay 127).poll.measure = none ∧ (h.bay 127).poll.lfOpen = false ∧ (h.bay 127).poll.hfOpen = false ∧ (h.bay 127).hf.extField = false) ∧
    (let h := licensed ((hub 2 .engaged).setBay 127 (fun x => { x with dlgV := some dialogue }))
     let q := entry 0x0107 [127, 0, 3, 0]
     let u := taken q (on h)
     passes specTake q h = true ∧ bayPlans u 127 = true ∧ (u.bay 127).dlgV = some dialogue ∧ (u.bay 127).take = none ∧ (u.bay 127).radio.copy ≠ .cal ∧
       (limits u).channel dialogue.cfg.uwbCh 0 = true ∧
       (planTake 127 { due := u.slot, latest := u.slot + 500, rapid := rapidSelected dialogue true, noListen := true
                       ref := some (refOf specTake q), room := q.room } u).1 = true) ∧
    (let h := hub 2 .watch
     let q := entry 0x0108 [127, 0, 7, 44, 0, 0, 0, 0, 0, 0, 0, 0, 0, 0, 0, 0, 0, 0, 0, 0, 0, 0, 0, 0, 0, 0, 0, 0, 0, 0, 0, 0, 0, 0, 0, 0, 0, 0, 0, 0, 0, 0,
       0, 0, 0, 0, 0, 0]
     passes specCardExchange q h = true ∧ bayPlans h 127 = true ∧ q.len = 4 + fld q.payload 3 1 ∧ queueFree h 127 false = true ∧
       authRuns h 127 = false ∧ (h.bay 127).poll.hfOpen = false ∧ (h.bay 127).hf.extField = false ∧ (h.bay 127).hf.owned = false) := by
  decide

theorem wit_TestsAndCoexistence :
    (∀ q ∈ [entry 0x0903 [127, 0, 0x60, 32, 9, 0, 0, 0, 0xC0, 0x27, 9, 0], entry 0x0903 [127, 0, 0x63, 0, 128, 0, 0, 0, 1, 0, 0, 0]],
      let h := hub 1 .watch
      passes specTestEmit q h = true ∧ testFields (fld q.payload 2 1) (fld q.payload 3 1) (fld q.payload 4 2) (fld q.payload 8 4) = true ∧
        (h.bay 127).radio.test = none ∧ (h.bay 127).radio.copy ≠ .cal ∧
        testAllowed (limits h) (fld q.payload 2 1) (fld q.payload 3 1) (fld q.payload 4 2) = true) ∧
    (let q := entry 0x0904 [127, 0, 0, 0]
     let t : TestRun := { opc := 0x60, power := 0, arg := 9, ref := refOf specTestEmit q, started := none }
     let h := (hub 1 .idle).setBay 127 (fun x => { x with radio := { x.radio with test := some t } })
     passes specTestEnd q (hub 1 .idle) = true ∧ ((hub 1 .idle).bay 127).radio.test = none ∧ passes specTestEnd q h = true ∧
       (h.bay 127).radio.test = some t ∧ t.started = none) ∧
    (∀ r ∈ [7, 0xFF], ∀ e ∈ [0, 1], passes specCoexSet (entry 0x0209 [r, e, 0, 0]) (hub 2 .watch) = true) := by
  decide

theorem wit_TagWrites :
    (let h := hub 2 .watch
     let own := h.setBay 127 (fun x => { x with hf := { x.hf with owned := true } })
     ∀ p ∈ [(specBayTagWrite, dataEntry 0x0109 [127, 0, 2, 1, 1, 0, 0, 0, 0, 0, 0, 0] (List.replicate 64 1)),
            (specBayTagRearm, entry 0x0109 [127, 0, 3, 1, 0, 0, 0, 0, 1, 0, 0, 0]), (specBayTagEnable, entry 0x0109 [127, 0, 4, 1, 0, 0, 0, 0, 0, 0, 0, 0])],
       passes p.1 p.2 h = true ∧ (h.bay 127).hf.owned = false ∧ (wireCommit 127 (wireOf p.2 (refOf p.1 p.2) (taken p.2 (on h))) (taken p.2 (on h))).1 = .ok ∧
         passes p.1 p.2 own = true ∧ (own.bay 127).hf.owned = true ∧ (own.bay 127).hf.wire.length < 4) := by
  decide

theorem wit_WrapAndReleaseCommands :
    (let q := entry 0x0202 [127, 0, 0, 0, 3, 0, 0, 0, 0, 0, 0, 0]
     let a := inSession .opening .engaged
     let c := inSession .charging .charging
     let z := entry 0x0202 [127, 0, 0, 0, 0, 0, 0, 0, 0, 0, 0, 0]
     (passes specSessionWrap q a = true ∧ isAuthorizing a 127 = true) ∧
     (passes specSessionWrap q (owned c) = true ∧ isAuthorizing (owned c) 127 = false ∧ sessNamed q (owned c) 127 = true ∧
       ((owned c).rel 127).supervisor = true ∧ isCharging (owned c) 127 = true) ∧
     (passes specSessionWrap q c = true ∧ isAuthorizing c 127 = false ∧ sessNamed q c 127 = true ∧
       ((c.rel 127).supervisor && isCharging c 127) = false ∧ (c.bay 127).sess.isSome = true) ∧
     (passes specSessionWrap z (hub 2 .engaged) = true ∧ isAuthorizing (hub 2 .engaged) 127 = false ∧ sessNamed z (hub 2 .engaged) 127 = true ∧
       ((hub 2 .engaged).bay 127).sess.isSome = false)) ∧
    (∀ p ∈ [(specReleaseHold, 0x0203, 0), (specReleaseResume, 0x0204, 0), (specReleaseClass, 0x0205, (255 : Byte))],
      let q := entry p.2.1 [127, 0, p.2.2, 0, 3, 0, 0, 0, 0, 0, 0, 0]
      let c := inSession .charging .charging
      sessNamed q c 127 = true ∧ passes p.1 q (owned c) = true ∧ ((owned c).rel 127).supervisor = true ∧ passes p.1 q c = true ∧
        (c.rel 127).supervisor = false) := by
  decide

theorem wit_CutsReadingsAndAuthorize :
    (∀ h ∈ [hub 2 .watch, inSession .charging .charging, inSession .holding .wrapping],
      passes specSafetyCut (entry 0x0206 [127, 0, 0, 0]) h = true) ∧
    (let h := hub 2 .watch
     passes specPermitDrop (entry 0x0207 [7, 0, 0, 0]) h = true ∧
       ∀ r ∈ namedRegions 7 h, (h.region r).bus.cutsOpen = [] ∧ (h.region r).bus.cutFrames = []) ∧
    (let q := entry 0x0208 [127, 0, 0, 0, 3, 0, 0, 0, 0, 0, 0, 0]
     let h := inSession .charging .charging
     passes specMeterRead q h = true ∧ sessNamed q h 127 = true ∧ bayPlans h 127 = true ∧ (h.rel 127).req = none ∧ h.rng.available = true ∧
       h.rng.rawActive = false) ∧
    (∀ k ∈ [0, (1 : Byte)],
      let q := entry 0x0201 ([127, 0, k, 1] ++ toLe 8 9 ++ toLe 8 0)
      let h := (hub 2 .engaged).setBay 127 (fun x =>
        { x with dlgV := some dialogue, dlgC := some dialogue, rel := { x.rel with cfg := { x.rel.cfg with enable := true } } })
      let h := h.setNv (fun v => { v with vault := [(vaultNo 0x05 127, { val := 1, version := 1, present := true })] })
      let u := taken q (on h)
      passes specSessionAuthorize q h = true ∧ authorizeStatus u 127 (classOf (fld q.payload 2 1)) (fld q.payload 4 8) = none ∧
        boundDialogue u 127 (classOf (fld q.payload 2 1)) (fld q.payload 4 8) = some dialogue) := by
  decide

theorem wit_RegionControlActs :
    (∀ st ∈ [RegionSt.active, .draining], let h := (hub 2 .watch).setRegion 7 (fun x => { x with st := st })
      passes specRegionControlQuarantine (entry 0x0705 [7, 1, 0, 0]) h = true ∧ (h.region 7).restart = none ∧ (h.region 7).st = st) ∧
    (let h := (hub 2 .watch).setRegion 7 (fun x => { x with st := .quarantined })
     passes specRegionControlRestore (entry 0x0705 [7, 2, 0, 0]) h = true ∧ (h.region 7).restart = none ∧ (h.region 7).st = .quarantined) ∧
    (∀ st ∈ [RegionSt.active, .quarantined], let h := (hub 2 .watch).setRegion 7 (fun x => { x with st := st })
      passes specRegionControlOff (entry 0x0705 [7, 3, 0, 0]) h = true ∧ (h.region 7).restart = none ∧ (h.region 7).st = st ∧ liveBays h 7 = []) ∧
    (let h := (hub 2 .watch).setRegion 7 (fun x => { x with st := .off })
     passes specRegionControlOn (entry 0x0705 [7, 4, 0, 0]) h = true ∧ (h.region 7).restart = none ∧ (h.region 7).st = .off) ∧
    (∀ r ∈ [7, (255 : Byte)], ∀ m ∈ [0, (1 : Byte)],
      let h := hub 2 .watch
      passes specRegionControlSetQuarRelease (entry 0x0705 [r, 5, m, 0]) h = true ∧ ∀ x ∈ namedRegions r.toNat h, (h.region x).restart = none) := by
  decide

/-- A hub whose two region slots hold the image above, in a life cycle that splices. -/
def staged : Hub := keyed { hub 2 .watch with flash := { Hub.reset.flash with regA := some (image 1), regB := some (image 1) } }

set_option maxRecDepth 4096 in
theorem wit_SpliceStarts :
    let q := signedEntry 0x0704 [1, 0, 0, 0] []
    passesToSig specSplice q staged = true ∧
      (Signed q → Genuine (verified q staged) (image 1) →
        verifiedTo specSplice q staged (verified q staged) ∧ (verified q staged).splice = none ∧
        slotValid (verified q staged) 1 (regImage (verified q staged) 1) = true ∧
        ((regImage (verified q staged) 1).map (fun i => !abiFits (verified q staged) i)).getD false = false) := by
  have e : regImage (verified (signedEntry 0x0704 [1, 0, 0, 0] []) staged) 1 = some (image 1) := rfl
  refine ⟨by decide +kernel, fun hv hg => ⟨signed_verifies hv (by decide +kernel), by decide +kernel, ?_, by decide +kernel⟩⟩
  rw [e]
  exact genuine_slotValid (Nat.le_refl 1) hg

/-- The compliance authority's key is there. -/
def authorised : Hub := (keyed (hub 2 .watch)).setNv (fun v => { v with vault := Tab.put {} (vaultNo 0x02 0) { val := 1, version := 1, present := true } v.vault })

def page : List Byte := pageParts.flatten ++ [174, 97, 242, 106] ++ List.replicate 3648 0

theorem wit_ComplianceWrite :
    let q := signedEntry 0x0901 [] page
    passesToSig specComplianceWrite q authorised = true ∧ signedData q = page ∧ pageIntact page = true ∧
      (Signed q → verifiedTo specComplianceWrite q authorised (verified q authorised) ∧ flashVersion (verified q authorised) = none ∧
        (vaultKey (verified q authorised) 0x02 0).present = true ∧ written (pageBurst 16 (verified q authorised)) = true) := by
  refine ⟨by decide +kernel, signedData_signedEntry _ _ _, ?_, fun hv => ⟨signed_verifies hv (by decide +kernel), by decide +kernel, by decide +kernel, by decide +kernel⟩⟩
  have e : page.take 444 = pageParts.flatten := by decide +kernel
  have hc : crc32 (page.take 444) = 0x6af261ae := by
    rw [e, crc32, crc_parts pageParts [0xe29c2897, 0x2b03fdee, 0x8254f218, 0xb59687bc, 0xfca329bb, 0x950d9e51] _ 0x950d9e51 (by decide +kernel) rfl rfl]
    rfl
  unfold pageIntact
  rw [hc]
  decide +kernel

/-- The record of token 9 of fleet 0, class V. -/
def record : List Byte := toLe 8 9 ++ [0, 0, 0, 0] ++ List.replicate 52 0

/-- A hub that can enrol one token: K_ENROL is there, and fleet 0 has a quota of 1. -/
def enrolling : Hub :=
  (keyed (hub 2 .watch)).setNv (fun v => { v with vault := Tab.put {} (vaultNo 0x03 0) { val := 1, version := 1, present := true } v.vault
                                                  fleets := [(0, { quota := 1, fobW := 16 })] })

theorem wit_Enrol :
    let q := signedEntry 0x0301 [] record
    let key : BitVec 128 := 0
    passesToSig specCredEnrol q enrolling = true ∧
      (Signed q → Config.kwUnwrap (BitVec.ofNat 256 1) ((record.drop 16).take 24) = some (List.replicate 16 0) →
        let v := verified q enrolling
        verifiedTo specCredEnrol q enrolling v ∧ storeBusy v = false ∧ recordOk (q.data.take 64) = true ∧ recordKey v (q.data.take 64) = some key ∧
        let c := recordCred (q.data.take 64) key
        let i := (findCred v c.cls c.tokenId).getD (firstFree 0 v.creds.slots)
        i < credSlots ∧ enrolled v c.fleet + 1 ≤ (fleetOf v c.fleet).quota ∧ counts (v.cred i) c = true ∧ cellVal v cellEnrol + 1 ≤ enrolMax ∧
          written (cellAdvance cellEnrol (cellVal v cellEnrol + 1) v) = true ∧
          written (commitSlot i (enrolInto (v.cred i) c 1) (cellAdvance cellEnrol (cellVal v cellEnrol + 1) v).2) = true) := by
  refine ⟨by decide +kernel, fun hv hk => ⟨signed_verifies hv (by decide +kernel),
    by decide +kernel, by decide +kernel, ?_, by decide +kernel, by decide +kernel, by decide +kernel, by decide +kernel, by decide +kernel, by decide +kernel⟩⟩
  have e : (signedEntry 0x0301 [] record).data.take 64 = record := by decide +kernel
  rw [e]
  unfold recordKey
  have e2 : vaultKey (verified (signedEntry 0x0301 [] record) enrolling) 0x03 0 = { val := 1, version := 1, present := true } := by decide +kernel
  simp only [e2, if_true]
  rw [hk]
  rfl

/-- A hub with token 9 in slot 0; `used`: an open session rests on it. -/
def holding (used : Bool) : Hub :=
  setCreds (fun c => { c with slots := [(0, { tokenId := 9, valid := true, inSession := used })] })
    ((keyed (hub 2 .watch)).setNv (fun v => { v with fleets := [(0, { quota := 1, fobW := 16 })] }))

theorem wit_Revoke (used : Bool) :
    let q := signedEntry 0x0302 ([0, 1, 0, 0] ++ toLe 8 9) []
    let h := holding used
    passesToSig specCredRevoke q h = true ∧
      (Signed q → let v := verified q h
        verifiedTo specCredRevoke q h v ∧ storeBusy v = false ∧ findCred v .v 9 = some 0 ∧ (v.cred 0).retiring = false ∧ (v.cred 0).inSession = used ∧
        bit (fld q.payload 1 1) 0 = true ∧ written (commitSlot 0 {} v) = true ∧ written (commitSlot 0 { v.cred 0 with retiring := true } v) = true) := by
  cases used
  all_goals exact ⟨by decide +kernel, fun hv => ⟨signed_verifies hv (by decide +kernel), by decide +kernel, by decide +kernel, by decide +kernel, by decide +kernel, by decide +kernel, by decide +kernel, by decide +kernel⟩⟩

theorem wit_FleetSet :
    let q := signedEntry 0x0304 [0xFF, 0x0F, 0, 0, 64, 0, 0, 0] []
    let h := holding false
    passesToSig specFleetSet q h = true ∧
      (Signed q → let v := verified q h
        verifiedTo specFleetSet q h v ∧ storeBusy v = false ∧ fld q.payload 0 2 = 4095 ∧ fld q.payload 4 1 = 64 ∧
        enrolled v 4095 ≤ fld q.payload 2 2 ∧ written (pageBurst 9 (fleetErase (4095 / 256) v)) = true) := by
  exact ⟨by decide +kernel, fun hv => ⟨signed_verifies hv (by decide +kernel), by decide +kernel, by decide +kernel, by decide +kernel, by decide +kernel, by decide +kernel⟩⟩

/-- A hub with load 7 of fleet 0 open and nothing loaded yet, and K_ENROL there. -/
def loading : Hub := setCreds (fun c => { c with bulk := some { fleets := [0], loadId := 7 } }) enrolling

theorem wit_BulkLoad_begin :
    let q := signedEntry 0x0306 [] ((List.range 2).flatMap (fun f => toLe 2 (4094 + f)))
    let h := keyed (hub 2 .watch)
    passesToSig specBulkBegin q h = true ∧ fleetList (signedData q) = [4094, 4095] ∧
      (Signed q → let v := verified q h
        verifiedTo specBulkBegin q h v ∧ storeBusy v = false ∧ distinct (fleetList (signedData q)) = true ∧
        written (cellAdvance cellLoad (cellVal v cellLoad + 1) v) = true) := by
  exact ⟨by decide +kernel, by decide +kernel, fun hv => ⟨signed_verifies hv (by decide +kernel), by decide +kernel, by decide +kernel, by decide +kernel⟩⟩

theorem wit_BulkLoad_data (hk : Config.kwUnwrap (BitVec.ofNat 256 1) ((record.drop 16).take 24) = some (List.replicate 16 0)) :
    let q := dataEntry 0x0307 [7, 0, 0, 0, 0, 0, 0, 0] record
    let b : Bulk := { fleets := [0], loadId := 7 }
    let u := taken q (on loading)
    let w := setCreds (fun c => { c with bulk := some { b with lastAt := u.now } }) u
    passes specBulkData q loading = true ∧ u.creds.loading = false ∧ openLoad u = some b ∧ fld q.payload 0 4 = b.loadId ∧
      fld q.payload 4 4 = b.records.length ∧ b.records.length + (recordList q.data).length ≤ loadMax ∧
      firstBad w b.fleets (b.records.map recordToken) 0 (recordList q.data) = none := by
  refine ⟨by decide +kernel, by decide +kernel, by decide +kernel, by decide +kernel, by decide +kernel, by decide +kernel, ?_⟩
  have e : recordList (dataEntry 0x0307 [7, 0, 0, 0, 0, 0, 0, 0] record).data = [record] := by decide +kernel
  rw [e]
  have e2 : ∀ w : Hub, vaultKey w 0x03 0 = { val := 1, version := 1, present := true } → (recordKey w record).isSome = true := by
    intro w hw
    unfold recordKey
    simp only [hw, if_true]
    rw [hk]
    rfl
  have e3 : ∀ w : Hub, vaultKey w 0x03 0 = { val := 1, version := 1, present := true } → recordFits w [0] [] record = true := by
    intro w hw
    unfold recordFits
    rw [e2 w hw, Bool.and_true]
    decide +kernel
  exact if_pos (e3 _ (by decide +kernel))

set_option maxRecDepth 8192 in
theorem wit_BulkLoad_commit :
    let b : Bulk := { fleets := [0], loadId := 7 }
    let q := signedEntry 0x0308 [7, 0, 0, 0] (loadDigest b)
    passesToSig specBulkCommit q loading = true ∧
      (Signed q → let v := verified q loading
        verifiedTo specBulkCommit q loading v ∧ v.creds.loading = false ∧ openLoad v = some b ∧ fld q.payload 0 4 = b.loadId ∧
        signedData q = loadDigest b ∧ (loadStore b v).unplaced = 0 ∧
        (∀ f ∈ b.fleets, (b.records.filter (fun l => fld l 8 2 == f)).length ≤ (fleetOf v f).quota) ∧ (loadStore b v).counted = 0 ∧
        ∃ res w, commitLoad b (loadStore b v) (refOf specBulkCommit q) v = (.async .ok res [], w)) := by
  refine ⟨by decide +kernel, fun hv => ⟨signed_verifies hv (by decide +kernel), by decide +kernel, by decide +kernel, by decide +kernel,
    signedData_signedEntry _ _ _, by decide +kernel, by decide +kernel, by decide +kernel, ⟨_, _, rfl⟩⟩⟩

/-- The same hub with a token of fleet 0 in the last slot, which the empty load frees. -/
def freeing : Hub := setCreds (fun c => { c with slots := [(262143, { tokenId := 9, valid := true })] }) loading

set_option maxRecDepth 8192 in
theorem wit_BulkLoad_switch :
    let b : Bulk := { fleets := [0], loadId := 7 }
    let q := signedEntry 0x0308 [7, 0, 0, 0] (loadDigest b)
    passesToSig specBulkCommit q freeing = true ∧
      (Signed q → let v := verified q freeing
        let x := loadStore b v
        let ks := changedBlocks v.creds.slots x.slots
        let e := writeBlocks b.loadId x.slots ks (accept specBulkCommit q v)
        verifiedTo specBulkCommit q freeing v ∧ v.creds.loading = false ∧ openLoad v = some b ∧ fld q.payload 0 4 = b.loadId ∧
        signedData q = loadDigest b ∧ x.unplaced = 0 ∧ (∀ f ∈ b.fleets, (b.records.filter (fun l => fld l 8 2 == f)).length ≤ (fleetOf v f).quota) ∧
        x.counted = 0 ∧ ks = [8191] ∧ (commitLoad b x (refOf specBulkCommit q) v).1 = .later ∧ written e = true ∧
        written (commit { js := [.bulkCommit b.loadId (cellVal e.2 cellEnrol)] } e.2) = true) := by
  refine ⟨by decide +kernel, fun hv => ⟨signed_verifies hv (by decide +kernel), by decide +kernel, by decide +kernel, by decide +kernel,
    signedData_signedEntry _ _ _, by decide +kernel, by decide +kernel, by decide +kernel, by decide +kernel, rfl, by decide +kernel, by decide +kernel⟩⟩

theorem wit_BulkLoad_end :
    (let q := entry 0x0309 [7, 0, 0, 0]
     let b : Bulk := { fleets := [0], loadId := 7 }
     let u := taken q (on loading)
     passes specBulkAbort q loading = true ∧ u.creds.loading = false ∧ openLoad u = some b ∧ fld q.payload 0 4 = b.loadId) ∧
    (let h := { loading with now := sec 600 }
     openLoad h = some { fleets := [0], loadId := 7 } ∧ h.passed 0 (sec 600) = true) ∧
    (openLoad loading = some { fleets := [0], loadId := 7 } ∧ loading.passed 0 (sec 600) = false) := by
  decide +kernel

theorem wit_ReelAndTimeCommands :
    (let q := entry 0x0402 (toLe 8 0)
     let u := taken q (on (hub 2 .watch))
     passes specLogAck q (hub 2 .watch) = true ∧ fld q.payload 0 8 ≤ newestSeq u ∧ fld q.payload 0 8 ≤ cellVal u cellReelAck) ∧
    (let q := entry 0x0402 (toLe 8 6)
     let h := (hub 2 .watch).setReel (fun l => { l with nextSeq := 7 })
     let u := taken q (on h)
     passes specLogAck q h = true ∧ fld q.payload 0 8 ≤ newestSeq u ∧ cellVal u cellReelAck < fld q.payload 0 8 ∧
       written (cellAdvance cellReelAck (fld q.payload 0 8) u) = true) ∧
    (let q := entry 0x0403 ([0, 0, 0, 0] ++ toLe 4 86399)
     let u := taken q (on (hub 3 .watch))
     passes specLogConfig q (hub 3 .watch) = true ∧ fld q.payload 0 2 = 0 ∧ fld q.payload 4 4 ≤ 86399 ∧ written (pageBurst 1 u) = true) ∧
    (∀ lc ∈ [1, 2], ∀ n ∈ [16, 256],
     let q := entry 0x0403 (toLe 2 n ++ [0, 0, 0xFF, 0xFF, 0xFF, 0xFF])
     let h := (hub lc .watch).setReel (fun l => { l with nextSeq := 1 })
     let u := taken q (on h)
     passes specLogConfig q h = true ∧ fld q.payload 4 4 = 0xFFFFFFFF ∧ fld q.payload 0 2 ≠ 0 ∧ sizeOk u n = true ∧ u.lc = lc ∧ allAcked u = true ∧
       written (resize n u) = true) ∧
    (let q := entry 0x0501 (toLe 8 1)
     let h := (hub 2 .watch).setReel (resizedReel 256)
     let u := taken q (on h)
     passes specTimeSet q h = true ∧ fld q.payload 0 8 ≠ 0 ∧
       written (commit { ents := [eventEnt 0xA chipSrc 1 (fld q.payload 0 8) [⟨0, 8, u.aon.rtc⟩] false] } u) = true) := by
  decide +kernel

/-- The base point of P-256. -/
def basePoint : List Byte :=
  (toLe 32 0x6B17D1F2E12C4247F8BCE6E563A440F277037D812DEB33A0F4A13945D898C296).reverse ++
  (toLe 32 0x4FE342E2FE1A7F9B8EE7EB4A7C0F9E162BCE33576B315ECECBB6406837BF51F5).reverse

theorem wit_KeyInstall_unsigned :
    let q := dataEntry 0x0601 [1, 3, 0, 0] basePoint
    let h := hub 1 .watch
    let u := taken q (on h)
    ready specKeyInstall q h u ∧ keySigned q u = false ∧ q.data.length = 64 ∧ blobKey u none q.data = some basePoint ∧ keyAllowed 1 3 false u = true ∧
      (installKey 1 3 (some basePoint) u).1 = true := by
  exact ⟨.inl ⟨by decide +kernel, rfl⟩, by decide +kernel, by decide +kernel, by decide +kernel, by decide +kernel, by decide +kernel⟩

theorem wit_KeyInstall_removed :
    let q := signedEntry 0x0601 [6, 127, 1, 0] []
    let h := keyed (hub 2 .watch)
    Signed q → let v := verified q h
      ready specKeyInstall q h v ∧ keySigned q v = true ∧ signedData q = [] ∧ keyKind 6 = some (24, some 16) ∧ keyAllowed 6 127 true v = true ∧
        (installKey 6 127 none v).1 = true := by
  intro q h hv
  exact ⟨.inr ⟨by decide +kernel, signed_verifies hv (by decide +kernel)⟩, by decide +kernel, by decide +kernel, by decide +kernel, by decide +kernel, by decide +kernel⟩

theorem wit_LifecycleSet :
    let q := signedEntry 0x0604 [4, 0, 0, 0] []
    let h := keyed (hub 2 .watch)
    passesToSig specLifecycleSet q h = true ∧
      (Signed q → let v := verified q h
        verifiedTo specLifecycleSet q h v ∧ transition v.lc 4 = true ∧ transitionReady 4 v = true ∧ written (pageBurst 1 v) = true) := by
  exact ⟨by decide, fun hv => ⟨signed_verifies hv (by decide +kernel), by decide +kernel, by decide +kernel, by decide +kernel⟩⟩

/-- A hub whose DRBG stands seeded, with `n` requests left before its reseed. -/
def seeded (lc n : Nat) : Hub := { hub lc .watch with rng := { available := true, drbg := some (0, 0), reqLeft := n } }

/-- A hub in raw output. -/
def rushing : Hub := { hub 1 .watch with rng := { available := true, rawActive := true, rawEnd := 0 } }

theorem wit_RngCommands :
    (∀ n ∈ [1, 48, 4096], let q := entry 0x0605 (toLe 2 n ++ [0, 0])
      passes specRngRead q (seeded 2 1) = true ∧ fld q.payload 0 2 = n ∧ n ≤ q.room ∧ ((taken q (on (seeded 2 1))).rng.generate n).isSome = true) ∧
    (let q := entry 0x0605 [1, 0, 0, 0]
     let u := taken q (on (seeded 2 0))
     passes specRngRead q (seeded 2 0) = true ∧ (u.rng.generate 1).isNone = true ∧ u.rng.available = true ∧ u.rng.rawActive = false) ∧
    (let q := entry 0x0606 ([1, 0, 0, 0] ++ toLe 4 3600)
     let u := taken q (on rushing)
     let w := taken q (on (hub 1 .watch))
     (passes specRushesSet q rushing = true ∧ u.lc ≠ fielded ∧ q.data = [] ∧ u.rng.rawActive = true) ∧
     (passes specRushesSet q (hub 1 .watch) = true ∧ w.lc ≠ fielded ∧ w.rng.rawActive = false ∧ w.rng.rawPend = none ∧ anyLive w = false)) ∧
    (let q := entry 0x0606 [0, 0, 0, 0, 0, 0, 0, 0]
     let u := taken q (on rushing)
     passes specRushesSet q rushing = true ∧ fld q.payload 0 1 = 0 ∧ u.rng.rawPend = none ∧ u.rng.rawActive = true) ∧
    (∀ k ∈ [3, (0xFF : Byte)], let q := entry 0x0607 ([k, 0, 0, 0] ++ toLe 4 1048576)
      passes specRushesRead q rushing = true ∧ fld q.payload 4 4 ≤ q.room ∧ (taken q (on rushing)).rng.rawActive = true) ∧
    (rushing.rng.rawActive = true ∧ rushing.rng.rawEnd ≤ rushing.now) := by
  decide +kernel

/-- The stage of an image of a kind. -/
def stageEntry (kind : Nat) : Req := signedEntry 0x0702 [BitVec.ofNat 8 kind, 0, 0, 0] ((image kind).hdr ++ (image kind).payload)

theorem staged_image (kind : Nat) (v : Hub) (h : imageSigns (stageEntry kind) v = true) :
    ({ hdr := (imageData (stageEntry kind) v).take 256, payload := (imageData (stageEntry kind) v).drop 256 } : Image) = image kind := by
  have hl : (image kind).hdr.length = 256 := by
    show (_ ++ List.replicate 232 0).length = 256
    rw [List.length_append, List.length_replicate]; rfl
  unfold imageData
  rw [if_pos h, stageEntry, signedData_signedEntry, List.take_left' hl, List.drop_left' hl]

theorem genuine_status {h : Hub} {kind : Nat} (hk : kind ≤ 1) (hg : Genuine h (image kind)) (ha : abiFits h (image kind) = true) :
    imageStatus h kind (image kind) = none := by
  have hv := genuine_slotValid hk hg
  simp only [slotValid, Bool.and_eq_true] at hv
  unfold imageStatus
  simp [hv.1.1.1, hv.1.1.2, hv.1.2, hv.2, ha]

theorem wit_ImageStage (kind : Nat) (hk : kind = 0 ∨ kind = 1) :
    let q := stageEntry kind
    let h := keyed (hub 2 .watch)
    Signed q → Genuine (verified q h) (image kind) → let v := verified q h
      ready specImageStage q h v ∧ flashAbsent v = false ∧ fld q.payload 0 1 = kind ∧ v.splice = none ∧
        imageStatus v kind { hdr := (imageData q v).take 256, payload := (imageData q v).drop 256 } = none ∧
        written (writeBoot (fun r => { r with supActive := 1, trial := false }) v) = true := by
  rcases hk with rfl | rfl
  all_goals
    intro q h hv hg
    refine ⟨.inr ⟨by decide +kernel, signed_verifies hv (by decide +kernel)⟩, by decide +kernel, by decide +kernel, by decide +kernel, ?_, by decide +kernel⟩
    rw [staged_image _ _ (by decide +kernel)]
    exact genuine_status (by omega) hg (by decide +kernel)

set_option maxRecDepth 4096 in
theorem wit_ImageActivate :
    let q := signedEntry 0x0703 [1, 1, 0, 0] []
    Signed q → Genuine (verified q staged) (image 1) → let v := verified q staged
      ready specImageActivate q staged v ∧ flashAbsent v = false ∧ slotValid v 1 (regImage v 1) = true ∧
        written (writeBoot (activated 1 1 (some v.boot.supSlot) (cellVal v cellBootTry)) v) = true := by
  have e : regImage (verified (signedEntry 0x0703 [1, 1, 0, 0] []) staged) 1 = some (image 1) := rfl
  refine fun hv hg => ⟨.inr ⟨by decide +kernel, signed_verifies hv (by decide +kernel)⟩, by decide +kernel, ?_, by decide +kernel⟩
  rw [e]
  exact genuine_slotValid (Nat.le_refl 1) hg

theorem wit_ManufacturingSteps :
    (∀ root ∈ [some 0, none],
     let h := { hub 0 .offline with rng := { available := true, drbg := some (0, 0), reqLeft := 3 }, fuse := { kRoot := root } }
     let next := fun (x : Hub) => ((drawRandom 32 x).map (·.2)).getD x
     let h0 := if root = none then next h else h
     let h2 := next (next h0)
     let w := pageBurst 13 (vaultErase 0 { h2 with fuse := { h2.fuse with kRoot := some 0, rootCheck := rootCheckOf 0 } })
     h.boot.phase ≠ .held ∧ h.lc = blank ∧ h.rng.available = true ∧ h.fuse.kRoot = root ∧ (root = none → (drawRandom 32 h).isSome = true) ∧
       (drawRandom 32 h0).isSome = true ∧ (drawRandom 32 (next h0)).isSome = true ∧
       written w = true ∧ written (pageBurst 1 (vaultProgram 0 (w.2.setNv (fun v => { v with vault := baseKeys 0 0 0 v.vault })))) = true) ∧
    ((hub 2 .offline).boot.phase ≠ .held ∧ (hub 2 .offline).lc ≠ blank ∧ (hub 2 .offline).lc ≠ factory) ∧
    ((hub 1 .offline).boot.phase ≠ .held ∧ (hub 1 .offline).lc = factory ∧ written (pageBurst wholeWrite (hub 1 .offline)) = true) := by
  refine ⟨fun root hr => ?_, by decide +kernel, by decide +kernel⟩
  simp only [List.mem_cons, List.not_mem_nil, or_false] at hr
  rcases hr with rfl | rfl <;> decide +kernel

/-- A coil's sweep with its maximum in the middle. -/
def sweep : List (Nat × Nat) := List.replicate 16 (1, 7) ++ [(2, 8)] ++ List.replicate 16 (1, 9)

theorem wit_HoldupExportCalibBay :
    (let q := entry 0x0506 (toLe 4 100000 ++ toLe 4 200000 ++ toLe 2 60000 ++ [64, 100, 0, 0, 0, 0])
     let h := (hub 2 .watch).setReel (resizedReel 256)
     let u := taken q (on h)
     let c := changed u u.boot.cal.changes { u.boot.cal with cHold := 100000, pLoad := 200000, vMin := 60000, vDiv := 64, tPage := 100 }
     passes specHoldupSet q h = true ∧ holdupRanges q.payload = true ∧
       written (commit { ents := [eventEnt 0xB chipSrc 1 u.aon.rtc (calibEvent 0xFF (pageCrc c)) false], other := boardWrite } u) = true) ∧
    (passes specCalibExport (entry 0x0801 []) (hub 2 .watch) = true ∧ 65616 ≤ (entry 0x0801 []).room) ∧
    (let q := entry 0x0802 ([127, 0, 4, 1] ++ List.replicate 20 0)
     let h := licensed (hub 2 .watch)
     let u := taken q (on h)
     passes specCalibBay q h = true ∧ calibFails q 127 u = none ∧
       (match calibSolve q { lf := sweep, hf := sweep, auth := 0, takes := [], fob := [] } 127 u with
        | .ok (e, r, w) => (match (calibWrite 4 127 e r w).1 with
          | .async .ok _ [] => true
          | _ => false)
        | .error _ => false) = true) := by
  decide +kernel

theorem crcByteR_lt (c : Nat) (b : Byte) (h : c < 2 ^ 32) : crcByteR 0xEDB88320 c b < 2 ^ 32 := by
  have h1 : ∀ c, c < 2 ^ 32 → crcBitR 0xEDB88320 c < 2 ^ 32 := by
    intro c hc
    unfold crcBitR
    split
    · exact Nat.xor_lt_two_pow (by omega) (by decide)
    · omega
  unfold crcByteR
  have h0 : c ^^^ b.toNat < 2 ^ 32 := Nat.xor_lt_two_pow h (by have := b.isLt; omega)
  exact h1 _ (h1 _ (h1 _ (h1 _ (h1 _ (h1 _ (h1 _ (h1 _ h0)))))))

theorem crc32_lt (l : List Byte) : crc32 l < 2 ^ 32 := by
  have h : ∀ (l : List Byte) c, c < 2 ^ 32 → l.foldl (crcByteR 0xEDB88320) c < 2 ^ 32 := by
    intro l
    induction l with
    | nil => intro c h; exact h
    | cons a r ih => intro c h; exact ih _ (crcByteR_lt c a h)
  exact Nat.xor_lt_two_pow (h l _ (by decide)) (by decide)

theorem pageHead_length (c : CalPage) : (pageHead c).length = 252 := by simp [pageHead, render]

theorem pageBody_length (c : CalPage) : (pageBody c).length = 65280 := by
  have h : ((List.range 128).flatMap (fun b => (List.range 128).map (byteAt (Tab.get [] c.entries b)))).length = 16384 := by
    rw [List.length_flatMap]
    simp only [List.length_map, List.length_range]
    simp [List.map_const']
  unfold pageBody
  rw [List.length_append, List.length_append, List.length_append, h, List.length_replicate, List.length_replicate]
  simp [render]

theorem fld_render (n o k : Nat) (l : List Fld) (h : o + k ≤ n) : fld (render n l) o k = leNat ((List.range' o k).map (layByte l)) := by
  unfold fld render
  rw [← List.map_drop, ← List.map_take, List.range_eq_range', List.drop_range']
  have e : List.take k (List.range' (0 + o * 1) (n - o)) = List.range' o k := by
    apply List.ext_getElem
    · simp; omega
    · intro i h1 h2; simp
  rw [e]

theorem pageBytes_sound (c : CalPage) : pageSound (pageBytes c) = true := by
  have h1 := pageHead_length c
  have h2 := pageBody_length c
  have h4 : (toLe 4 (pageCrc c)).length = 4 := rfl
  have e : pageBytes c = pageHead c ++ (toLe 4 (pageCrc c) ++ pageBody c) := by simp [pageBytes, List.append_assoc]
  have hlen : (pageBytes c).length = 65536 := by rw [e, List.length_append, List.length_append, h1, h2, h4]
  have ht : (pageBytes c).take 252 = pageHead c := by rw [e, List.take_left' h1]
  have hd : (pageBytes c).drop 256 = pageBody c := by
    rw [e, ← List.append_assoc, List.drop_left' (by rw [List.length_append, h1, h4])]
  have hf : ∀ o n, o + n ≤ 252 → fld (pageBytes c) o n = fld (pageHead c) o n := by
    intro o n hon
    unfold fld
    rw [e, List.drop_append_of_le_length (by omega), List.take_append_of_le_length (by simp [h1]; omega)]
  have hc : fld (pageBytes c) 252 4 = pageCrc c := by
    unfold fld
    rw [e, List.drop_left' h1, List.take_left' h4]
    have := crc32_lt (pageHead c ++ pageBody c)
    show leNat (toLe 4 (pageCrc c)) = pageCrc c
    simp only [pageCrc, toLe, leNat, BitVec.toNat_ofNat] at *
    omega
  unfold pageSound
  rw [hlen, hf 0 4 (by omega), hf 4 1 (by omega), hc, ht, hd]
  have a1 : fld (pageHead c) 0 4 = 0x43414C42 := by
    unfold pageHead; rw [fld_render _ _ _ _ (by decide)]; simp [List.range', layByte, leNat]
  have a2 : fld (pageHead c) 4 1 = 1 := by
    unfold pageHead; rw [fld_render _ _ _ _ (by decide)]; simp [List.range', layByte, leNat]
  rw [a1, a2]
  simp [pageCrc]

theorem pageBytes_serial (c : CalPage) (h : c.serial < 2 ^ 64) : fld (pageBytes c) 8 8 = c.serial := by
  have h1 := pageHead_length c
  have e : pageBytes c = pageHead c ++ (toLe 4 (pageCrc c) ++ pageBody c) := by simp [pageBytes, List.append_assoc]
  have hf : fld (pageBytes c) 8 8 = fld (pageHead c) 8 8 := by
    unfold fld
    rw [e, List.drop_append_of_le_length (by omega), List.take_append_of_le_length (by simp [h1])]
  rw [hf]
  unfold pageHead
  rw [fld_render _ _ _ _ (by decide)]
  simp only [List.range', List.map_cons, List.map_nil, layByte, leNat]
  simp
  omega

theorem fld_toLe8 (v : Nat) (r : List Byte) (h : v < 2 ^ 64) : fld (toLe 8 v ++ r) 0 8 = v := by
  have h8 : (toLe 8 v).length = 8 := rfl
  unfold fld
  rw [List.drop_zero, List.take_left' h8]
  simp only [toLe, leNat, BitVec.toNat_ofNat]
  omega

/-- A page of this hub, its tail and a signature, as CALIB_IMPORT takes them. -/
def imported : List Byte := pageBytes { serial := Config.serial.toNat } ++ (toLe 8 Config.serial.toNat ++ toLe 8 0) ++ List.replicate 64 0

theorem wit_CalibImport :
    let q := dataEntry 0x0803 [] imported
    let u := taken q (on (hub 2 .watch))
    let page := q.data.take 65536
    let tail := (q.data.drop 65536).take 16
    passes specCalibImport q (hub 2 .watch) = true ∧ q.data.length = 65616 ∧ anyLive u = false ∧ fld tail 0 8 = Config.serial.toNat ∧
      pageSound page = true ∧ fld page 8 8 = Config.serial.toNat ∧ written (pageBurst wholeWrite u) = true := by
  have hs := Config.serial.isLt
  have hl : (pageBytes { serial := Config.serial.toNat }).length = 65536 := by
    have := pageBytes_sound { serial := Config.serial.toNat }
    simp only [pageSound, Bool.and_eq_true, beq_iff_eq] at this
    exact this.1.1.1
  have ht : (imported.drop 65536).take 16 = toLe 8 Config.serial.toNat ++ toLe 8 0 := by
    unfold imported
    rw [List.append_assoc, List.drop_left' hl]
    exact List.take_left' rfl
  have hp : imported.take 65536 = pageBytes { serial := Config.serial.toNat } := by
    unfold imported
    rw [List.append_assoc, List.take_left' hl]
  refine ⟨by decide +kernel, ?_, by decide +kernel, ?_, ?_, ?_, by decide +kernel⟩
  · show imported.length = 65616
    unfold imported
    rw [List.length_append, List.length_append, hl, List.length_replicate]
    rfl
  · show fld ((imported.drop 65536).take 16) 0 8 = _
    rw [ht]
    exact fld_toLe8 _ _ hs
  · show pageSound (imported.take 65536) = true
    rw [hp]; exact pageBytes_sound _
  · show fld (imported.take 65536) 8 8 = _
    rw [hp]; exact pageBytes_serial _ hs

theorem wit_BayAndRegionReads :
    (∀ f ∈ [0, 1, 2, (3 : Byte)], let q := entry 0x0101 [127, 0, f, 0]
      passes specBayStatus q (hub 2 .watch) = true ∧ fromActive q (taken q (on (hub 2 .watch))) = true ∧ 512 ≤ q.room) ∧
    (∀ c ∈ [[0, 16], [15, (1 : Byte)], [16, 0]], let q := entry 0x0109 ([127, 0, 1] ++ c ++ List.replicate 7 0)
      passes specBayTagRead q (hub 2 .watch) = true ∧ fld q.payload 2 1 = 1 ∧ fld q.payload 3 1 + fld q.payload 4 1 ≤ 16 ∧
        64 * fld q.payload 4 1 ≤ q.room) ∧
    passes specRegionStatus (entry 0x0706 [7, 0, 0, 0]) (hub 2 .watch) = true ∧
    passes specComplianceRead (entry 0x0902 []) (hub 2 .watch) = true ∧
    (∀ l ∈ [[7, 0, 0, 0, 255, 255, 1, 0], [7, 1, 127, 0, 0, 0, 0, 0], [7, 2, 0, 0, 0, 0, 0, (0 : Byte)]], let q := entry 0x0905 l
      passes specQueueDump q (hub 2 .watch) = true ∧ fld l 1 1 ≤ 2 ∧ (fld l 1 1 = 1 → regionOf (fld l 2 2) = fld l 0 1) ∧
        (fld l 1 1 = 0 → fld l 4 4 < queuesTotal) ∧ 32 ≤ q.room ∧ ((taken q (on (hub 2 .watch))).region (fld l 0 1)).st ≠ .off) ∧
    (∀ l ∈ [[7, 1, 0, 0, 255, 255, 63, 0], [7, 16, 0, 0, 0, 0, 0, (0 : Byte)]], let q := entry 0x0906 l
      passes specCaptureRead q (hub 1 .watch) = true ∧ 1 ≤ fld l 1 1 ∧ fld l 1 1 ≤ 16 ∧ fld l 4 4 ≤ 0x3FFFFF ∧ 4096 * fld l 1 1 ≤ q.room) := by
  decide +kernel

/-- A hub with one credential, in the last slot. -/
def stored : Hub := { hub 2 .watch with creds := { (hub 2 .watch).creds with slots := Tab.put {} 262143 { tokenId := 9, cls := .c, enrolNo := 1 } {} } }

theorem wit_CredentialAndKeyReads :
    (let q := entry 0x0303 ([2, 0, 0, 0] ++ toLe 4 0 ++ toLe 8 0)
     passes specCredQuery q (hub 2 .watch) = true ∧ (taken q (on (hub 2 .watch))).creds.loading = false ∧
       queried q.payload (taken q (on (hub 2 .watch))) = some none) ∧
    (let q := entry 0x0303 ([0, 0, 0, 0] ++ toLe 4 262143 ++ toLe 8 0)
     passes specCredQuery q stored = true ∧ (taken q (on stored)).creds.loading = false ∧
       queried q.payload (taken q (on stored)) = some (some 262143)) ∧
    (let q := entry 0x0305 [255, 15, 0, 0]
     passes specFleetQuery q stored = true ∧ (taken q (on stored)).creds.loading = false ∧ fld q.payload 0 2 ≤ 4095) ∧
    (∀ f ∈ [0, (1 : Byte)], let q := entry 0x030A [f, 0, 0, 0]
      passes specCredStatus q stored = true ∧ fromActive q (taken q (on stored)) = true) ∧
    passes specKeyStatus (entry 0x0602 []) stored = true ∧
    (let q := entry 0x0603 []
     let h := (hub 2 .watch).setNv (fun v => { v with vault := Tab.put {} (vaultNo 0x13 0) { val := 1, version := 1, present := true } v.vault })
     passes specDeviceKeyGet q h = true ∧ (vaultKey (taken q (on h)) 0x13 0).present = true) := by
  decide +kernel

theorem wit_ReelAndStatusReads :
    (let q := entry 0x0401 (toLe 8 0 ++ toLe 4 1048576)
     passes specLogRead q (hub 2 .watch) = true ∧ 1 ≤ fld q.payload 8 4 ∧ fld q.payload 8 4 ≤ 1048576 ∧ 64 ≤ q.room) ∧
    (∀ f ∈ [0, 1, 2, (3 : Byte)], let q := entry 0x0404 [f, 0, 0, 0]
      passes specLogStatus q (hub 2 .watch) = true ∧ fromActive q (taken q (on (hub 2 .watch))) = true ∧ 36 ≤ q.room) ∧
    passes specDailiesGet (entry 0x0405 []) (hub 2 .watch) = true ∧ passes specTimeGet (entry 0x0502 []) (hub 2 .watch) = true ∧
    passes specPowerStatus (entry 0x0507 []) (hub 2 .watch) = true ∧ passes specVersion (entry 0x0701 []) (hub 2 .watch) = true ∧
    passes specVersion (entry 0x0701 []) { hub 2 .watch with boot := { phase := .rom } } = true ∧
    passes specCalibStatus (entry 0x0804 []) (hub 2 .watch) = true := by
  decide +kernel

theorem wit_ReadingChangesNothing :
    (∃ t, exec (.timeGet (entry 0x0502 [])) (on (hub 2 .watch)) = .next t) ∧
    (∃ t, exec (.bayStatus (entry 0x0101 [127, 0, 1, 0])) (on (hub 2 .watch)) = .next t) ∧ bit (fld (entry 0x0101 [127, 0, 1, 0]).payload 2 1) 1 = false :=
  ⟨⟨_, rfl⟩, ⟨_, rfl⟩, by decide⟩

/-- The hub with port B's link up too. -/
def both (act : Option Port) : Hub :=
  { hub 2 .watch with host := { (hub 2 .watch).host with active := act, portB := { linkUp := true } } }

theorem wit_HostRoles :
    (∀ p ∈ [Port.a, .b],
      ((both none).port p).linkUp = true ∧ (both none).host.active = none ∧
      (let h := (both (some (Port.other p))).setPort (Port.other p) (fun x => { x with linkUp := false })
       (h.port p).linkUp = true ∧ h.host.active = some (Port.other p) ∧ (h.port (Port.other p)).linkUp = false) ∧
      (let h := { both (some (Port.other p)) with now := sec 2, host := { (both (some (Port.other p))).host with hbLapsed := true } }
       (h.port p).linkUp = true ∧ h.host.active = some (Port.other p) ∧ lapsed h = true) ∧
      ((both (some p)).port p).linkUp = true ∧ (both (some p)).host.active = some p) ∧
    (let h := { both (some .b) with now := sec 1 }
     h.host.active ≠ none ∧ h.passed h.host.heartbeat (sec 1) = true) := by
  decide

theorem wit_MailboxRegisters :
    ((hub 2 .watch).port .a).linkUp = true ∧
    (let m := (hub 2 .watch).mailbox (mbxOf .a false)
     subMod 512 ((256 : W32).toNat % 512) m.cmdHead ≤ 256 ∧ subMod 512 m.cmdTail m.cmdHead ≤ subMod 512 ((256 : W32).toNat % 512) m.cmdHead) ∧
    (let m := (hub 2 .watch).mailbox (mbxOf .a true)
     subMod 512 ((0 : W32).toNat % 512) m.rspHead ≤ subMod 512 m.rspTail m.rspHead) ∧
    ((2 : W32).getLsbD 1 = true ∧ (2 : W32).getLsbD 0 = false) ∧ ((1 : W32).getLsbD 1 = false ∧ (1 : W32).getLsbD 0 = true) ∧
    (let n := ((hub 2 .watch).port .a).ntc
     subMod 8192 ((0 : W32).toNat % 8192) n.head ≤ ntcHeld n) := by
  decide

theorem wit_WindowAndLinkRegisters :
    (((hub 2 .watch).port .a).linkUp = true ∧ (hub 2 .watch).host.active = some .a) ∧
    ((hub 1 .watch).lc = factory ∧ ((hub 1 .watch).port .a).linkUp = true ∧ (hub 1 .watch).host.active = some .a) ∧
    (let h := { hub 2 .watch with clk := { (hub 2 .watch).clk with measSince := some 0 }, now := ms 1 }
     clkRuns h = true ∧ h.clk.measSince = some 0 ∧ h.passed 0 (ms 1) = true) ∧
    ((hub 2 .watch).boot.phase ≠ .held ∧ (hub 2 .watch).pwr.chip = .s0) ∧
    ({ hub 2 .watch with rng := {} } : Hub).rng.available = false := by
  decide

theorem wit_SmbusPort :
    (let h := hub 2 .watch
     smbServed h = true ∧ h.host.smb.busy = false ∧ h.host.smb.rspReady = false ∧ 6 ≤ (List.replicate 32 (0 : Byte)).length ∧
       (List.replicate 32 (0 : Byte)).length ≤ 32) ∧
    (let h := (hub 2 .watch).setSmb (fun m => { m with rspReady := true, alertLow := true })
     smbServed h = true ∧ h.host.smb.rspReady = true ∧ h.host.smb.alertLow = true) ∧
    (setPwr (fun p => { p with chip := .s3 }) (hub 2 .watch)).pwr.chip ≠ .s0 := by
  decide

theorem wit_TimerWrites :
    (15 < 16 ∧ ((hub 2 .watch).port .a).linkUp = true ∧ (hub 2 .watch).host.active = some .a) ∧
      ((both (some .b)).port .a).linkUp = true ∧ (both (some .b)).host.active ≠ some .a := by
  decide

/-- A hub whose timer 15 is as given. -/
def timed (t : Timer) : Hub := { hub 2 .watch with tmu := { (hub 2 .watch).tmu with timers := List.replicate 15 {} ++ [t] } }

/-- Of a timer that runs with no prescaling and no link. -/
def running (cnt cmp : W32) : Timer := { ctrl := 1, cnt := cnt, cmp := cmp }

theorem wit_TimerEvents :
    15 < 16 ∧ (timed {}).boot.phase ≠ .held ∧ (timed {}).aon.inS4 = false ∧ nextEvent (timed (running 41 42)) 15 0 = true ∧
      nextEvent (timed (running 0xFFFFFFFF 42)) 15 1 = true ∧
      (let t := (timed { ctrl := 0x2000 }).tmu.timer 15
       t.level = false ∧ t.capEn = true) ∧ (timed {}).tmu.eventAt 15 = false := by
  decide

theorem wit_OverflowSetsItsFlag :
    let u := (timed (running 0xFFFFFFFF 0)).tmu
    let t := u.timer 15
    t.cnt = 0xFFFFFFFF ∧ (u.cycleAt 15 none).cnt = 0 ∧ ¬ (t.modeAt 15 = 1 ∧ u.eventAt 15 = true) ∧ t.cmp = 0 ∧ 15 < u.timers.length := by
  decide

theorem wit_TimerFiresWhileTheHubIdles :
    let s := on (timed (running 41 42))
    let t := s.hub.tmu.timer 15
    15 < 16 ∧ s.pending = [] ∧ s.hub.boot.phase ≠ .held ∧ s.hub.aon.inS4 = false ∧ t.run = true ∧ t.modeAt 15 = 0 ∧ t.pre < 2 ^ t.prescale ∧
      bit t.flags 0 = false := by
  decide

/-- The timer unit after `j` cycles. -/
def after (u : Tmu) : Nat → Tmu
  | 0 => u
  | j + 1 => (after u j).cycle none

theorem after_link (u : Tmu) (j : Nat) : ((after u j).timer 15).link = (u.timer 15).link := by
  induction j with
  | zero => rfl
  | succ j ih => rw [after, cycle_timer _ _ _ (by decide)]; exact ih

theorem wit_CompareFiresAfterExactlyKTicks :
    let w := after (timed (running 41 42)).tmu
    15 < 16 ∧ (∀ j, w (j + 1) = (w j).cycle none) ∧ (∀ j, ((w j).timer 15).modeAt 15 = 1 → (w j).eventAt 15 = false) ∧
      bit ((w 0).timer 15).flags 0 = false ∧
      ∃ ticks : Nat → Nat, ticks 0 = 0 ∧ ∀ j, ticks (j + 1) = ticks j + if ((w (j + 1)).timer 15).cnt = ((w j).timer 15).cnt then 0 else 1 := by
  refine ⟨by decide, fun _ => rfl, fun j h => ?_, by decide, fun j => Nat.rec 0 (fun j t => t +
    if ((after (timed (running 41 42)).tmu (j + 1)).timer 15).cnt = ((after (timed (running 41 42)).tmu j).timer 15).cnt then 0 else 1) j, rfl, fun _ => rfl⟩
  rw [modeAt_congr 15 _ _ (after_link _ j)] at h
  exact absurd h (by decide)

theorem wit_EntriesCheckedInOrder :
    (∀ q m, (Instr.timeGet q, specTimeGet) ∈ hostRows q m) ∧
    (let q := entry 0x0502 []
     let h := hub 2 .watch
     fetches q h = true ∧ q.entryOk = true ∧ q.mbx ≠ .smbus ∧
       (q.op = specTimeGet.op ∧ specTimeGet.mine q = true) ∧ seqOk q (h.mailbox q.mbx) = true ∧ flagsOk q = true ∧ q.op ∈ knownOpcodes ∧
       (consume q h).romRecovery = false ∧ allowed specTimeGet q (consume q h) = true ∧ lengthOk specTimeGet q = true ∧
       targetStatus (specTimeGet.target q.payload) (consume q h) = none ∧ q.dataOk = true ∧ specTimeGet.signed q (consume q h) = false) ∧
    (let h := (hub 2 .watch).setMailbox (.normal .a) (fun m => { m with seqNext := some 3 })
     fetches (entry 0x0502 []) h = true ∧ seqOk (entry 0x0502 []) (h.mailbox (.normal .a)) = false) ∧
    flagsOk { entry 0x0502 [] with flags := 128 } = false ∧
    (entry 0x0A01 []).op ∉ knownOpcodes ∧
    allowed specTimeSet (entry 0x0501 (toLe 8 0)) (consume (entry 0x0501 (toLe 8 0)) { hub 2 .watch with host := { (hub 2 .watch).host with active := none } }) = false ∧
    lengthOk specTimeGet (entry 0x0502 [0]) = false ∧
    targetStatus (specBayStatus.target [128, 0, 0, 0]) (hub 2 .watch) = some .badParam ∧
    (let h := (hub 0 .watch)
     specTimeSet.signed (entry 0x0501 (toLe 8 0)) h = false ∧ commonStatus specTimeSet (entry 0x0501 (toLe 8 0)) h = some .wrongState) := by
  exact ⟨fun _ _ => by simp [hostRows], by decide +kernel⟩

/-- The hub with bay 127 changed. -/
def at127 (f : Bay → Bay) : Hub := (hub 2 .watch).setBay 127 f

/-- Bay 127's port in a state of its link, with its slates. -/
def linked (l : Link) (x : Slates) : Hub := at127 (fun y => { y with link := l, sl := x })

/-- IDENT's payload of a head that the hub can run. -/
def goodIdent : BitVec 248 := BitVec.ofNat 248 (0x81 * 2 ^ 240 + 1 * 2 ^ 200 + 7 * 2 ^ 128 + 0x4 * 2 ^ 124 + 0xF * 2 ^ 120 + 0x8 * 2 ^ 116)

theorem wit_TrainingAndCodewords :
    127 < 128 ∧ 1 < 2 ∧
    (let h := linked { enabled := true } {}
     (h.bay 127).link.state = .down ∧ (h.bay 127).link.trainFails = 0 ∧
       mayTrain (setLink 127 (fun x => { x with signal := true, signalLost := none }) h) 127 = true) ∧
    (let h := { linked { enabled := true, signal := true, trainFails := 1 } {} with now := ms 100 }
     (h.bay 127).link.state = .down ∧ 0 < (h.bay 127).link.trainFails ∧ (h.bay 127).link.signal = true ∧ mayTrain h 127 = true ∧
       h.passed (h.bay 127).link.since (ms 100) = true) ∧
    (let h := linked { state := .training, step := .hello } {}
     let u := setLink 127 (fun x => { x with ident := identOf goodIdent }) h
     (h.bay 127).link.state = .training ∧ pay goodIdent 247 240 = 0x81 ∧ (identOf goodIdent).compatible = true ∧
       duplicateSerial u 127 (identOf goodIdent).serial = false) ∧
    pay (BitVec.ofNat 248 (0x82 * 2 ^ 240 + 5 * 2 ^ 208)) 247 240 = 0x82 ∧ pay (BitVec.ofNat 248 (0x82 * 2 ^ 240 + 5 * 2 ^ 208)) 239 208 = 5 ∧
    (let h := linked { state := .training, step := .echoes } { rep := { lock := true }, timing := { accepted := 16, settled := true, meas := [31948] } }
     (h.bay 127).link.state = .training ∧ 16 ≤ (h.bay 127).sl.timing.accepted ∧ (h.bay 127).sl.rep.lock = true ∧
       (h.bay 127).sl.timing.settled = true ∧ linkDelay h 127 ≤ 31948) ∧
    (∀ st ∈ [TrainStep.adapt, .equalise, .hello, .limits, .go, .echoes],
      let h := { linked { state := .training, step := st } {} with now := sec 10 }
      h.passed (h.bay 127).link.since (h.bay 127).link.step.limit = true) ∧
    (let x : CwLock := {}
     x.locked = false ∧ x.goodRun = 0 ∧ (List.replicate 4 Cw.clean).length = 4 ∧ Cw.bad ∉ List.replicate 4 Cw.clean) := by
  decide +kernel

/-- A cue whose echo is due at clapper tick 5. -/
def lateCue : Cue := { opc := 1, cseq := 0, exec := 0, win := 0, imm := false, arg := 0, why := .radio, due := some 5 }

theorem wit_LinkLimits :
    (let h := { linked { state := .up } {} with now := us 100 }
     (h.bay 127).link.state = .up ∧ h.passed (h.bay 127).link.lastGood (us 100) = true) ∧
    (let h := { linked { state := .up } { outstanding := [lateCue], credits := { emptySince := some 0 } } with now := ms 10 }
     (h.bay 127).sl.credits.emptySince = some 0 ∧ isUp h 127 = true ∧ h.passed 0 (ms 10) = true ∧ (h.bay 127).sl.outstanding ≠ []) ∧
    (let h := { linked { state := .up } { outstanding := [lateCue] } with clap := 10 ^ 12 }
     (h.bay 127).sl.outstanding = [lateCue] ∧ lateCue.due = some 5 ∧ 5 < h.ticks) ∧
    (let h := linked { state := .drowse } {}
     (h.bay 127).link.state = .drowse ∧ (h.bay 127).link.cw.locked = false) ∧
    (let h := { linked { state := .drowse, cw := { locked := true } } {} with now := ms 3 }
     (h.bay 127).link.state = .drowse ∧ h.passed (h.bay 127).link.lastGood (ms 3) = true) ∧
    (let h := { linked { state := .fault, reason := .crcBurst } {} with now := ms 10 }
     (h.bay 127).link.state = .fault ∧ (h.bay 127).link.reason ≠ .incompatible ∧ (h.bay 127).link.reason ≠ .duplicate ∧
       h.passed (h.bay 127).link.since (ms 10) = true) ∧
    (∀ rs ∈ [LinkReason.incompatible, .duplicate], let h := { linked { state := .fault, reason := rs, signalLost := some 0 } {} with now := ms 10 }
     (h.bay 127).link.state = .fault ∧ ((h.bay 127).link.reason = .incompatible ∨ (h.bay 127).link.reason = .duplicate) ∧
       (h.bay 127).link.signalLost = some 0 ∧ h.passed 0 (ms 10) = true) ∧
    (let h := linked { state := .fault, reason := .duplicate } {}
     (h.bay 127).link.state = .fault ∧ (h.bay 127).link.reason = .duplicate ∧ (h.bay 127).link.signalLost = none) := by
  decide +kernel

theorem crcFrom_add (m n v c : Nat) : crcFrom (m + n) v c = crcFrom n v (crcFrom m (v / 2 ^ n) c) := by
  induction m generalizing c with
  | zero => simp [crcFrom]
  | succ m ih =>
    have e : bit v (m + n) = bit (v / 2 ^ n) m := by simp [bit, Nat.testBit_div_two_pow]
    rw [Nat.add_right_comm, crcFrom, crcFrom, ih, e]

/-- The check value of the CRC-32 of R84, bits in sending order, over the digits 1 to 9. -/
theorem test_slateCrc : crcBits 72 0x313233343536373839 = 0xFC891918 := by decide +kernel

theorem crcHolds_of {u : UpSlate} {n : Nat} (hn : 256 * u.blocks.length - 32 = n) (hb : u.blocks ≠ [])
    (hc : crcBits n (slateBits u.blocks / 2 ^ 32) = slateBits u.blocks % 2 ^ 32) : crcHolds u = true := by
  unfold crcHolds
  simp only [hn, hc, decide_eq_true hb, beq_self_eq_true, Bool.and_true]

/-- An AUX slate of zeros but for its STYPE, with the CRC given. -/
def auxSlate (crc : Nat) : UpSlate :=
  { blocks := [BitVec.ofNat 256 (3 * 2 ^ 252), 0, 0, BitVec.ofNat 256 crc], arrival := 0, coil := [], card := none }

theorem auxSlate_crc : crcHolds (auxSlate 3428587024) = true := by
  have hc : crcBits (248 + (248 + (248 + 248))) (slateBits (auxSlate 3428587024).blocks / 2 ^ 32) = 3428587024 := by
    have e : slateBits (auxSlate 3428587024).blocks / 2 ^ 32 = 3 * 2 ^ 988 := by decide +kernel
    have ex : 3 * 2 ^ 988 / 2 ^ (248 + (248 + 248)) = 3 * 2 ^ 244 := by decide +kernel
    have ey : 3 * 2 ^ 988 / 2 ^ (248 + 248) = 3 * 2 ^ 492 := by decide +kernel
    have ez : 3 * 2 ^ 988 / 2 ^ 248 = 3 * 2 ^ 740 := by decide +kernel
    have e1 : crcFrom 248 (3 * 2 ^ 244) 0xFFFFFFFF = 3245173339 := by decide +kernel
    have e2 : crcFrom 248 (3 * 2 ^ 492) 3245173339 = 1539569639 := by decide +kernel
    have e3 : crcFrom 248 (3 * 2 ^ 740) 1539569639 = 2238111542 := by decide +kernel
    have e4 : crcFrom 248 (3 * 2 ^ 988) 2238111542 = 866380271 := by decide +kernel
    rw [e, crcBits, crcFrom_add, crcFrom_add, crcFrom_add, ex, ey, ez, e1, e2, e3, e4]
    rfl
  have hm : slateBits (auxSlate 3428587024).blocks % 2 ^ 32 = 3428587024 := by decide +kernel
  exact crcHolds_of (n := 248 + (248 + (248 + 248))) (by decide +kernel) (by decide +kernel) (hc.trans hm.symm)

theorem wit_SlatesArrive :
    let u := auxSlate 3428587024
    let h := linked { state := .up } { upFmt := 2 }
    let v := slateBits u.blocks
    let styp := bits (v / 2 ^ (256 * u.blocks.length - 128)) 127 124
    slatesDown (h.bay 127).link = true ∧ crcHolds u = true ∧ styp = (h.bay 127).sl.upFmt + 1 ∧ u.blocks.length = upBlocks styp ∧ bits v 735 732 ≤ 10 ∧
      crcHolds { u with blocks := [1] } = false := by
  exact ⟨by decide +kernel, auxSlate_crc, by decide +kernel, by decide +kernel, by decide +kernel, by decide +kernel⟩

theorem wit_SlatesAndDrowse :
    (let h := (linked { state := .up } {}).setBay 127 (fun x => { x with st := .dark, link := { state := .up } })
     isUp h 127 = true ∧ wantsDrowse h 127 = true ∧ (h.bay 127).sl.toSend = [] ∧ (h.bay 127).sl.outstanding = []) ∧
    (let d := BitVec.ofNat 248 (0x81 * 2 ^ 240)
     let h := linked { state := .up } { drowseTold := true }
     let w := linked { state := .drowse } {}
     pay d 247 240 = 0x81 ∧ bit d.toNat 175 = false ∧ (h.bay 127).link.state = .up ∧ (h.bay 127).sl.drowseTold = true ∧
       (w.bay 127).link.state = .drowse ∧ pay d 207 192 = (w.bay 127).sl.timing.markNum) ∧
    (let h := linked { state := .drowse } {}
     (h.bay 127).link.state = .drowse ∧ wantsUp h 127 = true ∧ (h.bay 127).link.wakeAt = none) ∧
    (let h := hub 2 .watch
     (h.region 7).wakeMasked = false ∧ h.pwr.chip = .s0 ∧ (h.region 7).st ≠ .off ∧ (h.region 7).power ≠ .s2 ∧ (h.region 7).wakeLow = false) ∧
    (let h := (hub 2 .watch).setRegion 7 (fun x => { x with wakeLow := true, wakeQueries := 3 })
     let h := { h with now := ms 1 }
     (h.region 7).wakeLow = true ∧ (h.region 7).wakeMasked = false ∧ 3 ≤ (h.region 7).wakeQueries ∧ h.passed (h.region 7).wakeQueryAt (ms 1) = true) := by
  decide +kernel

theorem wit_CallSheetRuns :
    ((hub 2 .watch).slotDone ≤ (hub 2 .watch).slot ∧ (hub 2 .watch).fwReady = true) ∧
    (let h := (hub 2 .watch).setRegion 7 (fun x => { x with seqRuns := true })
     let h := { h with clap := (slotTicks - ticksUs 25) * 125000000000 }
     sheetRuns h 7 = true ∧ (h.region 7).frozen ≤ h.slot + 1 ∧ (h.slot + 1) * slotTicks ≤ h.ticks + ticksUs 25) ∧
    (((hub 2 .watch).region (regionOf 127)).st ≠ .off ∧ (hub 2 .watch).bayPresent 127 = true) ∧
    (let h := (linked { state := .up } {}).setBay 127 (fun x => { x with link := { state := .up }, radio := { copy := .standby } })
     isUp h 127 = true ∧ (h.bay 127).radio.calDue = false ∧ calNeeded h 127 = true ∧ (h.region (regionOf 127)).st = .active ∧
       (h.bay 127).radio.copy = .standby) ∧
    (let e := nth {} ((hub 2 .watch).region 7).engines 7
     135 < 136 ∧ 135 ∉ e.retired ∧ 15 < 16 ∧ 15 ∉ e.held ∧ e.out = false) ∧
    (((hub 2 .watch).region 7).power ≠ .s2 ∧ ((hub 2 .watch).region 7).power ≠ .off) := by
  decide +kernel

/-- A take whose POLL goes out in slot 2. -/
def liveTake (st : TakeStage) : Take := { takeNo := 1, stage := st, due := 1, latest := 3, q := 5, pollSlot := 2, tPoll := 2 * slotTicks, width := 25 }

/-- Its item in region 7, granted. -/
def takeItem : Item :=
  { q := 5, kind := .take, cls := .ranging, bay := 127, what := .take, earliest := 1, latest := 3, order := 1, granted := true, start := 2 }

/-- Bay 127 with a take and a class V dialogue; region 7 with its item. -/
def taking (st : TakeStage) : Hub :=
  (at127 (fun x => { x with take := some (liveTake st), dlgV := some dialogue })).setRegion 7 (fun x => { x with items := [takeItem] })

/-- A burst of item 5, whole or not. -/
def staging (desc : Bool) : Burst :=
  { kind := .poll, q := 5, first := 2 * slotTicks, slates := 64, pulses := 100, stsChips := 8, stsReady := 8, desc := desc, antenna := 0
    backToRx := true, win := 0 }

/-- The same with the take's SETUP staged and the region's coexistence as given. -/
def airing (x : Coex) : Hub :=
  ((taking .granted).setBay 127 (fun y => { y with radio := { staged := some { staging true with kind := .setup } } })).setRegion 7
    (fun y => { y with coex := x })

theorem wit_AirAndGrants :
    (let h := { airing { enabled := true } with clap := (2 * slotTicks - ticksUs 20) * 125000000000 }
     ∃ t, airOf h 7 5 = some t ∧ (h.region 7).coex.enabled = true ∧ 5 ∉ (h.region 7).coex.covered ∧ t ≤ h.ticks + ticksUs 20) ∧
    (let h := { airing { enabled := true, covered := [5] } with clap := (2 * slotTicks - ticksUs 2) * 125000000000 }
     ∃ t, airOf h 7 5 = some t ∧ (h.region 7).coex.enabled = true ∧ 5 ∈ (h.region 7).coex.covered ∧ 5 ∉ (h.region 7).coex.clear ∧
       t ≤ h.ticks + grantLead h (airBay h 7 5) ∧ 5 < queuesTotal) ∧
    ((hub 2 .watch).region 7).coex.enabled = false ∧
    (let h := (hub 2 .watch).setRegion 7 (fun y => { y with coex := { covered := [5] } })
     (∀ k ∈ (h.region 7).coex.covered, stillCovered h 7 k = false) ∧ (∀ i ∈ h.items 7, airOf h 7 i.q = none) ∧
       ∀ k, k < 16 → airOf h 7 (queuesTotal + k) = none) ∧
    (∀ d ∈ [true, false],
      let u := staging d
      let h := at127 (fun x => { x with radio := { staged := some u } })
      let h := { h with clap := (2 * slotTicks - 5120) * 125000000000 }
      (h.bay 127).radio.staged = some u ∧ u.first / slateTicks * slateTicks ≤ h.ticks + launchLead h 127 + slateTicks ∧
        mayAir h (regionOf 127) u.q = true ∧ (h.bay 127).sl.emitStop = false ∧ u.desc = d ∧ u.stsChips ≤ u.stsReady ∧
        burstAllowed (limits h) (h.bay 127).radio u = false ∧ burstAllowed (limits (licensed h)) (h.bay 127).radio u = true) := by
  refine ⟨⟨2 * slotTicks, by decide +kernel⟩, ⟨2 * slotTicks, by decide +kernel⟩, by decide +kernel, by decide +kernel, by decide +kernel⟩

/-- A packet's bytes: its type and its two hubs. -/
def packet (t own lis : Nat) : SightMsg := { body := toLe 32 (t * 2 ^ 252 + own * 2 ^ 249 + lis * 2 ^ 226 + 127 * 2 ^ 219) }

theorem wit_SightingTraffic :
    (hub 2 .watch).fwReady = true ∧ (hub 2 .watch).hubIndex = 0 ∧
      ∀ pt ∈ [ptListen, ptSighting, ptDecline, ptCancel],
        (packet pt 0 0).body.length = 32 ∧ (Packet.ofBytes (packet pt 0 0).body).ptype = pt ∧ (Packet.ofBytes (packet pt 0 0).body).dest = 0 ∧
        (Packet.ofBytes (packet pt 7 7).body).ptype = pt ∧ (Packet.ofBytes (packet pt 7 7).body).dest ≠ 0 := by
  decide +kernel

/-- Taps that are 0 but for one. -/
def spike (n i : Nat) (v : Int) : List Tap := (List.range n).map (fun k => { re := if k = i then v else 0, im := 0 })

/-- One antenna: 25 in each of symbols 1 to 48 at tap 64, `v` in each later symbol at tap `i` of the fine window, the STS at its tap `k`. -/
def cirOf (i : Nat) (v : Int) (k : Nat) : AntCir :=
  { taps := (List.range 256).map (fun j =>
      { syms := List.replicate 48 { re := if j = 64 then 25 else 0, im := 0 } ++ List.replicate 16 { re := if j = 56 + i then v else 0, im := 0 }
        sts := { re := if j = 56 + k then 1000 else 0, im := 0 } }) }

/-- A RESPONSE as the groups correlate it. -/
def response (i : Nat) (v : Int) (k : Nat) : RespCir := { ants := List.replicate 4 (cirOf i v k), badMode := false }

/-- What is found of it on TX_ANT of the take. -/
def heardOf (c : RespCir) : RespMeas := respSeen (liveTake .polled).tPoll (liveTake .polled).width 0 c

theorem wit_TakeAndListen :
    (let h := { taking .polled with clap := (2 * slotTicks + replyTicks) * 125000000000 }
     let t := liveTake .polled
     127 < 128 ∧ (h.bay 127).take = some t ∧ (h.bay 127).dlgV = some dialogue ∧ t.stage = .polled ∧ t.tPoll + replyTicks - ticksUs 1 ≤ h.ticks) ∧
    ((liveTake .polled).txAnt dialogue.cfg = 0 ∧ respFails dialogue.cfg.stsUnits (heardOf { ants := [], badMode := false }) = some .noResponse ∧
      respFails dialogue.cfg.stsUnits (heardOf (response 8 63 10)) = some .stsLow ∧
      respFails dialogue.cfg.stsUnits (heardOf (response 8 6 11)) = some .stsMismatch ∧
      respFails dialogue.cfg.stsUnits (heardOf (response 8 6 10)) = none) ∧
    (let h := { taking .finished with clap := (2 * slotTicks + ticksUs 900) * 125000000000 }
     let t := liveTake .finished
     (h.bay 127).take = some t ∧ (h.bay 127).dlgV = some dialogue ∧ t.stage = .finished ∧
       (((roundTicks * 256 + 256 * ticksUs 1 : Nat) : Int) - (t.meas.tResp + (roundTicks : Int) * 256)).natAbs ≤ 256 * ticksUs 1 ∧
       t.tPoll + ticksUs 900 ≤ h.ticks ∧ readReport dialogue 127 t [] = none) ∧
    (let t : Take := { liveTake .done with outcome := some .takeOk, closeSlot := 3 }
     let h := { at127 (fun x => { x with take := some t, dlgV := some dialogue }) with clap := 4 * slotTicks * 125000000000 }
     t.ok = true ∧ t.closed = false ∧ t.closeSlot < h.slot ∧ t.rapid = false) ∧
    (let l : ListenReq := { ownHub := 0, ownHandle := 9, sweep := 1, bay := 127 }
     let it : Item := { takeItem with what := .listen 0 9, start := 0 }
     let h := (hub 2 .watch).setRegion 7 (fun x => { x with items := [it], listens := [l] })
     let h := { h with clap := slotTicks * 125000000000 * 4 }
     h.item 7 5 = some it ∧ listenFor h it = some l ∧ it.granted = true ∧ it.start ≤ h.slot ∧ listenPoll it + ticksUs 260 ≤ h.ticks) ∧
    headToa none 9 25 (listenSeen (listenPoll takeItem) 25 { ants := (response 8 6 10).ants, badMode := false, lost := false }).ants ≠ none ∧
    headToa none 9 25 (listenSeen (listenPoll takeItem) 25 { ants := [], badMode := false, lost := false }).ants = none := by
  decide +kernel

theorem wit_RapidExchangeRuns :
    (let x : Rapid := { takeNo := 1, q := 6 }
     let i : Item := { takeItem with q := 6, what := .rapid, start := 0 }
     let h := (at127 (fun y => { y with take := some (liveTake .done), rapid := some x, dlgV := some dialogue })).setRegion 7 (fun y => { y with items := [i] })
     (h.bay 127).take = some (liveTake .done) ∧ (h.bay 127).rapid = some x ∧ (h.bay 127).dlgV = some dialogue ∧ x.outcome = none ∧
       x.ready = false ∧ h.item (regionOf 127) x.q = some i ∧ i.granted = true ∧ i.start ≤ h.slot) ∧
    (∀ n ∈ [0, 31], let x : Rapid := { takeNo := 1, q := 6, started := true, round := n }
     let h := at127 (fun y => { y with take := some (liveTake .done), rapid := some x, dlgV := some dialogue })
     (h.bay 127).take = some (liveTake .done) ∧ (h.bay 127).rapid = some x ∧ (h.bay 127).dlgV = some dialogue ∧ x.outcome = none ∧ x.started = true) := by
  decide +kernel

/-- A dialogue with its verdict since the start. -/
def judged (v : Verdict) : Dialogue := { dialogue with verdict := v, limitFrom := some 0 }

/-- A blink of token 9, heard on antenna 0 of bays 126 and 127. -/
def blinkOf : BlinkMsg := { payload := 1 :: toLe 8 9 ++ [0, 0, 0, 0], badMode := false, heard := [(126, [some 9, none, none, none]), (127, [some 5, none, none, none])] }

/-- Bays 126 and 127 with free listen windows open. -/
def listening : Hub :=
  let it := fun q b => ({ takeItem with q := q, bay := b, what := .listenFree, start := 0 } : Item)
  (((hub 2 .watch).setRegion 7 (fun x => { x with items := [it 1 126, it 2 127] })).setBay 127 (fun x => { x with radio := { copy := .rx } })).setBay 126
    (fun x => { x with radio := { copy := .rx } })

theorem wit_WatchLimitsAndBlinks :
    (∀ k ∈ [TokenClass.v, .c, .f], let h := { at127 (fun x => { x with dlgV := some (judged .lost), dlgC := some (judged .lost), dlgF := some (judged .lost) }) with now := sec 60 }
      (h.bay 127).dlg k = some (judged .lost) ∧ h.passed (judged .lost).since (sec 10) = true ∧
        h.passed 0 (sec (judged .lost).bcfg.engageLimit) = true ∧ Machine.inSession (h.bay 127) (judged .lost) = false) ∧
    (let d := judged .contested
     let h := { at127 (fun x => { x with dlgV := some d, sess := some { session .charging with slots := [0] } }) with now := sec 10 }
     (h.bay 127).dlg .v = some d ∧ h.passed d.since (sec 10) = true ∧ Machine.inSession (h.bay 127) d = true) ∧
    (let h := { at127 (fun x => { x with link := { ident := { hasCap := true } }, poll := { x.poll with cfg := { x.poll.cfg with policy := .capacitive } } }) with now := sec 30 }
     watchIdle h 127 = true ∧ effectivePolicy (h.bay 127) = .capacitive ∧ h.passed (h.bay 127).poll.holdFrom (sec (h.bay 127).poll.cfg.watchHold) = true) ∧
    (let h := { hub 2 .watch with aon := { (hub 2 .watch).aon with rtc := 6 * 604800 } }
     watchIdle h 127 = true ∧ effectivePolicy (h.bay 127) = .continuous ∧ 0 < (h.bay 127).poll.cfg.darkWeeks ∧
       (h.bay 127).poll.darkFrom + ((h.bay 127).poll.cfg.darkWeeks * 604800 : Nat) ≤ (h.aon.rtc : Int)) ∧
    (let h := { at127 (fun x => { x with hf := { extField := true, belowSince := some 0 } }) with now := us 100 }
     (h.bay 127).hf.belowSince = some 0 ∧ (h.bay 127).hf.extField = true ∧ h.passed 0 (us 100) = true) ∧
    (blinkOf.badMode = false ∧ blinkOf.payload.length = 13 ∧ byteAt blinkOf.payload 0 = 0x01 ∧ fld blinkOf.payload 1 8 = 9 ∧
      (hub 2 .watch).creds.loading = false ∧ blinkHeard blinkOf (hub 2 .watch) = []) ∧
    (let h := listening
     let e := h.setBay 126 (fun x => { x with dlgV := some dialogue })
     h.creds.loading = false ∧ (blinkHeard blinkOf h).map (·.1) = [126, 127] ∧ engagedAt h .v 9 = none ∧ inBackoff h .v 9 = false ∧
       e.creds.loading = false ∧ (blinkHeard blinkOf e).map (·.1) = [126, 127] ∧ engagedAt e .v 9 = some 126) ∧
    (let h := { listening with creds := { listening.creds with backoff := [{ cls := .v, token := 9, times := [], until_ := some 1 }] } }
     (blinkHeard blinkOf h).map (·.1) = [126, 127] ∧ engagedAt h .v 9 = none ∧ inBackoff h .v 9 = true) := by
  decide +kernel

/-- A dialogue that waits for a reply until clapper tick 5. -/
def awaiting (p : AuthPhase) : Dialogue := { dialogue with auth := { phase := p, window := 5 } }

/-- A fob frame of token 9 with its CRC. -/
def fob (crc : List Byte) : FobHeard := { frame := [0, 0, 0, 9, 0, 0, 0, 0, 0, 0, 0, 0, 0, 0] ++ crc, band := 0, heard := [(127, 80000)] }

theorem wit_AuthRepliesJudged :
    (∀ k ∈ [TokenClass.v, .c, .f], ∀ p ∈ [AuthPhase.auth1, .auth3],
      let h := at127 (fun x => { x with dlgV := some (awaiting p), dlgC := some (awaiting p), dlgF := some (awaiting p) })
      awaits h 127 k p = true ∧ (h.bay 127).dlg k = some (awaiting p) ∧ (awaiting p).auth.window ≠ 0 ∧ (h.bay 127).hf.txn = none) ∧
    (awaiting .auth1).auth.window ≤ ({ hub 2 .watch with clap := 5 * 125000000000 } : Hub).ticks ∧
    (let h := { (hub 2 .watch).setEng (fun e => { e with retry := [(.credBlock 8191, 0)] }) with now := ms 100 }
     h.eng.retry.find? (fun p => p.1 == .credBlock (262143 / 32)) = some (.credBlock 8191, 0) ∧ h.passed 0 (ms 100) = true ∧ h.eng.mainPresent = true) ∧
    (let it : Item := { takeItem with what := .lfTelegram, start := 0 }
     let h := (hub 2 .watch).setRegion 7 (fun x => { x with items := [it] })
     let h := { h with clap := telegramSlots * slotTicks * 125000000000 }
     let e := h.setBay 127 (fun x => { x with dlgF := some dialogue })
     let g := fob [0xD3, 0xAD]
     let bad := fob [0, 0]
     (g.frame.length = 16 ∧ bad.frame.length = 16 ∧ h.creds.loading = false ∧ fobHeard g (hub 2 .watch) = []) ∧
       (fobHeard g h).map (·.1) = [127] ∧ (fobHeard bad h).map (·.1) = [127] ∧ crc16 (g.frame.take 14) = beNat (g.frame.drop 14) ∧
       crc16 (bad.frame.take 14) ≠ beNat (bad.frame.drop 14) ∧ ((fobBay (fobHeard g e)).map (·.1)) = some 127 ∧
       engagedAt e .f (beNat (g.frame.take 4)) = some 127 ∧ inBackoff e .f 9 = false) := by
  decide +kernel

/-- Bay 127 with its HF side changed. -/
def fielded (f : Hf → Hf) : Hub := at127 (fun x =>
  { x with hf := f { img := { enable := true }, extField := true, listen := true, uid := some 5, blk := { dep := true } } })

theorem wit_TagField :
    (let h := { (fielded id).setBay 127 (fun x => { x with link := { state := .up }, poll := { x.poll with cfg := { x.poll.cfg with hfMode := .continuousField } } }) with now := ms 400 }
     (h.bay 127).st = .watch ∧ (h.bay 127).poll.cfg.hfMode = .continuousField ∧ (h.bay 127).hf.img.enable = true ∧ (h.bay 127).hf.gapTo = none ∧
       readerBusy h 127 = false ∧ h.passed (h.bay 127).hf.gapLast (ms 400) = true ∧ isUp h 127 = true) ∧
    (∀ halted ∈ [true, false], let h := fielded (fun x => { x with halted := halted })
     tagListens h 127 = true ∧ (h.bay 127).hf.active = false ∧ (h.bay 127).hf.halted = halted ∧ (holdCoil 127 h).isSome = true) ∧
    (let h := fielded (fun x => { x with active := true })
     tagListens h 127 = true ∧ (h.bay 127).hf.active = true) ∧
    (let h := { fielded (fun x => { x with owned := true, ownEnd := some 5 }) with now := 5 }
     (h.bay 127).hf.ownEnd = some 5 ∧ (h.bay 127).hf.owned = true ∧ 5 ≤ h.now) ∧
    (let w : WireWrite := { received := 0, op := 2, first := 1, data := [], arg := 0, password := 0, ref := refOf specBayTagWrite (entry 0x0109 []) }
     let h := { fielded (fun x => { x with wire := [w] }) with now := ms 250 }
     (h.bay 127).hf.wire = [w] ∧ h.passed w.received (ms 250) = true) ∧
    (∀ k ∈ [(0, ActStep.wupa, 0), (0, .wupb, 0), (1, .wupa, 0), (2, .wupa, 1), (2, .wupa, 2), (3, .wupa, 2)],
     let t : ReaderTxn := { kind := k.1, step := k.2.1, retries := k.2.2, deadline := 5, limit := 9 }
     let h := { fielded (fun x => { x with txn := some t }) with now := 5 }
     (h.bay 127).hf.txn = some t ∧ t.deadline ≤ h.now ∧ h.now < t.limit ∧ t.kind = k.1 ∧ t.step = k.2.1 ∧ t.retries = k.2.2 ∧
       (h.bay 127).hf.card = none) := by
  decide +kernel

/-- Bay 127's tag, selected, in SECURED or OPEN, with the password and the AES key set and a challenge out. -/
def tagged (sec : Bool) (f : Option TagFile) : Hub :=
  (fielded (fun x => { x with active := true, appSel := true, file := f, secured := sec, challenge := some 7
                              img := { enable := true, pwSet := true, aesSet := true } })).setNv (fun v =>
    { v with vault := [(vaultNo 0x06 127, { val := 1, version := 1, present := true }), (vaultNo 0x07 127, { val := 1, version := 1, present := true })] })

theorem wit_TagSelects :
    let h := tagged false none
    let a : List Byte := [0, 0xA4, 4, 0, 7, 0xD2, 0x76, 0x00, 0x00, 0x85, 0x01, 0x01]
    let f : List Byte := [0, 0xA4, 0, 0x0C, 2, 0xE1, 5]
    (h.bay 127).hf.active = true ∧ (h.bay 127).hf.blk.dep = true ∧ tagListens h 127 = true ∧ (h.bay 127).hf.appSel = true ∧
      wholeApdu h 127 a = a ∧ byteAt a 0 = 0 ∧ fld a 1 1 = 0xA4 ∧ fld a 2 1 = 4 ∧ fld a 3 1 = 0 ∧ apduData a = some ndefAid ∧
      fld f 1 1 = 0xA4 ∧ fld f 2 1 = 0 ∧ fld f 3 1 = 0x0C ∧ apduData f = some [0xE1, 5] ∧ tagFile [0xE1, 5] = some .e105 := by
  decide +kernel

theorem wit_TagReadsAndUpdates :
    let a : List Byte := [0, 0xB0, 0, 138, 246]
    let u : List Byte := [0, 0xD6, 0, 138, 246] ++ List.replicate 246 1
    (∀ sec ∈ [true, false], let h := tagged sec (some .e105)
     tagListens h 127 = true ∧ (h.bay 127).hf.file = some .e105 ∧ (h.bay 127).hf.secured = sec) ∧
    (fld a 1 1 = 0xB0 ∧ a.length = 5 ∧ 1 ≤ fld a 4 1 ∧ fld a 4 1 ≤ 246 ∧ p1p2 a + fld a 4 1 ≤ TagFile.e105.span.2) ∧
    fld u 1 1 = 0xD6 ∧ apduData u = some (List.replicate 246 1) ∧ p1p2 u + 246 ≤ 384 := by
  decide +kernel

theorem wit_TagKeys :
    let h := tagged false none
    let v : List Byte := [0, 0x20, 0, 1, 4, 1, 0, 0, 0]
    let g : List Byte := [0, 0x84, 0, 0, 16]
    let x : List Byte := [0, 0x82, 0, 1, 32] ++ List.replicate 32 1
    (fld v 1 1 = 0x20 ∧ p1p2 v = 1 ∧ (h.bay 127).hf.img.pwSet = true ∧ (tagPassword h 127).present = true ∧
      tagFail h 127 < 8 + (h.bay 127).hf.img.failBase ∧ (h.bay 127).hf.img.failBase ≤ tagFail h 127 ∧ apduData v = some [1, 0, 0, 0]) ∧
    (fld g 1 1 = 0x84 ∧ p1p2 g = 0 ∧ g.length = 5 ∧ fld g 4 1 = 16) ∧
    fld x 1 1 = 0x82 ∧ p1p2 x = 1 ∧ (h.bay 127).hf.img.aesSet = true ∧ (tagKey h 127).present = true ∧ apduData x = some (List.replicate 32 1) ∧
      (h.bay 127).hf.challenge = some 7 := by
  decide +kernel

/-- Bay 127 with its release changed. -/
def releasing (f : Rel → Rel) : Hub := at127 (fun x => { x with rel := f { x.rel with cfg := { x.rel.cfg with enable := true } } })

/-- Region 7's bus changed. -/
def bused (f : RelBus → RelBus) (h : Hub) : Hub := h.setRegion 7 (fun x => { x with bus := f x.bus })

theorem wit_ReleaseFrames :
    (let h := { releasing id with clap := 930 * slotTicks * 125000000000 }
     boundaryDue h 127 = true) ∧
    (∀ late ∈ [true, false], let h := { releasing (fun r => { r with txSince := some 0, txLate := late }) with now := ms 5 }
     (h.rel 127).txSince = some 0 ∧ h.passed 0 (ms 5) = true ∧ (h.rel 127).txLate = late) ∧
    (let h := bused (fun u => { u with stbyHigh := false, cutFrames := [(127, [])], cutsOpen := [127] }) (hub 2 .watch)
     busSends h (regionOf 127) = true ∧ (127, ([] : List Byte)) ∈ (h.region (regionOf 127)).bus.cutFrames ∧ 127 ∈ (h.region (regionOf 127)).bus.cutsOpen) ∧
    (let x : Session := { session .holding with holdAt := some 0 }
     let h := { at127 (fun y => { y with sess := some x }) with now := ms 2000 }
     (h.bay 127).sess = some x ∧ x.phase = .holding ∧ x.holdAt = some 0 ∧ h.passed 0 (ms (100 * x.holdTime)) = true) := by
  decide +kernel

theorem wit_BusFramesAndBusOff :
    (let h := bused (fun u => { u with stbyHigh := false }) (hub 2 .watch)
     busHears h 7 = true ∧ (h.region 7).bus.busOff = none ∧ 0x30F / 16 = 0x30 ∧ 0x08F / 16 = 0x08 ∧ 0x28F / 16 = 0x28 ∧ 0x29F / 16 = 0x29 ∧
       0x31F / 16 ∉ [0x08, 0x28, 0x29, 0x30]) ∧
    (let h := { inSession .charging .charging with now := sec 30 }
     isCharging h 127 = true ∧ h.passed (h.rel 127).lastStatus (sec 3) = true ∧ h.passed (h.rel 127).lastMeter (sec 30) = true) ∧
    (let h := { releasing (fun r => { r with meterA := some ([], 0), req := some { kind := .spot, nonce := 1, deadline := 5 } }) with now := ms 10 }
     (h.rel 127).meterA = some ([], 0) ∧ h.passed 0 (ms 10) = true ∧ (h.rel 127).req = some { kind := .spot, nonce := 1, deadline := 5 } ∧ 5 ≤ h.now) ∧
    (let h := { bused (fun u => { u with busOff := some 0 }) (inSession .charging .charging) with now := ms 101 }
     (h.region 7).bus.busOff = some 0 ∧ shortestInterval h 7 = some 100 ∧ (h.region 7).bus.busOffTold = false ∧ h.passed 0 (ms 100 + 1) = true) := by
  decide +kernel

/-- The hub with its commit engine changed. -/
def engined (f : Engine2 → Engine2) : Hub := (hub 2 .watch).setEng f

theorem wit_CommitEngine :
    (let h := engined (fun e => { e with queue := [.detectTimes, .seal 127] })
     h.fwReady = true ∧ h.pwr.chip ≠ .s3 ∧ h.eng.mainLost = false ∧ nvPick h h.eng.queue = some (.seal 127, [.detectTimes])) ∧
    (engined (fun e => { e with mainLost := true })).eng.mainLost = true ∧ (hub 2 .watch).eng.dailiesAt ≤ (hub 2 .watch).aon.rtc ∧
    (let h := (hub 2 .watch).setNv (fun v => { v with journal := { v.journal with used := journalSlots - 448 } })
     jErased h.nv.journal < 8 ∧ ∀ p ∈ h.eng.retry, p.1 ≠ .journalCopy) ∧
    ((hub 2 .watch).boot.phase ≠ .held ∧ (hub 2 .watch).pwr.chip ≠ .s3) ∧
    (∀ w ∈ [NvWhat.seal 127, .relRange 127, .recoverDone], let h := { engined (fun e => { e with retry := [(w, 0)] }) with now := ms 100 }
     h.eng.retry = [(w, 0)] ∧ h.passed 0 (ms 100) = true ∧ h.eng.mainPresent = true ∧ h.eng.mainLost = false) ∧
    ofRecovery .recoverDone = true := by
  decide +kernel

/-- Region 7 changed, 10 s on. -/
def region7 (f : Region → Region) : Hub := { (hub 2 .watch).setRegion 7 f with now := sec 10 }

theorem wit_RegionLife :
    (let h := region7 (fun x => { x with seqRuns := true })
     (h.region 7).seqRuns = true ∧ (h.region 7).power = .s0) ∧
    (let h := region7 (fun x => { x with st := .quarantined, reason := .watchdog, quarMode := .proxy })
     let x := h.region 7
     x.st = .quarantined ∧ x.restart = none ∧ x.reason.auto = true ∧ x.restartLimit = false ∧ h.passed x.enteredAt (ms 10) = true ∧
       x.quarMode = .proxy ∧ x.proxyTold = false ∧ h.passed x.proxyFrom (sec 10) = true) ∧
    (∀ ph ∈ [RestartPhase.draining, .restarting], let y : Restart := { phase := ph, splice := false, slot := 0, since := 0, cause := .host }
     let h := region7 (fun x => { x with restart := some y, items := [takeItem] })
     (h.region 7).restart = some y ∧ y.phase = ph ∧ h.passed y.since (ms 50) = true ∧ bit h.boot.regHeld 7 = false ∧
       h.passed y.since (ms (3 * intervalMax h 7)) = true ∧ (∃ i ∈ (drainQueued 7 h).items 7, i.granted = true) ∧
       ∀ i ∈ (drainQueued 7 (h.setRegion 7 (fun x => { x with items := [] }))).items 7, i.granted = false) := by
  decide +kernel

theorem wit_ChipFaultsAndAlarms :
    supRuns (hub 2 .watch) = true ∧ (List.replicate 12 (250 : Int)).length = 12 ∧ (hub 2 .watch).boot.phase ≠ .held ∧
    (∀ z ∈ [true, false], let h := { hub 2 .watch with aon := { (hub 2 .watch).aon with tamperEn := 8, alarmDue := 2, inS4 := z } }
     3 < 4 ∧ bit h.aon.tamperEn 3 = true ∧ 1 < 2 ∧ bit h.aon.alarmDue 1 = true ∧ h.aon.inS4 = z) ∧
    Hub.reset.boot.phase = .held ∧
    (let h := { hub 2 .watch with aon := { (hub 2 .watch).aon with wakeOut := true } }
     h.aon.wakeOut = true ∧ h.aon.inS4 = false) ∧
    (let h := { hub 2 .watch with creds := { (hub 2 .watch).creds with loading := true } }
     h.fwReady = true ∧ h.pwr.chip = .s0 ∧ h.creds.loading = true) ∧
    (262143 < 262144 ∧ (hub 2 .watch).creds.loading = false ∧ (hub 2 .watch).fwReady = true ∧ (hub 2 .watch).pwr.chip = .s0) := by
  decide +kernel

theorem wit_ResetsKeep :
    ¬ ((hub 2 .watch).boot.phase = .held ∧ (hub 2 .watch).kept.cause = .por) ∧
      ∀ r ∈ [Rail.core, .sup, .keep, .io33], 0 < brownOutMv r ∧ brownOutMv r ≤ 5000 := by
  decide +kernel

theorem wit_BootAndDebug :
    (Hub.reset.boot.phase = .held ∧ Hub.reset.boot.scan = false ∧ Hub.reset.lc = blank ∧ bootWrites Hub.reset = false) ∧ (hub 2 .watch).boot.phase ≠ .held ∧
    ({ Hub.reset with boot := { Hub.reset.boot with scan := true } } : Hub).boot.scan = true ∧
    (let h := hub 2 .watch
     let h := { h with boot := { h.boot with trial := true }, now := sec 60 }
     h.fwReady = true ∧ h.boot.trial = true ∧ h.passed h.boot.readyAt (sec 60) = true ∧ written (writeBoot (fun r => { r with trial := false }) h) = true) ∧
    (debugAllowed (hub 1 .watch) = true ∧ (hub 1 .watch).regionPresent 7 = true) ∧ debugAllowed (hub 3 .watch) = false := by
  decide +kernel

theorem wit_ClocksFailAndReturn :
    clkRuns (hub 2 .watch) = true ∧
    (∀ p ∈ [Pll.fpll, .spll, .tpll, .cpll, .serdes], ∀ l ∈ [true, false],
      let c := (hub 2 .watch).clk
      let h := { hub 2 .watch with clk := { c with refclk := { present := true }, txo := { present := true }, fpll := { lock := l }, spll := { lock := l }
                                                   tpll := { lock := l }, cpll := { lock := l }, serdes := { lock := l } } }
      clkRuns h = true ∧ (h.source (pllSource p)).present = true ∧ (h.pll p).lock = l) ∧
    (((hub 2 .watch).source .txo).present = false ∧ ((hub 2 .watch).source .xtal).present = true) ∧
    (let h := releasing id
     let h := { h with clk := { h.clk with tpll := { coast := true } }, now := ms 100 }
     coastBoundaryDue h 127 = true) ∧
    muxTarget { hub 2 .watch with clk := { (hub 2 .watch).clk with spll := { lock := true } } } .sclk = some true := by
  decide +kernel

/-- Hub 1 of 3, master 0, its lower side as given. -/
def between (x : Side) : Hub :=
  { hub 2 .watch with flash := { (hub 2 .watch).flash with cascId := (3, 1, 0) }, casc := { lower := x }, clap := 10 ^ 19 }

/-- CHELLO of hub 0 of the same three. -/
def hello : BitVec 248 := BitVec.ofNat 248 (1 * 2 ^ 240 + 0 * 2 ^ 232 + 3 * 2 ^ 224 + 0 * 2 ^ 216 + 1 * 2 ^ 112)

theorem wit_CascadeSides :
    (∀ st ∈ [SideState.down, .up], ∀ t ∈ [none, some 0], let h := between { state := st, lane0 := { locked := true }, helloAt := t }
     sideUsed h .lower = true ∧ 0 = activeLane (h.side .lower) ∧ (laneOf (h.side .lower) 0).locked = true ∧ (h.side .lower).state ≠ .fault ∧
       h.fwReady = true ∧ h.clk.serdes.coast = false ∧ (h.side .lower).helloAt = t ∧ chelloFits h .lower hello = true ∧ h.passed 0 (ms 1) = false) ∧
    (let h := { between { state := .fault } with now := ms 10 }
     (h.side .lower).state = .fault ∧ h.passed (h.side .lower).since (ms 10) = true ∧ h.clk.serdes.coast = false) ∧
    (let h := { between {} with casc := { upper := { state := .up } } }
     (h.side .upper).state = .up ∧ towardMaster h .upper = false ∧ h.clk.tpll.coast = false ∧
       h.ticks / markTicks ≠ (h.side .upper).markLaunch / markTicks) ∧
    (let h := between { state := .up }
     (h.side .lower).state = .up ∧ towardMaster h .lower = true ∧ h.clk.tpll.coast = false ∧ pay hello 207 192 = (h.side .lower).markNum ∧
       pay (BitVec.ofNat 248 (2 ^ 192)) 207 192 ≠ (h.side .lower).markNum) ∧
    (let h := { between {} with now := ms 3 }
     h.hubIndex ≠ h.masterHub ∧ h.passed h.casc.lastMark (ms 3) = true) := by
  decide +kernel

/-- The hub with its power changed. -/
def powered (f : Pwr → Pwr) : Hub := setPwr f (hub 2 .watch)

/-- Region 7 idle in a power state, with REGION_FLOOR `fl`; with a vote of port A if asked for. -/
def idleRegion (p : RegionPower) (step fl : Nat) (vote : Bool) : Hub :=
  let h := hub 2 .idle
  { h with regions := List.replicate 7 { st := .active, power := .s0 } ++ [{ st := .active, power := p, powerStep := step }]
           bays := h.bays.map (fun x => { x with st := .idle, poll := { x.poll with cfg := { x.poll.cfg with policy := .capacitive } }
                                                 link := { ident := { hasCap := true } } })
           pwr := { h.pwr with floors := List.replicate 8 fl, voteA := if vote then 128 else 0 } }

theorem wit_PowerStates :
    (∀ st ∈ [DvfsStep.settle, .voltage], let d : Dvfs := { old := 3, new := 2, step := st }
     (powered (fun p => { p with dvfs := some d })).pwr.dvfs = some d ∧ d.step = st) ∧
    (∀ p ∈ [(RegionPower.s0, 0, 1), (.s0, 1, 1), (.s0, 0, 2), (.s1, 0, 2), (.s0, 2, 2), (.s0, 3, 2), (.s0, 4, 2)],
      let h := idleRegion p.1 p.2.1 p.2.2 false
      gated h 7 = true ∧ regionVotes h 7 = 0 ∧ (h.region 7).power = p.1 ∧ (h.region 7).powerStep = p.2.1 ∧ nth 0 h.pwr.floors 7 = p.2.2 ∧
        noneUp h 7 = true) ∧
    (∀ p ∈ [(RegionPower.s1, 0), (.s0, 1), (.s0, 2), (.s0, 3), (.s2, 0)],
      let h := idleRegion p.1 p.2 2 true
      gated h 7 = true ∧ regionVotes h 7 ≠ 0 ∧ (h.region 7).power = p.1 ∧ (h.region 7).powerStep = p.2 ∧ noneUp h 7 = true ∧
        (∀ k, k < 7 → (h.region k).power ≠ .s2 ∨ regionVotes h k = 0) ∧ voltageRuns h = false) ∧
    (let h := { powered (fun p => { p with s3Allow := true }) with regions := List.replicate 8 {} }
     h.pwr.chip = .s0 ∧ h.fwReady = true ∧ chipVotes h = 0) ∧
    (∀ n ∈ [0, 1, 15], let h := { powered (fun p => { p with wakeSrc := if n = 1 then 2 else 2 ^ n }) with now := ms 100 }
     n < 16 ∧ bit h.pwr.wakeSrc n = true ∧ (n = 0 → h.passed h.host.smb.lastUse (ms 100) = true ∧ h.host.smb.busy = false) ∧
       (n = 1 → h.pwr.wakeSrc / 256 = 0) ∧ (8 ≤ n → (h.region (n - 8)).wakeLow = false)) ∧
    (∀ k ∈ [1, 2, 3], ∀ w ∈ [true, false], let h := powered (fun p => { p with chip := .entering k, wakeDuring := w })
     h.pwr.chip = .entering k ∧ h.pwr.wakeDuring = w) ∧
    (let h := powered (fun p => { p with chip := .s3, wakeSrc := 2 })
     h.pwr.chip = .s3 ∧ h.pwr.wakeSrc ≠ 0) ∧
    (hub 2 .watch).aon.inS4 = false := by
  decide +kernel

/-- The hub with its random number unit changed. -/
def drawing (f : Rng → Rng) : Hub := (hub 2 .watch).setRng f

theorem wit_RngRuns :
    (∀ s ∈ [(false, false), (true, false), (true, true)],
      let h := { drawing (fun g => { g with srcs := List.replicate 4 { started := s.1, admitted := s.2 } }) with now := sec 10 }
      let x : NoiseSrc := nth {} h.rng.srcs 3
      x.started = s.1 ∧ x.admitted = s.2 ∧ x.lockedOut = false ∧ h.passed x.okFrom (sec 10) = true) ∧
    (List.replicate 1024 true).length = 1024 ∧
    (∀ n ∈ [3, 4], let h := drawing (fun g => { g with srcs := List.replicate 4 { admitted := true }, pool := List.replicate n 0 })
     h.rng.healthy = true ∧ h.rng.pool.length = n) ∧
    (hub 2 .watch).rng.healthy = false ∧
    (let h := drawing (fun g => { g with pool := [0, 0] })
     h.rng.available = true ∧ h.rng.reqLeft = 0 ∧ 2 ≤ h.rng.pool.length ∧ h.rng.reserve.length ≤ 376) ∧
    (let h := drawing (fun g => { g with srcs := List.replicate 4 { admitted := true }, pool := [0, 0] })
     h.rng.drbg = none ∧ h.rng.pool = [0, 0] ∧ h.rng.healthy = true ∧ h.rng.rawActive = false ∧ h.fwReady = true ∧ h.rng.rawRef = none) := by
  decide +kernel

theorem wit_IdleIsOneCycle : (on (hub 2 .watch)).pending = [] ∧ (hub 2 .watch).boot.phase ≠ .held ∧ (hub 2 .watch).aon.inS4 = false := by decide

theorem wit_CommandsComplete : (Instr.drbgReseed).wf = true ∧ (Instr.autoRestart 7).wf = true ∧ (Instr.autoRestart 8).wf = false := by decide

theorem wit_StepKeepsTheQueueWellFormed : ({ hub := hub 2 .watch, pending := [.autoRestart 7, .drbgReseed] } : State).queueOk := by
  unfold State.queueOk
  decide

theorem wit_TablesReadBack : Tab.wf (5 : Nat) [] = true ∧ Tab.wf (5 : Nat) (Tab.put 5 9 6 []) = true := by decide

/-! ## Ill-formed commands: WellFormed refuses each -/

theorem test_wellFormed_refusesBays
    (xBitVec248 : BitVec 248) (xBool : Bool) (xListByte : List Byte) (xNat : Nat)
    (xReportMeas : ReportMeas) (xRespCir : RespCir) (xRoundCorr : RoundCorr) (xTokenClass : TokenClass)
    (xUpSlate : UpSlate) :
    ([.signalDetected 128, .eqReq (.head 128) xBitVec248, .eqStatus (.casc .upper 2) xBitVec248, .ident 128 xBitVec248, .limitsAck 128 xBitVec248,
      .trainingComplete 128, .trainingTimeout 128, .upstreamSlateReceived 128 xUpSlate, .upstreamSlateTimeout 128, .cueEchoTimeout 128,
      .creditTimeout 128, .downstreamSlateLaunch 128, .markerLaunch 128, .drowseRequest 128, .drowseBlock 128 xBitVec248 xNat,
      .drowseMarkerSend 128, .wake 128, .drowseTimeout 128, .linkdown ⟨128, xBitVec248⟩, .faultRecoveryTimeout 128, .safetyDispatch ⟨128, xBool⟩,
      .burstLaunchDeadline 128, .calibrationRun 128, .collectionWindowClose 128, .response 128 xRespCir, .report 128 xReportMeas,
      .reportWindowClose 128, .rapidStart 128 xBool, .rapidRoundVerdict 128 xRoundCorr, .continuityTakeDue 128,
      .lostTimeout 128 xTokenClass, .contestedTimeout 128 xTokenClass, .engageLimitExpiry 128 xTokenClass, .watchHoldExpiry 128,
      .darkEntry 128, .externalFieldLost 128, .tagListenGap 128, .tagReqa 128 xBool, .tagAnticollisionSelect 128 xListByte,
      .tagSelectByName 128 xListByte, .tagSelectByFile 128 xListByte, .readBinary 128 xListByte, .updateBinary 128 xListByte,
      .verify 128 xListByte, .getChallenge 128 xListByte, .externalAuthenticate 128 xListByte, .tagDeselect 128 xBool, .tagOwnershipEnd 128,
      .tagWireWriteTimeout 128, .auth2 128 xTokenClass ⟨xListByte, xBool⟩, .authAck 128 xTokenClass ⟨xListByte, xBool⟩, .authReplyWindowClose 128 xTokenClass,
      .releaseBoundary 128, .releaseFrameLate 128, .safetyCutSend 128, .bpcSilent 128, .meterBTimeout 128, .meterReqTimeout 128,
      .meterTimeout 128, .holdTimeExpiry 128, .sealRetry 128, .relRangeRetry 128, .tpllCoastBoundary 128, .trainingRetry 128,
      .frameWaitingTimeExpiry 128, .busFrameComplete 128] : List Instr).all (fun i => !i.wf) = true := by
  rfl

theorem test_wellFormed_refusesRegions
    (xBool : Bool) (xListByte : List Byte) (xListNat : List Nat) (xListenCir : ListenCir)
    (xNat : Nat) :
    ([.headWakeLow 8, .wakeLineMask 8, .wakeLineUnmask 8, .planFreeze 8, .coexReqRaise 8 xNat, .coexGrantSample 8 xNat xBool,
      .coexReqFall 8, .cellFailure 8 0 0, .groupSelfTest 8 0 0 xListNat, .engineLost 8 0, .queueStoreEcc 8 xBool,
      .listenReceptionEnd 8 xNat xListenCir, .bpcStatus 8 xNat xListByte, .bpcUrgent 8 xNat xListByte, .meterA 8 xNat xListByte,
      .meterB 8 xNat xListByte, .busOff 8, .busOffPersist 8, .foreignFrame 8 xNat xListByte, .regionWatchdogExpiry 8, .autoRestart 8,
      .proxyLimit 8, .drainTimeout 8, .drainComplete 8, .sequencerReady 8, .restartLimitExpiry 8, .s1Entry 8, .s1Exit 8, .s2Entry 8,
      .s2Abort 8, .s2Exit 8, .busOffRecovery 8, .cryptoLaneFailure 8 xBool, .sequencerMemoryError 8] : List Instr).all (fun i => !i.wf) = true := by
  rfl

theorem test_wellFormed_refusesUnits
    (xBitVec248 : BitVec 248) (xBool : Bool) (xCSide : CSide) (xListCw : List Codeword)
    (xListNat : List Nat) (xNat : Nat) (xPort : Port) (xW32 : W32) :
    ([.tmuCtrlWrite xPort 16 xW32, .tmuCntWrite xPort 16 xW32, .tmuCmpWrite xPort 16 xW32, .tmuLinkWrite xPort 16 xW32, .tmuCompareMatch 16,
      .tmuOverflow 16, .tmuCaptureEdge 16 xBool, .tmuLinkEvent 16, .codewordLock (.head 128) xListCw,
      .codewordLock (.casc .upper 2) xListCw, .codewordLockLost (.head 128) xListCw, .codewordLockLost (.casc .upper 2) xListCw,
      .cellFailure 0 8 0, .cellFailure 0 0 136, .groupSelfTest 0 0 16 xListNat, .groupSelfTest 0 8 0 xListNat, .engineLost 0 8,
      .retiringCommitRetry 262144, .chipFault 0, .chipFault 6, .tempSensorSample (List.replicate 11 0), .tamperActive 4, .rtcAlarm 2,
      .chello xCSide 2 xBitVec248, .wakeSourceServed 16, .rngSourceSetOut 4 xNat, .rngSourceReturn 4, .rngStartupDone 4,
      .credStoreEcc 262144 xBool, .jtagInstruction (.holdRegion 8), .jtagInstruction (.releaseRegion 8)] : List Instr).all (fun i => !i.wf) = true := by
  rfl

/-- And a meaning stops on one by name. -/
theorem test_illFormed_stops : exec (.autoRestart 8) (on (hub 2 .watch)) = .fault .noSuchUnit := rfl

/-! ## Single steps and single operations, with the figures of the spec's own examples -/

/-- R183's example: site code 0x0A3, hub index 0, bay 37. -/
theorem test_wakeId :
    wakeId ((hub 2 .watch).setBay 37 (fun x => { x with poll := { x.poll with cfg := { x.poll.cfg with wakeSite := 0xA3 } } })) 37 = 0x28C25 := by decide

/-- R107's example: D = (32,921 - 3,461) / 2. -/
theorem test_linkDelay : delayOf { markLaunch := 1000 } 33921 3461 = 14730 := by decide

/-- R296's figures: 4.0 µs at D = 14,730 ticks, 3.0 µs at D = 6,400 ticks. -/
theorem test_roundPeriod :
    let at_ := fun (d : Nat) => (hub 2 .watch).setBay 37 (fun x => { x with sl := { timing := { meas := [d] } } })
    roundPeriod (at_ 14730) 37 = 8 ∧ roundPeriod (at_ 6400) 37 = 6 := by
  decide

/-- R284's example: RANGE_MM 3,603 and about 9.98 ppm. -/
theorem test_range :
    let i : Intervals := { ra := 1022449679, da := 1022273521, db := 15974400 * 64, rb := 15974719 * 64 }
    i.rangeMm = 3603 ∧ i.clockOdd = false ∧ i.negative = false := by
  decide +kernel

/-- R310's example: t_rf - t_cl = 16,000 + 96 + 384 ticks is 3,603 mm; 391 ticks is 3,669 mm. -/
theorem test_rapidDistance :
    let d : Dialogue := { dialogue with dTok := some 96, rxPeriod := 8 }
    let x : Rapid := { takeNo := 1, q := 6 }
    let raw := fun (n : Nat) => (63 * 32 + 16096 + n) * 256
    roundDistance (hub 2 .watch) 37 (liveTake .done) x d (raw 384) = 3603 ∧ roundDistance (hub 2 .watch) 37 (liveTake .done) x d (raw 391) = 3669 := by
  decide +kernel

/-- The wrap example of chapter 11: local bay 5 at 100 ms has its boundaries 310 slots into each 1,000. -/
theorem test_boundaries : isBoundary 1310 5 1000 = true ∧ isBoundary 1311 5 1000 = false ∧ isBoundary 930 15 1000 = true := by decide

/-- R483's example: 100 mF from 11.2 V to 9 V holds 2.222 J; a seal of 4 programs needs 1.056 J. -/
theorem test_holdup :
    let c := (hub 2 .watch).boot.cal
    let h := { hub 2 .watch with boot := { (hub 2 .watch).boot with cal := { c with cHold := 100, vMin := 9000, vDiv := 10, tPage := 30, pLoad := 40000 } } }
    let h := h.setEng (fun e => { e with codes := [1400, 1401] })
    eAvailMj h = 2222 ∧ 12 * (4 * ePage h + eBase h) = 10 * 1056 * 2000000000000 := by
  decide +kernel

/-- R832's example: at Harrowmere a seal needs 3.168 J. -/
theorem test_holdupHarrowmere :
    let h := { hub 2 .watch with boot := { (hub 2 .watch).boot with cal := { (hub 2 .watch).boot.cal with tPage := 30, pLoad := 120000 } } }
    12 * (4 * ePage h + eBase h) = 10 * 3168 * 2000000000000 := by
  decide +kernel

/-- R504's example: with CMD_HEAD 510, CMD_TAIL 1 hands over 3 entries. -/
theorem test_doorbell : subMod 512 1 510 = 3 := by decide

/-- R704's table: compare values written against a count of 0x100. One cycle later 0x101 has matched, 0x100 and 0xFF have not. -/
theorem test_compare :
    let f := fun (c : W32) => bit (((timed (running 0x100 c)).tmu.cycle none).timer 15).flags 0
    f 0x101 = true ∧ f 0x100 = false ∧ f 0xFF = false ∧ f 0x200 = false := by
  decide +kernel

/-- R712's example: a rising edge captured by timer 4 resets timer 6 one cycle later. -/
theorem test_linkReset :
    let h := hub 2 .watch
    let t4 : Timer := { ctrl := 0x2801, cnt := 77, ev := 4 }
    let z : Timer := {}
    let t6 : Timer := { ctrl := 0xA1, cnt := 500, link := 0x94 }
    let h := { h with tmu := { h.tmu with timers := List.replicate 4 z ++ [t4, z, t6] ++ List.replicate 9 z } }
    t6.master = 4 ∧ t6.evt = 2 ∧ t6.mode = 1 ∧ ((h.tmu.cycle none).timer 6).cnt = 0 := by
  decide +kernel

/-- R709: a capture loads the count at the start of the cycle, before its tick. -/
theorem test_capture :
    let t : Timer := { ctrl := 0x2001, cnt := 0x12C40 }
    let u := (timed t).tmu.cycleAt 15 (some true)
    u.capRise = 0x12C40 ∧ u.cnt = 0x12C41 ∧ bit u.flags 2 = true := by
  decide

/-- The session example of chapter 25: entry bytes 16 to 35 of SESSION_AUTHORIZE at bay 61. -/
theorem test_authorizeEntry :
    let p : List Byte := [0x3D, 0, 0, 0x0C, 0xE4, 0x91, 0x22, 0, 0x52, 0x4B, 0, 0, 0x2C, 0x3A, 9, 0, 0, 0, 0, 0]
    fld p 0 2 = 61 ∧ fld p 2 1 = 0 ∧ fld p 3 1 = 12 ∧ fld p 4 8 = 0x4B52002291E4 ∧ fld p 12 8 = 0x93A2C := by
  decide

/-- The check values of the CRC-32 of R322 and of the CRC-16 of R398 over the digits 1 to 9. -/
theorem test_crc :
    let l : List Byte := [0x31, 0x32, 0x33, 0x34, 0x35, 0x36, 0x37, 0x38, 0x39]
    crc32 l = 0xCBF43926 ∧ crc16 l = 0x29B1 := by
  decide +kernel

/-- R495: CLAIM while the other port is active and alive is refused. -/
theorem test_claimRefused :
    ∃ t, exec (.hostRoleClaim .b 1) (on (both (some .a))) = .next t ∧ t.hub.host.active = some .a ∧ t.hub.host.portB.roleRefused = true := by
  exact ⟨_, rfl, by decide, by decide⟩

/-- The session example of chapter 1: counter 0x1A2A at bay 37 gives session ID 0x2500_0000_0000_1A2B. -/
theorem test_sessionId :
    let c : CellCopy := { entries := [cellEntry cellSession 0x1A2A] }
    let h := (hub 2 .watch).setNv (fun v => { v with cells := [(cellSession, { a := c, b := c })] })
    nextSessionId h 37 = 0x2500000000001A2B := by
  decide +kernel

/-- R497: a write of fewer than 4 bytes is discarded and told. -/
theorem test_partialWrite :
    ∃ t, exec (.registerWrite .a 0x30004 2 5) (on (hub 2 .watch)) = .next t ∧ t.hub.host.portA.partialWrite = true ∧ t.hub.clk = (hub 2 .watch).clk :=
  ⟨_, rfl, by decide, by decide⟩

/-- R518 and R532: TIME_SET comes back WRONG_STATE in BLANK, so the clock stays. -/
theorem test_timeSetBlank :
    ∃ t, exec (.timeSet (entry 0x0501 (toLe 8 1000))) (on (hub 0 .watch)) = .next t ∧ t.hub.aon = (hub 0 .watch).aon :=
  ⟨_, rfl, by decide +kernel⟩

/-- R584: TIME_SET loads the clock's seconds. -/
theorem test_timeSet :
    let h := (hub 2 .watch).setReel (resizedReel 256)
    ∃ t, exec (.timeSet (entry 0x0501 (toLe 8 1000))) (on h) = .next t ∧ t.hub.aon.rtc = 1000 ∧ t.hub.aon.rtcSet = true :=
  ⟨_, rfl, by decide +kernel, by decide +kernel⟩

/-- R196: a touched head while no bay is IDLE or DARK changes no bay's state. -/
theorem test_headWake :
    ∃ t, exec (.headWakeLow 7) (on (hub 2 .watch)) = .next t ∧ (t.hub.region 7).wakeLow = true ∧ (t.hub.bay 127).st = .watch :=
  ⟨_, rfl, by decide +kernel, by decide +kernel⟩

/-- R81: four good codewords lock a receiver, eight bad ones among 16 unlock it. -/
theorem test_lock :
    let x := (List.replicate 4 Cw.corrected).foldl CwLock.feed {}
    x.locked = true ∧ ((List.replicate 7 Cw.bad).foldl CwLock.feed x).locked = true ∧ ((List.replicate 8 Cw.bad).foldl CwLock.feed x).locked = false := by
  decide

/-- R694: a vault alarm is chip fault 3, and the hub is held in reset with its always-on domain kept. -/
theorem test_vaultAlarm :
    ∃ t, exec .vaultAlarm (on (hub 2 .watch)) = .next t ∧ t.hub.kept.cfCause = 3 ∧ t.hub.kept.cfValid = true :=
  ⟨_, rfl, by decide +kernel, by decide +kernel⟩

/-- A step takes the front of the queue. -/
theorem test_step :
    ∃ t, step { hub := hub 2 .watch, pending := [.headWakeLow 7, .drbgReseed] } = .next t ∧ t.pending = [.drbgReseed] := ⟨_, rfl, by decide⟩

/-- The table gives no row any bits, so no word spells a command. -/
theorem test_noWords (n w : Nat) : decodeTableWord n w = none := rfl

/-- R274, R276: with no noise Th is peak / 8, so a lone tap crosses it an eighth of a tap after the tap before it. -/
theorem test_first_path_crosses_threshold :
    ((firstPath 0 { num := 0, den := 1 } (spike 25 8 (-800))).map (fun p => (p.tap, p.pos, p.quality))) = some (8, 7 * 4096 + 512, 255) := by
  decide +kernel

/-- R277: a magnitude 10 times σ is 20 dB, FPQ 80; one 2 times σ is 6.02 dB, between 24 and 25 steps. -/
theorem test_quality_in_quarter_db : quarterDb 100 { num := 1, den := 1 } = 80 ∧ 24 ≤ quarterDb 4 { num := 1, den := 1 } ∧
    quarterDb 4 { num := 1, den := 1 } ≤ 25 := by
  refine ⟨by decide +kernel, ?_⟩
  have h : quarterDb 4 { num := 1, den := 1 } = openStep false 4 24 := by rfl
  rw [h]; unfold openStep; split <;> simp_all <;> split <;> omega

/-- R274: the noise level leaves out the 16 taps on either side of the peak. -/
theorem test_noise_leaves_out_the_peak :
    noiseOf 16 (List.replicate 40 4 ++ [9, 100, 9] ++ List.replicate 57 4) = { num := 4 * (25 + 42), den := 25 + 42 } := by decide +kernel

/-- R307, R308: a lone reply at lag 25 crosses peak / 4 a quarter of a tap after lag 24, which lies 22 taps after t_0. -/
theorem test_round_first_path :
    (let m := roundSeen 1000000 { lags := (spike 44 25 3).zip (spike 44 25 (-4)) }
     (m.peakOk, m.lag, m.raw, m.x, m.refPow, m.datPow)) = (true, 25, 1000000 + 22 * 4096 + 1024, -12, 9, 16) := by decide +kernel

end Sys2Proof.Tests
end

section
/-! PROOFS. What a reset leaves of the hub, field by field, and the three ways the board brings one about (R10, R27, R746, R747, R815). -/

namespace Sys2Proof.Machine

/-! ### resetHub -/

@[simp] theorem resetHub_fuse (k : Kept) (h : Hub) : (resetHub k h).fuse = h.fuse := rfl
@[simp] theorem resetHub_flash (k : Kept) (h : Hub) : (resetHub k h).flash = h.flash := rfl
@[simp] theorem resetHub_aon (k : Kept) (h : Hub) : (resetHub k h).aon = h.aon := rfl
@[simp] theorem resetHub_kept (k : Kept) (h : Hub) : (resetHub k h).kept = k := rfl
@[simp] theorem resetHub_nv (k : Kept) (h : Hub) : (resetHub k h).nv = { h.nv with reel := { h.nv.reel with erasing := 0 } } := rfl
@[simp] theorem resetHub_boot (k : Kept) (h : Hub) : (resetHub k h).boot = {} := rfl
@[simp] theorem resetHub_host (k : Kept) (h : Hub) : (resetHub k h).host = {} := rfl
@[simp] theorem resetHub_clap (k : Kept) (h : Hub) : (resetHub k h).clap = 0 := rfl
@[simp] theorem resetHub_casc (k : Kept) (h : Hub) : (resetHub k h).casc = {} := rfl
@[simp] theorem resetHub_bays (k : Kept) (h : Hub) : (resetHub k h).bays = baysReset h.fuse.order := rfl

/-! ### The reset commands -/

theorem exec_porNAssert (s : State) : exec .porNAssert s = .next (s.to (resetHub {} s.hub)) := by
  change execPorNAssert s = _
  apply onHub_next
  rfl

/-- Unless POR_N holds the hub already, SYS_RST_N keeps the kept registers and writes its own cause into them. -/
theorem exec_sysRstNAssert {s : State} (hs : ¬ (s.hub.boot.phase = .held ∧ s.hub.kept.cause = .por)) :
    exec .sysRstNAssert s = .next (s.to (resetHub { s.hub.kept with cause := .sys } s.hub)) := by
  change execSysRstNAssert s = _
  apply onHub_next
  exact congrArg Host.Outcome.next (if_neg hs)

theorem exec_brownOut_below {rail : Rail} {mv : Nat} (hmv : mv < brownOutMv rail) (torn : Nat) (s : State) :
    exec (.brownOut rail mv torn) s =
      let l := s.hub.nv.reel
      let k := if s.hub.fwReady then min torn (min (4 - l.nextSlot % 4) (l.erasedTo - l.nextSlot)) else 0
      .next (s.to (powerOnReset (s.hub.setReel (fun l => { l with tornSlots := max l.tornSlots k })))) := by
  change execBrownOut rail mv torn s = _
  apply onHub_next
  exact congrArg Host.Outcome.next (if_pos hmv)

theorem exec_brownOut_above {rail : Rail} {mv : Nat} (hmv : brownOutMv rail ≤ mv) (torn : Nat) (s : State) :
    exec (.brownOut rail mv torn) s = .next s := by
  change execBrownOut rail mv torn s = _
  apply onHub_next
  exact congrArg Host.Outcome.next (if_neg (Nat.not_lt.mpr hmv))

/-- Settles O48: POR_N, SYS_RST_N and a rail below its threshold are each one `resetHub`, whose fields say what it keeps. -/
theorem resetsKeep : Obligations.ResetsKeep := by
  intro rail mv torn s
  refine ⟨?porN, ?sysRstN, fun hmv => exec_brownOut_below hmv torn s, fun hmv => exec_brownOut_above hmv torn s⟩
  case porN => exact ⟨_, exec_porNAssert s, by simp⟩
  case sysRstN => exact fun hs => ⟨_, exec_sysRstNAssert hs, by simp⟩

end Sys2Proof.Machine
end

section
/-! PROOFS. The host commands that set levels, floors, the rapid-exchange reserve and the park geometry (R31 to R33, R312, R322 to R325, R540, R541,
R586 to R588): what each body gives, and what it gives after the response ACCEPTED. -/

namespace Sys2Proof.Machine

/-! ### Reads that the host side does not change -/

theorem HostSideOnly.eq_with {a b : Hub} (h : HostSideOnly a b) : b = { a with host := b.host, out := b.out } := h

theorem HostSideOnly.pwr_eq {a b : Hub} (h : HostSideOnly a b) : b.pwr = a.pwr := (congrArg Hub.pwr h.eq_with :)
theorem HostSideOnly.flash_eq {a b : Hub} (h : HostSideOnly a b) : b.flash = a.flash := (congrArg Hub.flash h.eq_with :)
theorem HostSideOnly.bay_eq {a b : Hub} (h : HostSideOnly a b) (n : Nat) : b.bay n = a.bay n := (congrArg (Hub.bay · n) h.eq_with :)
theorem HostSideOnly.geomNext_eq {a b : Hub} (h : HostSideOnly a b) : b.geomNext = a.geomNext := (congrArg Hub.geomNext h.eq_with :)
theorem HostSideOnly.reserveNext_eq {a b : Hub} (h : HostSideOnly a b) : b.reserveNext = a.reserveNext := (congrArg Hub.reserveNext h.eq_with :)

theorem HostSideOnly.levelFor_eq {a b : Hub} (h : HostSideOnly a b) (p : Nat) : levelFor b p = levelFor a p := by
  simp only [levelFor, h.pwr_eq]

theorem HostSideOnly.vServed_eq {a b : Hub} (h : HostSideOnly a b) : vServed b = vServed a := by
  simp only [vServed, h.bay_eq]

theorem HostSideOnly.blobSound_eq {a b : Hub} (h : HostSideOnly a b) (l : List Byte) (g : Geometry) : blobSound b l g = blobSound a l g := by
  simp only [blobSound, h.bay_eq]

theorem HostSideOnly.accepted (c : Spec) (q : Req) (u : Hub) : HostSideOnly u (Machine.accept c q u) := (HostSideOnly.refl u).accept c q

/-- A body that runs on with the same effect `eff` on every hub that differs from the one fetched from on the host side alone: its effect comes
after the response ACCEPTED. -/
theorem answers_later_of_hostSide {i : Instr} {q : Req} {s : State} {c : Spec} {body : Req → CmdRef → Hub → Reply × Hub} {eff : Hub → Hub}
    (he : exec i s = onHub (fun h => .next (hostCommand c body q h)) s) (ha : passes c q s.hub = true)
    (hb : ∀ h, HostSideOnly (taken q s) h → body q (refOf c q) h = (.later, eff h)) :
    exec i s = .next (s.to (eff (accept c q (taken q s)))) :=
  answers_later he ha (congrArg Prod.fst (hb _ (HostSideOnly.refl _))) (congrArg Prod.snd (hb _ (HostSideOnly.accepted c q _)))

/-! ### PROFILE_SET (R31 to R33, R541) -/

/-- The change to profile `p` for command `c` has begun with step `st`. -/
def profileRuns (p : Nat) (c : CmdRef) (st : ProfileStep) (h : Hub) : Hub :=
  setPwr (fun x => { x with run := some { new := p, old := x.profile, step := st, ref := c } }) h

/-- R32: a profile that needs less narrows streaming first; one that needs more raises the level first, unless the level suffices. -/
def profileBegun (p : Nat) (c : CmdRef) (h : Hub) : Hub :=
  if h.pwr.profile < p then profileRuns p c .narrowing h
  else if h.pwr.pl ≤ levelFor h p then profileRuns p c .widening h
  else startLevel (levelFor h p) none (profileRuns p c .raising h)

section
variable {q : Req} {c : CmdRef} {h : Hub} (hrun : h.pwr.run = none) (hdvfs : h.pwr.dvfs = none)
include hrun hdvfs

theorem profileSet_same (hp : fld q.payload 0 1 ≤ 3) (hs : fld q.payload 0 1 = h.pwr.profile) :
    profileSet q c h = (.done .ok [⟨8, 1, fld q.payload 0 1⟩, ⟨9, 1, h.pwr.pl⟩] [], h) := by
  simp [profileSet, hrun, hdvfs, Nat.not_lt.mpr hp, ← hs]

theorem profileSet_change (hp : fld q.payload 0 1 ≤ 3) (hs : fld q.payload 0 1 ≠ h.pwr.profile)
    (hv : ¬(fld q.payload 0 1 = patrolProfile ∧ vServed h = true)) :
    profileSet q c h = (.later, profileBegun (fld q.payload 0 1) c h) := by
  simp only [profileSet, hrun, hdvfs, Nat.not_lt.mpr hp, hs, hv, Option.isSome_none, Bool.false_eq_true, or_self, if_false, profileBegun]
  split
  · rfl
  · split <;> rfl

end

/-! ### PL_SET (R31, R587) -/

/-- PL_PIN takes level `p`; the level that the profile needs clears it. -/
def pinLevel (p : Nat) (h : Hub) : Hub := setPwr (fun x => { x with plPin := if p = h.pwr.profile then none else some p }) h

/-- The level that PL_SET asks for: the one the profile in force needs, under the new pin. -/
def pinnedLevel (p : Nat) (h : Hub) : Nat := levelFor (pinLevel p h) h.pwr.profile

section
variable {q : Req} {c : CmdRef} {h : Hub} (hrun : h.pwr.run = none) (hdvfs : h.pwr.dvfs = none)
include hrun hdvfs

theorem plSet_same (hp : fld q.payload 0 1 ≤ 3) (hn : fld q.payload 0 1 ≤ h.pwr.profile) (hl : pinnedLevel (fld q.payload 0 1) h = h.pwr.pl) :
    plSet q c h =
      (.done .ok [⟨8, 1, pinnedLevel (fld q.payload 0 1) h⟩, ⟨9, 1, (pinLevel (fld q.payload 0 1) h).pwr.plPin.getD 0xFF⟩] [],
       pinLevel (fld q.payload 0 1) h) := by
  simp only [plSet, hrun, hdvfs, Nat.not_lt.mpr hp, Nat.not_lt.mpr hn, Option.isSome_none, Bool.false_eq_true, or_self, if_false]
  exact if_pos hl

theorem plSet_change (hp : fld q.payload 0 1 ≤ 3) (hn : fld q.payload 0 1 ≤ h.pwr.profile) (hl : pinnedLevel (fld q.payload 0 1) h ≠ h.pwr.pl) :
    plSet q c h = (.later, startLevel (pinnedLevel (fld q.payload 0 1) h) (some c) (pinLevel (fld q.payload 0 1) h)) := by
  simp only [plSet, hrun, hdvfs, Nat.not_lt.mpr hp, Nat.not_lt.mpr hn, Option.isSome_none, Bool.false_eq_true, or_self, if_false]
  exact if_neg hl

end

theorem HostSideOnly.pinnedLevel_eq {a b : Hub} (h : HostSideOnly a b) (p : Nat) : pinnedLevel p b = pinnedLevel p a := by
  simp only [pinnedLevel, levelFor, pinLevel, setPwr_pwr, h.pwr_eq]

/-! ### POWER_SET, RAPID_RESERVE and BAY_GEOMETRY_SET (R312, R322 to R325, R540, R586, R588) -/

theorem nth_map_range {α : Type} (d : α) (f : Nat → α) {n r : Nat} (hr : r < n) : nth d ((List.range n).map f) r = f r := by
  simp [nth, hr]

/-- Floors within range wherever a region is present pass; what the entry holds for a region that is fused off is not looked at (R586). -/
theorem powerSet_inRange {q : Req} {c : CmdRef} {h : Hub} (hf : ∀ r, r < 8 → h.regionPresent r = true → fld q.payload r 1 ≤ 2)
    (ha : fld q.payload 8 1 ≤ 1) :
    powerSet q c h =
      (.done .ok [bytesFld 0 (q.payload.take 9)] [],
       setPwr (fun p =>
         { p with floors := (List.range 8).map (fun r => if h.regionPresent r then nth 0 ((List.range 8).map (fun r => fld q.payload r 1)) r else 0)
                  s3Allow := fld q.payload 8 1 == 1 }) h) := by
  have hok : ((List.range 8).any (fun r => h.regionPresent r && decide (2 < nth 0 ((List.range 8).map (fun r => fld q.payload r 1)) r)) ||
      decide (1 < fld q.payload 8 1)) = false := by
    rw [Bool.or_eq_false_iff, List.any_eq_false, decide_eq_false_iff_not]
    refine ⟨fun r hr => ?floor, Nat.not_lt.mpr ha⟩
    have hr : r < 8 := List.mem_range.mp hr
    rw [nth_map_range 0 _ hr, Bool.and_eq_true, decide_eq_true_iff]
    exact fun ⟨hpres, hbig⟩ => absurd (hf r hr hpres) (Nat.not_le.mpr hbig)
  simp only [powerSet, hok, Bool.false_eq_true, if_false]

theorem rapidReserve_inRange {q : Req} {c : CmdRef} {h : Hub} (hv : fld q.payload 0 1 ≤ 1) :
    rapidReserve q c h = (.later, { h with reserveNext := h.reserveNext ++ [(fld q.payload 0 1 == 1, c)] }) :=
  if_neg (Nat.not_lt.mpr hv)

theorem bayGeometrySet_sound {q : Req} {c : CmdRef} {h : Hub} (hmin : 64 ≤ q.data.length) (hlen : q.data.length = blobLength q.data)
    (hb : blobSound h q.data (geometryOf q.data) = true) (hid : (geometryOf q.data).ident = h.flash.cascId) :
    bayGeometrySet q c h = (.later, { h with geomNext := h.geomNext ++ [(geometryOf q.data, c)] }) := by
  have hl : ¬(q.data.length < 64 ∨ q.data.length ≠ blobLength q.data) := not_or.mpr ⟨Nat.not_lt.mpr hmin, fun hne => hne hlen⟩
  simp only [bayGeometrySet, hl, hb, hid, Bool.not_true, Bool.false_eq_true, if_false, if_true]

/-! ### The rows -/

section
variable {q : Req} {s : State} (hrun : (taken q s).pwr.run = none) (hdvfs : (taken q s).pwr.dvfs = none)
include hrun hdvfs

theorem exec_profileSet_change (hp : fld q.payload 0 1 ≤ 3) (ha : passes specProfileSet q s.hub = true)
    (hs : fld q.payload 0 1 ≠ (taken q s).pwr.profile) (hv : ¬(fld q.payload 0 1 = patrolProfile ∧ vServed (taken q s) = true)) :
    exec (.profileSet q) s =
      .next (s.to (profileBegun (fld q.payload 0 1) (refOf specProfileSet q) (accept specProfileSet q (taken q s)))) := by
  refine answers_later_of_hostSide rfl ha fun h hh => profileSet_change ?_ ?_ hp ?_ ?_
  · rw [hh.pwr_eq, hrun]
  · rw [hh.pwr_eq, hdvfs]
  · rwa [hh.pwr_eq]
  · rwa [hh.vServed_eq]

theorem exec_plSet_change (hp : fld q.payload 0 1 ≤ 3) (ha : passes specPlSet q s.hub = true)
    (hn : fld q.payload 0 1 ≤ (taken q s).pwr.profile) (hl : pinnedLevel (fld q.payload 0 1) (taken q s) ≠ (taken q s).pwr.pl) :
    exec (.plSet q) s =
      .next (s.to (startLevel (pinnedLevel (fld q.payload 0 1) (accept specPlSet q (taken q s))) (some (refOf specPlSet q))
        (pinLevel (fld q.payload 0 1) (accept specPlSet q (taken q s))))) := by
  refine answers_later_of_hostSide (eff := fun h => startLevel (pinnedLevel _ h) _ (pinLevel _ h)) rfl ha fun h hh => plSet_change ?_ ?_ hp ?_ ?_
  · rw [hh.pwr_eq, hrun]
  · rw [hh.pwr_eq, hdvfs]
  · rwa [hh.pwr_eq]
  · rwa [hh.pinnedLevel_eq, hh.pwr_eq]

end

theorem exec_rapidReserve {q : Req} {s : State} (ha : passes specRapidReserve q s.hub = true) (hv : fld q.payload 0 1 ≤ 1) :
    exec (.rapidReserve q) s =
      .next (s.to { accept specRapidReserve q (taken q s) with
        reserveNext := (taken q s).reserveNext ++ [(fld q.payload 0 1 == 1, refOf specRapidReserve q)] }) := by
  rw [← (HostSideOnly.accepted specRapidReserve q (taken q s)).reserveNext_eq]
  exact answers_later_of_hostSide (eff := fun h => { h with reserveNext := h.reserveNext ++ [_] }) rfl ha fun h _ => rapidReserve_inRange hv

theorem exec_bayGeometrySet {q : Req} {s : State} (ha : passes specBayGeometrySet q s.hub = true) (hmin : 64 ≤ q.data.length)
    (hlen : q.data.length = blobLength q.data) (hb : blobSound (taken q s) q.data (geometryOf q.data) = true)
    (hid : (geometryOf q.data).ident = (taken q s).flash.cascId) :
    exec (.bayGeometrySet q) s =
      .next (s.to { accept specBayGeometrySet q (taken q s) with
        geomNext := (taken q s).geomNext ++ [(geometryOf q.data, refOf specBayGeometrySet q)] }) := by
  rw [← (HostSideOnly.accepted specBayGeometrySet q (taken q s)).geomNext_eq]
  refine answers_later_of_hostSide (eff := fun h => { h with geomNext := h.geomNext ++ [_] }) rfl ha fun h hh => bayGeometrySet_sound hmin hlen ?_ ?_
  · rwa [hh.blobSound_eq]
  · rwa [hh.flash_eq]

/-- Settles O3: each body's reply is known on every hub that differs from the one fetched from on the host side alone, so a command that runs on has
the effect on the hub after ACCEPTED that its conditions on the hub before it say. The order behind those that wait already (log 112) and the OK at
once of a PL_SET that asks for the level in force (log 157) are the model's choices. -/
theorem levelsAndSettings : Obligations.LevelsAndSettings := by
  refine ⟨?levels, ?settings⟩
  case levels =>
    intro q s u p hrun hdvfs hp
    refine ⟨fun ha hs => answers_now rfl ha (profileSet_same hrun hdvfs hp hs), ?profileSet, ?plSet⟩
    case profileSet =>
      intro ha hs hv go
      have hacc := HostSideOnly.accepted specProfileSet q u
      rw [exec_profileSet_change hrun hdvfs hp ha hs hv, profileBegun, hacc.pwr_eq, hacc.levelFor_eq]
      rfl
    case plSet =>
      intro ha hn pin l
      split
      next hl => exact answers_now rfl ha (plSet_same hrun hdvfs hp hn hl)
      next hl =>
        have hacc := HostSideOnly.accepted specPlSet q u
        rw [exec_plSet_change hrun hdvfs hp ha hn hl, hacc.pinnedLevel_eq, pinLevel, hacc.pwr_eq]
        rfl
  case settings =>
    intro q s u
    exact ⟨fun ha hf h3 => answers_now rfl ha (powerSet_inRange hf h3), exec_rapidReserve, exec_bayGeometrySet⟩

end Sys2Proof.Machine
end

section
/-! PROOFS. The call sheet of a slot (R38, R40, R45 to R59, R71, R134, R135, R614, R616), and how a row that names a unit of the hub answers. -/

namespace Sys2Proof.Machine

/-! ### Rows of the opcode table whose unit exists -/

/-- A row that names no unit. -/
theorem onHub_next_all {s : State} {f : Hub → Hub} {g : Hub} (hf : f s.hub = g) : onHub (fun h => .next (f h)) s = .next (s.to g) :=
  onHub_next (congrArg _ hf)

/-- A row that names a bay. -/
theorem onHub_next_bay {s : State} {b : Nat} {f : Hub → Hub} {g : Hub} (hb : b < 128) (hf : f s.hub = g) :
    onHub (fun h => atBay b h f) s = .next (s.to g) :=
  onHub_next ((atBay_next hb).trans (congrArg _ hf))

/-- A row that names a region. -/
theorem onHub_next_region {s : State} {r : Nat} {f : Hub → Hub} {g : Hub} (hr : r < 8) (hf : f s.hub = g) :
    onHub (fun h => atRegion r h f) s = .next (s.to g) :=
  onHub_next ((atRegion_next hr).trans (congrArg _ hf))

/-! ### Cells and engines (R38, R40, R614, R616) -/

/-- What a row does to an engine of a region that is present (R3). -/
theorem atEngine_next {r e : Nat} {h : Hub} {f : Hub → Hub} (hr : r < 8) (he : e < 8) (hp : h.regionPresent r = true) :
    atEngine r e h f = .next (f h) := by
  simp [atEngine, when_, hr, he, hp]

section
variable {r e : Nat} {s : State} (hr : r < 8) (he : e < 8) (hp : s.hub.regionPresent r = true)
include hr he hp

theorem exec_cellFailure_inUse {c : Nat} (hc : c < 136) (hin : c ∉ (nth {} (s.hub.region r).engines e).retired) :
    exec (.cellFailure r e c) s = .next (s.to (cellFails r e c s.hub)) := by
  change execCellFailure r e c s = _
  apply onHub_next
  rw [if_pos hc, atEngine_next hr he hp, if_neg (by rwa [List.contains_iff_mem])]

theorem exec_groupSelfTest_free {g : Nat} (bad : List Nat) (hg : g < 16) (hfree : g ∉ (nth {} (s.hub.region r).engines e).held)
    (hin : (nth {} (s.hub.region r).engines e).out = false) :
    exec (.groupSelfTest r e g bad) s =
      .next (s.to ((bad.filter (fun c => ((nth {} (s.hub.region r).engines e).posOf c).map (· / 8) == some g)).foldl
        (fun h c => cellFails r e c h) s.hub)) := by
  change execGroupSelfTest r e g bad s = _
  apply onHub_next
  rw [if_pos hg, atEngine_next hr he hp]
  exact congrArg Host.Outcome.next (if_neg (by simp [hfree, hin]))

theorem exec_engineLost_inUse (hin : (nth {} (s.hub.region r).engines e).out = false) :
    exec (.engineLost r e) s =
      .next (s.to (let u := (holders s.hub r e none).foldl (fun h i => invalidateItem i h) (modEngine r e (fun x => { x with out := true }) s.hub)
                   regionNotice r (u.region r).st (u.region r).st .engineLost u)) := by
  change execEngineLost r e s = _
  apply onHub_next
  rw [atEngine_next hr he hp]
  exact congrArg Host.Outcome.next (if_neg (by simp [hin]))

end

/-! ### The rows -/

/-- Settles O34: each row's guard holds by its clause's conditions. The window of 250 slots of a calibration item (log 34) and a safety stop that is
held until a dispatch lets it go (log 37) are the model's choices. -/
theorem callSheetRuns : Obligations.CallSheetRuns := by
  intro b r e c g bad s hb hr
  refine ⟨?boundary, ?freeze, ?dispatch, ?calibration, ?engines, ?queueStore⟩
  case boundary =>
    intro hdone hfw
    change execSlotBoundary s = _
    exact onHub_next_all (if_neg (by simpa [hfw] using hdone))
  case freeze =>
    intro hruns hfrozen hlead
    exact onHub_next_region hr (if_neg (by simp [hruns, hfrozen, hlead]))
  case dispatch =>
    intro hon hpresent hold
    exact onHub_next_bay hb (if_neg (by simpa [hpresent] using hon))
  case calibration =>
    intro hup hdue hneeded hactive hstandby
    exact onHub_next_bay hb (if_pos (by simp [hup, hdue, hneeded, hactive, hstandby]))
  case engines =>
    intro he hp
    exact ⟨exec_cellFailure_inUse hr he hp, exec_groupSelfTest_free hr he hp bad, exec_engineLost_inUse hr he hp⟩
  case queueStore =>
    intro hs2 hoff
    have hstore : ¬((s.hub.region r).power = .s2 ∨ (s.hub.region r).power = .off) := not_or.mpr ⟨hs2, hoff⟩
    exact ⟨onHub_next_region hr ((if_neg hstore).trans (if_pos rfl)), onHub_next_region hr ((if_neg hstore).trans (if_neg Bool.false_ne_true))⟩

end Sys2Proof.Machine
end

section
/-! PROOFS. Sighting traffic over the cascade (R67 to R70, R351): each row looks at the packets of its own type alone. -/

namespace Sys2Proof.Machine

/-! ### Where a packet goes -/

section
variable {m : SightMsg} {pt : Nat} {h : Hub} {take : Packet → Hub → Hub}

theorem routed_otherType (ht : (Packet.ofBytes m.body).ptype ≠ pt) : routed m pt take h = h :=
  if_pos (.inr (.inl ht))

variable (hlen : m.body.length = 32) (hfw : h.fwReady = true) (ht : (Packet.ofBytes m.body).ptype = pt)
include hlen hfw ht

theorem routed_elsewhere (hd : (Packet.ofBytes m.body).dest ≠ h.hubIndex) : routed m pt take h = sendPacket (Packet.ofBytes m.body) h := by
  simp [routed, hlen, hfw, ht, hd]

theorem routed_here (hd : (Packet.ofBytes m.body).dest = h.hubIndex) : routed m pt take h = take (Packet.ofBytes m.body) h := by
  simp [routed, hlen, hfw, ht, hd]

end

/-! ### The rows -/

/-- The types of sighting packets. -/
def sightTypes : List Nat := [ptListen, ptSighting, ptDecline, ptCancel]

/-- The row that takes in packets of a type. -/
def sightRow (m : SightMsg) (pt : Nat) : Instr :=
  if pt = ptListen then .listenRequest m else if pt = ptSighting then .sighting m else if pt = ptDecline then .decline m else .cancel m

theorem map_sightRow (m : SightMsg) : sightTypes.map (sightRow m) = [.listenRequest m, .sighting m, .decline m, .cancel m] := rfl

theorem mem_sightTypes {k : Nat} : k ∈ sightTypes ↔ k = ptListen ∨ k = ptSighting ∨ k = ptDecline ∨ k = ptCancel := by
  simp only [sightTypes, List.mem_cons, List.not_mem_nil, or_false]

/-- The type of the packets that a row takes in. -/
def sightTypeOf : Instr → Nat
  | .listenRequest _ => ptListen
  | .sighting _ => ptSighting
  | .decline _ => ptDecline
  | _ => ptCancel

theorem sightTypeOf_sightRow (m : SightMsg) {k : Nat} (hk : k ∈ sightTypes) : sightTypeOf (sightRow m k) = k := by
  obtain rfl | rfl | rfl | rfl := mem_sightTypes.mp hk <;> rfl

theorem sightRow_inj (m : SightMsg) {k pt : Nat} (hk : k ∈ sightTypes) (hpt : pt ∈ sightTypes) : sightRow m k = sightRow m pt ↔ k = pt :=
  ⟨fun heq => by rw [← sightTypeOf_sightRow m hk, heq, sightTypeOf_sightRow m hpt], congrArg _⟩

theorem exec_listenRequest (m : SightMsg) (s : State) :
    exec (.listenRequest m) s =
      .next (s.to (routed m ptListen (fun p h => if usable p h then receiveListen p h else declineListen (listenOf p none) h) s.hub)) :=
  onHub_next_all rfl

theorem exec_sighting (m : SightMsg) (s : State) :
    exec (.sighting m) s = .next (s.to (routed m ptSighting (fun p h => if usable p h then receiveSighting p h else h) s.hub)) :=
  onHub_next_all rfl

theorem exec_decline (m : SightMsg) (s : State) :
    exec (.decline m) s =
      .next (s.to (routed m ptDecline (fun p h =>
        noteListener p.ownHandle p.sweep p.lisHub p.lisBay (fun l => if l.state = 0 then { l with state := 2 } else l) h) s.hub)) :=
  onHub_next_all rfl

theorem exec_cancel (m : SightMsg) (s : State) :
    exec (.cancel m) s = .next (s.to (routed m ptCancel (fun p h => cancelListen p.ownHub p.ownHandle p.lisBay h) s.hub)) :=
  onHub_next_all rfl

theorem exec_sightRow (m : SightMsg) (s : State) {k : Nat} (hk : k ∈ sightTypes) :
    ∃ take, exec (sightRow m k) s = .next (s.to (routed m k take s.hub)) := by
  obtain rfl | rfl | rfl | rfl := mem_sightTypes.mp hk
  · exact ⟨_, exec_listenRequest m s⟩
  · exact ⟨_, exec_sighting m s⟩
  · exact ⟨_, exec_decline m s⟩
  · exact ⟨_, exec_cancel m s⟩

/-- A packet for another hub is sent on by the row of its type; the others leave it alone (R351). -/
theorem exec_sightRow_elsewhere {m : SightMsg} {s : State} {k pt : Nat} (hlen : m.body.length = 32) (hfw : s.hub.fwReady = true)
    (hd : (Packet.ofBytes m.body).dest ≠ s.hub.hubIndex) (ht : (Packet.ofBytes m.body).ptype = pt) (hk : k ∈ sightTypes) (hpt : pt ∈ sightTypes) :
    exec (sightRow m k) s = .next (s.to (if sightRow m k = sightRow m pt then sendPacket (Packet.ofBytes m.body) s.hub else s.hub)) := by
  obtain ⟨take, he⟩ := exec_sightRow m s hk
  by_cases hkt : k = pt
  · rw [he, if_pos (congrArg _ hkt), routed_elsewhere hlen hfw (ht.trans hkt.symm) hd]
  · rw [he, if_neg (mt (sightRow_inj m hk hpt).mp hkt), routed_otherType (fun h => hkt (h.symm.trans ht))]

/-- Settles O36: what a row does with a packet is `routed`, which sends on, takes in or leaves the packet by its type and its hub. -/
theorem sightingTraffic : Obligations.SightingTraffic := by
  intro m s hlen hfw
  refine ⟨?elsewhere, ?here⟩
  case elsewhere =>
    intro hd i hi pt hpt ht
    rw [← map_sightRow] at hi
    obtain ⟨k, hk, rfl⟩ := List.mem_map.mp hi
    exact exec_sightRow_elsewhere hlen hfw hd ht hk hpt
  case here =>
    intro hd
    refine ⟨fun ht => ?listen, fun ht => ?sighting, fun ht => ?decline, fun ht => ?cancel⟩
    case listen => rw [exec_listenRequest, routed_here hlen hfw ht hd]
    case sighting => rw [exec_sighting, routed_here hlen hfw ht hd]
    case decline => rw [exec_decline, routed_here hlen hfw ht hd]
    case cancel => rw [exec_cancel, routed_here hlen hfw ht hd]

end Sys2Proof.Machine
end

section
/-! PROOFS. The exchange of a take and the end of a listen (R67, R253, R266 to R270, R280 to R288, R332). -/

namespace Sys2Proof.Machine

/-! ### Changes of a take -/

theorem Hub.setBay_setBay (h : Hub) (b : Nat) (f g : Bay → Bay) : (h.setBay b f).setBay b g = h.setBay b (g ∘ f) := by
  simp [Hub.setBay, modNth, List.modify_modify_eq]

theorem modTake_modTake (b : Nat) (f g : Take → Take) (h : Hub) : modTake b g (modTake b f h) = modTake b (g ∘ f) h := by
  simp only [modTake, Hub.setBay_setBay, Function.comp_def, Option.map_map]

/-! ### RESPONSE (R253, R266, R280, R281) -/

/-- What the hub `u`, which has captured a RESPONSE, becomes with what the groups found of it: the take ends, or its FINAL is staged. -/
def responseOutcome (b : Nat) (t : Take) (d : Dialogue) (m : RespMeas) (u : Hub) : Hub :=
  let o := respFails d.cfg.stsUnits m
  let x := if o.isSome then failMeas u b t m else respMeas u b t d m
  let v := modTake b (fun t => { t with meas := x }) (countRange b (fun c => { c with fpSuspect := satAdd c.fpSuspect (b2n x.suspect) }) u)
  match o with
  | some o => failTake b o (takeStatus o .internal) v
  | none =>
    let v := modTake b (fun t => { t with stage := .responded }) v
    (stage b (pollBurst v b .final (t.tPoll + roundTicks) t d) v).2

section
variable {b : Nat} {t : Take} {d : Dialogue} {m : RespMeas} {u : Hub}

theorem responseOutcome_fails {o : TakeOutcome} (ho : respFails d.cfg.stsUnits m = some o) :
    responseOutcome b t d m u =
      let x := failMeas u b t m
      failTake b o (takeStatus o .internal)
        (modTake b (fun t => { t with meas := x }) (countRange b (fun c => { c with fpSuspect := satAdd c.fpSuspect (b2n x.suspect) }) u)) := by
  simp [responseOutcome, ho]

/-- The measurement and the stage that the row writes one after the other are one change of the take. -/
theorem responseOutcome_passes (ho : respFails d.cfg.stsUnits m = none) :
    responseOutcome b t d m u =
      let x := respMeas u b t d m
      let v := modTake b (fun t => { t with stage := .responded, meas := x })
        (countRange b (fun c => { c with fpSuspect := satAdd c.fpSuspect (b2n x.suspect) }) u)
      (stage b (pollBurst v b .final (t.tPoll + roundTicks) t d) v).2 := by
  simp [responseOutcome, ho, modTake_modTake, Function.comp_def]

end

section
variable {b : Nat} {c : RespCir} {s : State} (hb : b < 128)
include hb

theorem exec_response_badMode (hm : c.badMode = true) : exec (.response b c) s = .next (s.to (countModeErr b s.hub)) :=
  onHub_next_bay hb (if_pos hm)

theorem exec_response_measured {t : Take} {d : Dialogue} (ht : (s.hub.bay b).take = some t) (hd : (s.hub.bay b).dlgV = some d)
    (hm : c.badMode = false) (hst : t.stage = .polled) (hdue : t.tPoll + replyTicks - ticksUs 1 ≤ s.hub.ticks) :
    exec (.response b c) s =
      .next (s.to (responseOutcome b t d (respSeen t.tPoll t.width (t.txAnt d.cfg) c) (captureItem (regionOf b) t.q s.hub))) := by
  refine onHub_next_bay hb ?_
  rw [if_neg (Bool.eq_false_iff.mp hm)]
  simp only [ht, hd]
  rw [if_neg (by simp [hst, hdue])]
  rfl

end

/-! ### REPORT (R267, R282 to R284, R288) -/

/-- What a REPORT of the interval makes of the hub: the take is complete or ends where the report opens, and otherwise it has been seen. -/
def reportOutcome (b : Nat) (t : Take) (d : Dialogue) (l : List Byte) (h : Hub) : Hub :=
  match readReport d b t l with
  | none => modTake b (fun t => { t with reportSeen := true }) h
  | some (db, rb) =>
    let i := intervals t d.cfg.uwbCh db rb
    if i.clockOdd then failTake b .clockOdd .authFail h else if i.negative then failTake b .negRange .internal h else completeTake b i h

section
variable {b : Nat} {t : Take} {d : Dialogue} {l : List Byte} {h : Hub}

theorem reportOutcome_unreadable (hr : readReport d b t l = none) :
    reportOutcome b t d l h = modTake b (fun t => { t with reportSeen := true }) h := by
  simp only [reportOutcome, hr]

theorem reportOutcome_read {db rb : Nat} (hr : readReport d b t l = some (db, rb)) :
    reportOutcome b t d l h =
      let i := intervals t d.cfg.uwbCh db rb
      if i.clockOdd then failTake b .clockOdd .authFail h else if i.negative then failTake b .negRange .internal h else completeTake b i h := by
  simp only [reportOutcome, hr]

end

section
variable {b : Nat} {t : Take} {n : ReportMeas} {s : State} (hb : b < 128)
include hb

theorem exec_report_badMode (hm : n.badMode = true) : exec (.report b n) s = .next (s.to (countModeErr b s.hub)) :=
  onHub_next_bay hb (if_pos hm)

variable (ht : (s.hub.bay b).take = some t) (hst : t.stage = .finished)
include ht hst

theorem exec_report_inTime {d : Dialogue} (hd : (s.hub.bay b).dlgV = some d) (hm : n.badMode = false)
    (hnear : ((n.rmarker : Int) - (t.meas.tResp + (roundTicks : Int) * 256)).natAbs ≤ 256 * ticksUs 1) :
    exec (.report b n) s = .next (s.to (reportOutcome b t d n.cipher s.hub)) := by
  refine onHub_next_bay hb ?_
  rw [if_neg (Bool.eq_false_iff.mp hm)]
  simp only [ht, hd]
  rw [if_neg (by simp [hst, hnear])]
  rfl

theorem exec_reportWindowClose_due (hdue : t.tPoll + ticksUs 900 ≤ s.hub.ticks) :
    exec (.reportWindowClose b) s =
      .next (s.to (if t.reportSeen then failTake b .reportBad .authFail s.hub else failTake b .noReport .wrongState s.hub)) := by
  refine onHub_next_bay hb ?_
  simp only [ht, hst, hdue, and_self, if_true]

end

/-! ### The end of the collection window (R69, R332) -/

theorem exec_collectionWindowClose_ends {b : Nat} {t : Take} {s : State} (hb : b < 128) (ht : (s.hub.bay b).take = some t) (hok : t.ok = true)
    (hopen : t.closed = false) (hover : t.closeSlot < s.hub.slot) (hrapid : t.rapid = false) :
    exec (.collectionWindowClose b) s = .next (s.to (evaluate b (modTake b (fun t => { t with closed := true }) s.hub))) := by
  refine onHub_next_bay hb ?_
  simp [ht, hok, hopen, hover, hrapid]

/-! ### The end of a listen's reception (R67, R253, R269, R270) -/

/-- The time of arrival of the POLL at the head, where it saw one. -/
def listenToa (l : ListenReq) (it : Item) (c : ListenCir) (u : Hub) : Option Int :=
  headToa l.cal (listenChannel u l.bay l.ownHub l.ownHandle) it.width (listenSeen (listenPoll it) it.width c).ants

/-- What the hub `u`, which has captured the reception, becomes: a sighting, or a decline where the head cannot vouch for what it saw. -/
def listenOutcome (l : ListenReq) (it : Item) (c : ListenCir) (u : Hub) : Hub :=
  match listenToa l it c u with
  | some toa =>
    if c.lost || !(u.bay l.bay).sl.timing.settled || !calibrationOk u l.bay then sendStandby l.bay (declineListen l u)
    else sendSighting l it (listenSeen (listenPoll it) it.width c) toa u
  | none => sendStandby l.bay (declineListen l u)

section
variable {l : ListenReq} {it : Item} {c : ListenCir} {u : Hub}

theorem listenOutcome_declined
    (h : listenToa l it c u = none ∨ c.lost = true ∨ (u.bay l.bay).sl.timing.settled = false ∨ calibrationOk u l.bay = false) :
    listenOutcome l it c u = sendStandby l.bay (declineListen l u) := by
  unfold listenOutcome
  cases hsaw : listenToa l it c u with
  | none => rfl
  | some toa =>
    refine if_pos ?_
    simpa [hsaw, or_assoc] using h

theorem listenOutcome_sighted {toa : Int} (hsaw : listenToa l it c u = some toa) (hkept : c.lost = false)
    (hsettled : (u.bay l.bay).sl.timing.settled = true) (hcal : calibrationOk u l.bay = true) :
    listenOutcome l it c u = sendSighting l it (listenSeen (listenPoll it) it.width c) toa u := by
  simp [listenOutcome, hsaw, hkept, hsettled, hcal]

end

section
variable {r i : Nat} {it : Item} {l : ListenReq} {c : ListenCir} {s : State} (hr : r < 8) (hit : s.hub.item r i = some it)
  (hl : listenFor s.hub it = some l) (hg : it.granted = true) (hstart : it.start ≤ s.hub.slot) (hend : listenPoll it + ticksUs 260 ≤ s.hub.ticks)
include hr hit hl hg hstart hend

theorem exec_listenReceptionEnd_badMode (hm : c.badMode = true) :
    exec (.listenReceptionEnd r i c) s = .next (s.to (sendStandby l.bay (declineListen l (countModeErr l.bay s.hub)))) := by
  refine onHub_next_region hr ?_
  simp only [hit, hl]
  rw [if_neg (by simp [hg, hstart, hend]), if_pos hm]

theorem exec_listenReceptionEnd_heard (hm : c.badMode = false) :
    exec (.listenReceptionEnd r i c) s = .next (s.to (listenOutcome l it c (captureItem r i s.hub))) := by
  refine onHub_next_region hr ?_
  simp only [hit, hl]
  rw [if_neg (by simp [hg, hstart, hend]), if_neg (Bool.eq_false_iff.mp hm)]
  rfl

end

/-- Settles O37: what a frame, a window or a reception gave decides the branch its row takes. -/
theorem takeAndListen : Obligations.TakeAndListen := by
  refine ⟨?exchange, ?listen⟩
  case exchange =>
    intro b t d c n s hb h ht hd
    refine ⟨exec_response_badMode hb, exec_report_badMode hb, ?response, ?report, exec_collectionWindowClose_ends hb ht⟩
    case response =>
      intro hm hst hdue
      have he := exec_response_measured hb ht hd hm hst hdue
      exact ⟨fun o ho => by rw [he, responseOutcome_fails ho], fun ho => by rw [he, responseOutcome_passes ho]⟩
    case report =>
      intro hst
      refine ⟨fun hnear hm => ?_, exec_reportWindowClose_due hb ht hst⟩
      exact ⟨_, exec_report_inTime hb ht hst hd hm hnear, rfl, reportOutcome_unreadable, fun _ _ => reportOutcome_read⟩
  case listen =>
    intro r i it l c s hr hit hl hg hstart hend
    refine ⟨exec_listenReceptionEnd_badMode hr hit hl hg hstart hend, fun hm => ?_⟩
    exact ⟨_, exec_listenReceptionEnd_heard hr hit hl hg hstart hend hm, rfl, listenOutcome_declined, fun _ => listenOutcome_sighted⟩

end Sys2Proof.Machine
end

section
/-! PROOFS. The commit engine and main power (R64, R403, R418, R462, R465, R466, R470, R480 to R490). -/

namespace Sys2Proof.Machine

/-! ### Changes of the engine -/

/-- Only what a change makes of the engine that is there counts. -/
theorem Hub.setEng_congr {h : Hub} {f g : Engine2 → Engine2} (hfg : f h.eng = g h.eng) : h.setEng f = h.setEng g :=
  congrArg (fun e => { h with eng := e }) hfg

theorem Hub.setEng_of_eq {h : Hub} {f : Engine2 → Engine2} (hf : f h.eng = h.eng) : h.setEng f = h :=
  congrArg (fun e => { h with eng := e }) hf

/-! ### Bursts and the journal (R64, R480 to R482) -/

theorem exec_commitBurst_takes {s : State} {w : NvWhat} {l : List NvWhat} (hfw : s.hub.fwReady = true) (hs3 : s.hub.pwr.chip ≠ .s3)
    (hmain : s.hub.eng.mainLost = false) (hpick : nvPick s.hub s.hub.eng.queue = some (w, l)) :
    exec .commitBurst s = .next (s.to (stillStalled (serve w (s.hub.setEng (fun e => { e with queue := l }))))) := by
  change execCommitBurst s = _
  refine onHub_next_all ?_
  rw [if_neg (by simp [hfw, hs3]), if_neg (by simp [hmain])]
  simp [hmain, hpick]

theorem exec_journalCopyForward_short {s : State} (hfw : s.hub.fwReady = true) (hshort : jErased s.hub.nv.journal < 8)
    (hnone : ∀ p ∈ s.hub.eng.retry, p.1 ≠ .journalCopy) : exec .journalCopyForward s = .next (s.to (askCopy s.hub)) := by
  have hwaits : s.hub.eng.retry.any (fun p => p.1 == .journalCopy) = false := by simpa using hnone
  have hretry : s.hub.eng.retry.filter (fun p => p.1 != .journalCopy) = s.hub.eng.retry := List.filter_eq_self.mpr (by simpa using hnone)
  change execJournalCopyForward s = _
  refine onHub_next_all ?_
  rw [if_pos (by simp [hfw, hwaits, hshort])]
  exact congrArg askCopy (Hub.setEng_of_eq (by rw [hretry]))

/-! ### Main power (R487, R489) -/

theorem exec_mainLost (s : State) :
    exec .mainLost s = .next (s.to (if s.hub.fwReady && !s.hub.eng.mainLost then mainLost s.hub else s.hub)) := by
  change execMainLost s = _
  exact onHub_next_all rfl

theorem exec_mainLostClear (s : State) :
    exec .mainLostClear s =
      .next (s.to (if !s.hub.fwReady then s.hub else if s.hub.eng.mainLost then mainClear s.hub
                   else s.hub.setEng (fun e => { e with mainPresent := true }))) := by
  change execMainLostClear s = _
  exact onHub_next_all rfl

/-! ### Requests that are made again (R418, R462, R490) -/

section
variable {b t : Nat} {w : NvWhat} {s : State} (hretry : s.hub.eng.retry = [(w, t)]) (hdue : s.hub.passed t (ms 100) = true)
  (hpresent : s.hub.eng.mainPresent = true)
include hretry hdue hpresent

theorem exec_sealRetry_due (hb : b < 128) (hw : w = .seal b) (hmain : s.hub.eng.mainLost = false) :
    exec (.sealRetry b) s = .next (s.to (request w (s.hub.setEng (fun e => { e with retry := [] })))) := by
  subst hw
  refine onHub_next_bay hb ?_
  simp only [hretry, List.find?_cons_of_pos, beq_self_eq_true]
  rw [if_pos (by simp [hdue, hpresent, hmain])]
  exact congrArg (request _) (Hub.setEng_congr (by simp [hretry]))

theorem exec_relRangeRetry_due (hb : b < 128) (hw : w = .relRange b) :
    exec (.relRangeRetry b) s = .next (s.to (request w (s.hub.setEng (fun e => { e with retry := [] })))) := by
  subst hw
  refine onHub_next_bay hb ?_
  simp only [hretry, List.find?_cons_of_pos, beq_self_eq_true]
  rw [if_pos (by simp [hdue, hpresent])]
  exact congrArg (request _) (Hub.setEng_congr (by simp [hretry]))

theorem exec_recoveryBurstRetry_due (hw : ofRecovery w = true) :
    exec .recoveryBurstRetry s = .next (s.to (s.hub.setEng (fun e => { e with queue := e.queue ++ [w], retry := [] }))) := by
  change execRecoveryBurstRetry s = _
  refine onHub_next_all ?_
  rw [if_pos (by simp [hretry, hdue, hpresent, hw])]
  exact Hub.setEng_congr (by simp [hretry, hdue, hw])

end

/-! ### The rows -/

/-- Settles O45: each row's guard holds by its clause's conditions. The order among requests of one rank, which `nvPick` decides (log 182), is the
model's choice. -/
theorem commitEngine : Obligations.CommitEngine := by
  intro b code s hb
  refine ⟨fun hfw => ⟨?burst, ?present, ?lost, ?dailies, ?copy⟩, ?vhold, ?erase, ?retry⟩
  case burst => exact fun w l hs3 hmain hpick => exec_commitBurst_takes hfw hs3 hmain hpick
  case present => exact fun hmain => by simp [exec_mainLost, exec_mainLostClear, hfw, hmain]
  case lost => exact fun hmain => by simp [exec_mainLost, exec_mainLostClear, hfw, hmain]
  case dailies =>
    intro hdue
    change execDailies s = _
    exact onHub_next_all (if_pos (by simp [hfw, hdue]))
  case copy => exact exec_journalCopyForward_short hfw
  case vhold =>
    intro hheld hs3
    change execVholdSample code s = _
    exact onHub_next_all (if_neg (not_or.mpr ⟨hheld, hs3⟩))
  case erase =>
    change execSectorEraseComplete s = _
    exact onHub_next_all rfl
  case retry =>
    intro w t hretry hdue hpresent
    exact ⟨exec_sealRetry_due hretry hdue hpresent hb, exec_relRangeRetry_due hretry hdue hpresent hb,
      exec_recoveryBurstRetry_due hretry hdue hpresent⟩

end Sys2Proof.Machine
end

section
/-! PROOFS. A head port's training and the codewords at a receiver (R81, R113 to R117, R122, R152). -/

namespace Sys2Proof.Machine

/-! ### The lock machine of a receiver (R81) -/

/-- A codeword that is not uncorrectable lengthens the run of good ones, and the fourth of a run locks. -/
theorem CwLock.feed_good {x : CwLock} {w : Cw} (hx : x.locked = false) (hw : w ≠ .bad) :
    (x.feed w).goodRun = x.goodRun + 1 ∧ (x.feed w).locked = decide (4 ≤ x.goodRun + 1) := by
  simp [feed, hx, hw]

/-- Good codewords that bring the run of an unlocked receiver to four lock it. -/
theorem CwLock.locks_at_four : ∀ {w : List Cw} {x : CwLock}, x.locked = false → x.goodRun + w.length = 4 → w ≠ [] → Cw.bad ∉ w →
    (w.foldl feed x).locked = true
  | [c], x, hx, hrun, _, hgood => by
    have hc : c ≠ .bad := fun h => hgood (by simp [h])
    have hfour : 4 ≤ x.goodRun + 1 := Nat.le_of_eq hrun.symm
    simp [(feed_good hx hc).2, hfour]
  | c :: d :: w, x, hx, hrun, _, hgood => by
    obtain ⟨hc, hrest⟩ := not_or.mp (mt List.mem_cons.mpr hgood)
    obtain ⟨hrun', hlock'⟩ := feed_good hx (Ne.symm hc)
    have hthree : ¬ 4 ≤ x.goodRun + 1 := by simp only [List.length_cons] at hrun; omega
    have hleft : (x.feed c).goodRun + (d :: w).length = 4 := by rw [hrun', ← hrun]; simp only [List.length_cons]; omega
    exact locks_at_four (w := d :: w) (by simp [hlock', hthree]) hleft (List.cons_ne_nil d w) hrest

theorem CwLock.feed_bad_unlocked {x : CwLock} (hx : x.locked = false) : (x.feed .bad).locked = false := by
  simp [feed, hx]

theorem CwLock.unlocked_stays {x : CwLock} (hx : x.locked = false) : ∀ n, ((List.replicate n Cw.bad).foldl feed x).locked = false
  | 0 => hx
  | n + 1 => unlocked_stays (feed_bad_unlocked hx) n

/-- Each uncorrectable codeword goes to the front of the last 16. -/
theorem CwLock.feed_bad_front {x : CwLock} {k : Nat} (hk : k < 16) (hx : x.last16.take k = List.replicate k true) (hl : x.locked = true) :
    (x.feed .bad).last16.take (k + 1) = List.replicate (k + 1) true := by
  have hmin : min k 15 = k := Nat.min_eq_left (Nat.le_of_lt_succ hk)
  simp [feed, hl, List.take_take, hmin, hx, List.replicate_succ]

/-- Eight uncorrectable ones among the last 16, wherever they stand, end the lock at the codeword that makes them eight. -/
theorem CwLock.feed_unlocks {x : CwLock} {w : Cw} (hl : x.locked = true) (hbad : 8 ≤ ((x.feed w).last16.filter id).length) :
    (x.feed w).locked = false := by
  simp only [feed, hl, Bool.not_true, Bool.false_eq_true, if_false] at hbad ⊢
  exact decide_eq_false (Nat.not_lt.mpr hbad)

/-- With `k` uncorrectable codewords at the front of the last 16, the `n + 1` that make them eight unlock. -/
theorem CwLock.unlocks_at_eight : ∀ {n k : Nat} {x : CwLock}, k + (n + 1) = 8 → x.last16.take k = List.replicate k true →
    ((List.replicate (n + 1) Cw.bad).foldl feed x).locked = false := by
  intro n
  induction n with
  | zero =>
    intro k x hk hx
    cases hl : x.locked with
    | false => exact unlocked_stays hl 1
    | true =>
      have hfront := feed_bad_front (by omega) hx hl
      have hcount := ((List.take_sublist (k + 1) (x.feed .bad).last16).filter id).length_le
      rw [hfront, hk] at hcount
      exact feed_unlocks hl hcount
  | succ n ih =>
    intro k x hk hx
    cases hl : x.locked with
    | false => exact unlocked_stays hl (n + 2)
    | true => exact ih (k := k + 1) (by omega) (feed_bad_front (by omega) hx hl)

/-- R81: eight uncorrectable codewords in a row unlock a receiver, whatever the last 16 held. -/
theorem CwLock.unlocks_after_eight_bad {x : CwLock} {w : List Cw} (hlen : w.length = 8) (hbad : ∀ y ∈ w, y = Cw.bad) :
    (w.foldl feed x).locked = false := by
  rw [List.eq_replicate_of_mem hbad, hlen]
  exact unlocks_at_eight (k := 0) rfl List.take_zero

/-! ### Rows that name a receiver -/

/-- A row that names one of `n` like units. -/
theorem onHub_next_unit {s : State} {n i : Nat} {f : Hub → Hub} {g : Hub} (hi : i < n) (hf : f s.hub = g) :
    onHub (fun h => atUnit n i h f) s = .next (s.to g) :=
  onHub_next ((atUnit_next hi).trans (congrArg _ hf))

/-! ### Sides and the equalisers of their lanes -/

@[simp] theorem side_modSide (c : CSide) (f : Side → Side) (h : Hub) : (modSide c f h).side c = f (h.side c) := by
  cases c <;> rfl

@[simp] theorem eqOf_modEq (c : CSide) (lane : Nat) (f : Eq → Eq) (h : Hub) :
    eqOf ((modEq c lane f h).side c) lane = f (eqOf (h.side c) lane) := by
  by_cases hl : lane = 0 <;> simp [modEq, eqOf, hl]

/-- Only what a change makes of the side that is there counts. -/
theorem modSide_congr {c : CSide} {f g : Side → Side} {h : Hub} (hfg : f (h.side c) = g (h.side c)) : modSide c f h = modSide c g h := by
  cases c with
  | lower => exact congrArg (fun x => { h with casc := { h.casc with lower := x } }) hfg
  | upper => exact congrArg (fun x => { h with casc := { h.casc with upper := x } }) hfg

/-- A change of a lane's equaliser puts there what it makes of the one that is there. -/
theorem modEq_const (c : CSide) (lane : Nat) (f : Eq → Eq) (h : Hub) : modEq c lane f h = modEq c lane (fun _ => f (eqOf (h.side c) lane)) h :=
  modSide_congr (by by_cases hl : lane = 0 <;> simp [eqOf, hl])

section
variable {c : CSide} {lane : Nat} {m : BitVec 248} {s : State} (hlane : lane < 2) (hused : sideUsed s.hub c = true)
  (hlock : (laneOf (s.hub.side c) lane).locked = true)
include hlane hused hlock

/-- On a lane with lock, EQ_STATUS says what EQ_REQ has made of the transmitter. -/
theorem exec_eqReq_lane (hm : pay m 247 240 = 0x10) :
    let w := (eqOf (s.hub.side c) lane).request (pay m 239 236) (pay m 235 232) (pay m 230 228)
    exec (.eqReq (.casc c lane) m) s =
      .next (s.to (sendLane c lane blkTrain (atBit 0x90 240 + w.status) (modEq c lane (fun _ => w) s.hub))) := by
  refine onHub_next_unit hlane ?_
  rw [laneEqReq, if_neg (by simp [hused, hlock, hm])]
  simp only [eqOf_modEq]
  rw [← modEq_const c lane (fun e => e.request _ _ _)]

theorem exec_eqStatus_lane (hm : pay m 247 240 = 0x90) :
    exec (.eqStatus (.casc c lane) m) s = .next (s.to (modEq c lane (fun _ => (eqOf (s.hub.side c) lane).answered m) s.hub)) := by
  refine onHub_next_unit hlane ?_
  rw [laneEqStatus, if_neg (by simp [hused, hlock, hm])]
  exact modEq_const c lane (fun e => e.answered m) s.hub

end

/-! ### Steps of training (R113 to R117, R152) -/

/-- A training message in the step that it belongs to. -/
theorem atStep_current {b : Nat} {n : TrainStep} {f : Hub → Hub} {h : Hub} (htrain : (h.bay b).link.state = .training)
    (hstep : (h.bay b).link.step = n) : atStep b n f h = f h := by
  rw [atStep, if_neg (not_not_intro htrain), if_pos hstep]

section
variable {b : Nat} {m : BitVec 248} {s : State} (hb : b < 128) (htrain : (s.hub.bay b).link.state = .training)
include hb htrain

theorem exec_eqReq_head (hstep : (s.hub.bay b).link.step = .equalise) (hm : pay m 247 240 = 0x10) :
    exec (.eqReq (.head b) m) s = .next (s.to (eqCheck b (sendEqStatus b
      (setLink b (fun x => { x with eq := x.eq.request (pay m 239 236) (pay m 235 232) (pay m 230 228) }) s.hub)))) :=
  onHub_next_bay hb ((atStep_current htrain hstep).trans (if_neg (not_not_intro hm)))

theorem exec_eqStatus_head (hstep : (s.hub.bay b).link.step = .equalise) (hm : pay m 247 240 = 0x90) :
    exec (.eqStatus (.head b) m) s = .next (s.to (eqCheck b (setLink b (fun x => { x with eq := x.eq.answered m }) s.hub))) :=
  onHub_next_bay hb ((atStep_current htrain hstep).trans (if_neg (not_not_intro hm)))

theorem exec_ident_fits (hstep : (s.hub.bay b).link.step = .hello) (hm : pay m 247 240 = 0x81) (hfit : (identOf m).compatible = true)
    (hone : duplicateSerial (setLink b (fun x => { x with ident := identOf m }) s.hub) b (identOf m).serial = false) :
    let u := setLink b (fun x => { x with ident := identOf m }) s.hub
    exec (.ident b m) s = .next (s.to (sendTrain b 0x02 (limitsPayload (limits u))
      (setLink b (fun x => { x with limitsCrc := limitsCrc (limits u) }) (toStep b .limits u)))) := by
  refine onHub_next_bay hb ((atStep_current htrain hstep).trans ?_)
  rw [if_neg (not_not_intro hm)]
  simp only [hfit, hone, Bool.not_true, Bool.false_eq_true, if_false]

theorem exec_limitsAck_right (hstep : (s.hub.bay b).link.step = .limits) (hm : pay m 247 240 = 0x82)
    (hcrc : pay m 239 208 = (s.hub.bay b).link.limitsCrc) :
    exec (.limitsAck b m) s = .next (s.to (sendTrain b 0x03 (atBit (wantedFmt s.hub) 222)
      (toStep b .echoes (setSl b (fun x => { cnt := x.cnt, upFmt := wantedFmt s.hub, fmtOld := wantedFmt s.hub
                                             timing := { markNum := x.timing.markNum } }) s.hub)))) :=
  onHub_next_bay hb ((atStep_current htrain hstep).trans (if_neg (not_or.mpr ⟨not_not_intro hm, not_not_intro hcrc⟩)))

end

/-! ### The rows -/

/-- Settles O31: a row's conditions decide its guard, and the lock machine is followed codeword by codeword. DONE as soon as codewords lock (log 43),
ADAPT and lock as one step (log 166) and credits that start anew at LIMITS_ACK (log 173) are the model's choices. -/
theorem trainingAndCodewords : Obligations.TrainingAndCodewords := by
  refine ⟨?training, ?codewords⟩
  case training =>
    intro b m s hb h l
    refine ⟨?signal, ?retry, fun htrain => ⟨?equalise, ?ident, ?limitsAck, ?complete, ?timeout⟩⟩
    case signal => exact fun hdown hmay hfails => onHub_next_bay hb (if_pos ⟨hdown, hmay, .inl hfails⟩)
    case retry => exact fun hdown hfails hsignal hmay hwaited => onHub_next_bay hb (if_pos ⟨hdown, hfails, hsignal, hmay, hwaited⟩)
    case equalise => exact fun hstep => ⟨exec_eqReq_head hb htrain hstep, exec_eqStatus_head hb htrain hstep⟩
    case ident => exact exec_ident_fits hb htrain
    case limitsAck => exact exec_limitsAck_right hb htrain
    case complete =>
      exact fun hstep hechoes hlock hsettled hdelay => onHub_next_bay hb (if_pos ⟨htrain, hstep, hechoes, hlock, hsettled, hdelay⟩)
    case timeout => exact fun hlate => onHub_next_bay hb (if_pos ⟨htrain, hlate⟩)
  case codewords =>
    intro b lane c m l s hb hlane h e
    refine ⟨?head, ?lane, fun hused hlock => ⟨exec_eqReq_lane hlane hused hlock, exec_eqStatus_lane hlane hused hlock⟩, ?lock, ?unlock⟩
    case head =>
      have hfeed : onHub (feedCodewords (.head b) l) s = .next (s.to (headCodewords b (l.map cwJudge) (headBlocks b l h))) :=
        onHub_next (atBay_next hb)
      exact List.forall_mem_cons.mpr ⟨hfeed, List.forall_mem_singleton.mpr hfeed⟩
    case lane =>
      have hfeed : onHub (feedCodewords (.casc c lane) l) s = .next (s.to (cascCodewords c lane (l.map cwJudge) h)) := onHub_next (atUnit_next hlane)
      exact List.forall_mem_cons.mpr ⟨hfeed, List.forall_mem_singleton.mpr hfeed⟩
    case lock =>
      exact fun x w hx hrun hlen hgood => CwLock.locks_at_four hx (by rw [hrun, hlen]) (List.ne_nil_of_length_eq_add_one hlen) hgood
    case unlock => exact fun x w _ hlen hbad => CwLock.unlocks_after_eight_bad hlen hbad

end Sys2Proof.Machine
end

section
/-! PROOFS. The limits that take a head port down (R80, R96, R101, R113, R121). -/

namespace Sys2Proof.Machine

/-! ### The end of FAULT (R113) -/

section
variable {b : Nat} {s : State} (hb : b < 128)
include hb

/-- A head held for its identity keeps its port in FAULT while its signal is there. -/
theorem exec_faultRecoveryTimeout_signalThere (hheld : (s.hub.bay b).link.reason = .incompatible ∨ (s.hub.bay b).link.reason = .duplicate)
    (hthere : (s.hub.bay b).link.signalLost = none) : exec (.faultRecoveryTimeout b) s = .next s := by
  refine onHub_next_bay hb (if_neg (not_and.mpr fun _ => ?_))
  rw [if_pos (decide_eq_true hheld), hthere]
  exact Bool.false_ne_true

variable (hfault : (s.hub.bay b).link.state = .fault)
include hfault

theorem exec_faultRecoveryTimeout_signalGone {t : Nat}
    (hheld : (s.hub.bay b).link.reason = .incompatible ∨ (s.hub.bay b).link.reason = .duplicate)
    (hlost : (s.hub.bay b).link.signalLost = some t) (hlate : s.hub.passed t (ms 10) = true) :
    exec (.faultRecoveryTimeout b) s = .next (s.to (takeDown b .none_ s.hub)) := by
  refine onHub_next_bay hb (if_pos ⟨hfault, ?_⟩)
  rw [if_pos (decide_eq_true hheld), hlost]
  exact hlate

theorem exec_faultRecoveryTimeout_waited (hfit : (s.hub.bay b).link.reason ≠ .incompatible) (hone : (s.hub.bay b).link.reason ≠ .duplicate)
    (hlate : s.hub.passed (s.hub.bay b).link.since (ms 10) = true) :
    exec (.faultRecoveryTimeout b) s = .next (s.to (takeDown b .none_ s.hub)) := by
  refine onHub_next_bay hb (if_pos ⟨hfault, ?_⟩)
  rwa [if_neg (by simp [hfit, hone])]

end

/-! ### Credits and cues (R96, R101) -/

section
variable {b : Nat} {s : State} (hb : b < 128)
include hb

theorem exec_creditTimeout_due {t : Nat} (hempty : (s.hub.bay b).sl.credits.emptySince = some t) (hup : isUp s.hub b = true)
    (hlate : s.hub.passed t (ms 10) = true) (hout : (s.hub.bay b).sl.outstanding ≠ []) :
    exec (.creditTimeout b) s = .next (s.to (toFault b .creditTimeout s.hub)) := by
  refine onHub_next_bay hb ?_
  simp only [hempty]
  exact if_pos ⟨hup, hlate, hout⟩

theorem exec_cueEchoTimeout_one {c : Cue} {d : Nat} (hone : (s.hub.bay b).sl.outstanding = [c]) (hdue : c.due = some d) (hlate : d < s.hub.ticks) :
    exec (.cueEchoTimeout b) s = .next (s.to (cueEnded b c 8 0 (countPort b (fun k => { k with cueUnknown := satAdd k.cueUnknown 1 })
      (setSl b (fun x => { x with outstanding := x.outstanding.filter (· ≠ c) }) s.hub)))) := by
  refine onHub_next_bay hb ?_
  simp only [hone, hdue, hlate, decide_true, List.filter_cons_of_pos, List.filter_nil, List.foldl_cons, List.foldl_nil]

end

/-! ### The rows -/

/-- Settles O32: a row's conditions decide its guard. The head's LINKDOWN as the loss of the signal and of the lock (log 47, log 167) and a recovery
without effect while the signal is there (log 3) are the model's choices. -/
theorem linkLimits : Obligations.LinkLimits := by
  intro b s hb h l
  refine ⟨?slates, fun t => exec_creditTimeout_due hb, fun c d => exec_cueEchoTimeout_one hb, ?drowse, ?linkdown, fun hfault => ?fault⟩
  case slates => exact fun hup hlate => onHub_next_bay hb (if_pos ⟨hup, hlate⟩)
  case drowse =>
    intro hdrowse hlost
    exact onHub_next_bay hb (if_pos ⟨hdrowse, hlost.imp_right (fun hlock => .inr (by simpa using hlock))⟩)
  case linkdown => exact fun m => onHub_next_bay hb rfl
  case fault =>
    exact ⟨exec_faultRecoveryTimeout_waited hb hfault, fun t => exec_faultRecoveryTimeout_signalGone hb hfault,
      exec_faultRecoveryTimeout_signalThere hb⟩

end Sys2Proof.Machine
end

section
/-! PROOFS. Slates, markers and DROWSE on a head port, and the wake line of a region (R88, R105, R113, R118, R119, R195 to R197). -/

namespace Sys2Proof.Machine

/-! ### Reads that a change of a bay leaves -/

/-- What a change leaves of every bay, it leaves of the bay that is changed, also where the hub has no such bay. -/
theorem Hub.setBay_keeps {α : Type} (g : Bay → α) {f : Bay → Bay} (hg : ∀ x, g (f x) = g x) (h : Hub) (b : Nat) :
    g ((h.setBay b f).bay b) = g (h.bay b) := by
  by_cases hlen : b < h.bays.length
  · rw [Hub.bay_setBay h b f hlen, hg]
  · simp [Hub.bay, Hub.setBay, nth, modNth, Nat.not_lt.mp hlen]

/-! ### Slates (R82 to R88) -/

section
variable {b : Nat} {u : UpSlate} {s : State} (hb : b < 128) (hdown : slatesDown (s.hub.bay b).link = true)
include hb hdown

theorem exec_upstreamSlateReceived_bad (hcrc : crcHolds u = false) :
    exec (.upstreamSlateReceived b u) s = .next (s.to (countPort b (fun c => { c with usCrc := satAdd c.usCrc 1 }) s.hub)) := by
  refine onHub_next_bay hb ?_
  rw [if_neg (by simp [hdown]), if_pos (by simp [hcrc])]

theorem exec_upstreamSlateReceived_good (hcrc : crcHolds u = true) :
    let v := slateBits u.blocks
    let hdr := v / 2 ^ (256 * u.blocks.length - 128)
    let styp := bits hdr 127 124
    styp = (s.hub.bay b).sl.upFmt + 1 → u.blocks.length = upBlocks styp → bits v 735 732 ≤ 10 →
      exec (.upstreamSlateReceived b u) s = .next (s.to (goodSlate b u hdr v (bits v 735 732) s.hub)) := by
  intro v hdr styp hfmt hlen hecho
  refine onHub_next_bay hb ?_
  rw [if_neg (by simp [hdown]), if_neg (by simp [hcrc])]
  refine if_neg (not_or.mpr ⟨?fits, not_or.mpr ⟨not_not_intro hlen, Nat.not_lt.mpr hecho⟩⟩)
  change ¬(!(styp == (s.hub.bay b).sl.upFmt + 1 || _)) = true
  simp [hfmt]

end

/-! ### The head's DROWSE block (R113, R118, R119) -/

/-- What the port keeps of a DROWSE block without a touch. -/
def drowseSeen (b : Nat) (d : BitVec 248) : Hub → Hub :=
  setSl b (fun x => { x with queryAt := none, rep := { x.rep with cap := pay d 191 176, touch := false } })

/-- The marker that a block is measured against stays. -/
theorem drowseSeen_timing (b : Nat) (d : BitVec 248) (f : Link → Link) (h : Hub) :
    ((drowseSeen b d (setLink b f h)).bay b).sl.timing = (h.bay b).sl.timing :=
  (Hub.setBay_keeps (·.sl.timing) (by exact fun _ => rfl) _ b).trans (Hub.setBay_keeps (·.sl.timing) (by exact fun _ => rfl) h b)

section
variable {b : Nat} {d : BitVec 248} {a : Nat} {s : State} (hb : b < 128) (hd : pay d 247 240 = 0x81) (htouch : bit d.toNat 175 = false)
include hb hd htouch

theorem exec_drowseBlock_first (hup : (s.hub.bay b).link.state = .up) (htold : (s.hub.bay b).sl.drowseTold = true) :
    exec (.drowseBlock b d a) s = .next (s.to (drowseSeen b d (enterDrowse b s.hub))) := by
  refine onHub_next_bay hb ?_
  rw [if_neg (by simp [hd, hup, htold])]
  simp only [hup, htouch, Bool.false_and, Bool.false_eq_true, reduceCtorEq, false_and, if_true, if_false, drowseSeen]

theorem exec_drowseBlock_measured (hdrowse : (s.hub.bay b).link.state = .drowse) (hnum : pay d 207 192 = (s.hub.bay b).sl.timing.markNum) :
    exec (.drowseBlock b d a) s = .next (s.to (delayMeasured b (delayOf (s.hub.bay b).sl.timing a (pay d 239 208))
      (drowseSeen b d (setLink b (fun x => { x with lastGood := s.hub.now }) s.hub)))) := by
  refine onHub_next_bay hb ?_
  rw [if_neg (by simp [hd, hdrowse])]
  have hkeeps := drowseSeen_timing b d (fun x => { x with lastGood := s.hub.now }) s.hub
  rw [drowseSeen] at hkeeps
  simp only [hdrowse, htouch, hkeeps, hnum, Bool.false_and, Bool.false_eq_true, reduceCtorEq, and_self, if_true, if_false, drowseSeen]

end

/-! ### Markers, WAKE and the wake line (R105, R119, R196, R197) -/

/-- A DROWSE block that asks for no answer carries the marker fields alone. -/
theorem sendDrowse_marker (b : Nat) (h : Hub) :
    sendDrowse b false h =
      setSl b (fun x => { x with timing := { x.timing with markNum := h.ticks / 15974400 % 65536, markLaunch := h.ticks } })
        (sendBlockTo b blkDrowse (atBit 0x01 240 + atBit (h.ticks + linkDelay h b) 176 + atBit (h.ticks / 15974400 % 65536) 160) h) := by
  have hquery : atBit (b2n false) 159 = 0 := Nat.zero_mul _
  rw [sendDrowse, hquery, Nat.add_zero]

section
variable {b : Nat} {s : State} (hb : b < 128) (hdrowse : (s.hub.bay b).link.state = .drowse)
include hb hdrowse

theorem exec_drowseMarkerSend_drowse : exec (.drowseMarkerSend b) s = .next (s.to (sendDrowse b false s.hub)) :=
  onHub_next_bay hb (if_neg (not_not_intro hdrowse))

theorem exec_wake_wanted (hwant : wantsUp s.hub b = true) (hfirst : (s.hub.bay b).link.wakeAt = none) :
    exec (.wake b) s = .next (s.to (sendBlockTo b blkWake 0 (setLink b (fun l => { l with wakeAt := some s.hub.now }) s.hub))) :=
  onHub_next_bay hb ((if_pos hwant).trans (if_pos ⟨hdrowse, hfirst⟩))

end

section
variable {r : Nat} {s : State} (hr : r < 8) (hmask : (s.hub.region r).wakeMasked = false)
include hr hmask

theorem exec_headWakeLow_falls (hchip : s.hub.pwr.chip = .s0) (hon : (s.hub.region r).st ≠ .off) (hs2 : (s.hub.region r).power ≠ .s2)
    (hhigh : (s.hub.region r).wakeLow = false) :
    exec (.headWakeLow r) s = .next (s.to (queryRegion r (s.hub.setRegion r (fun x => { x with wakeLow := true, wakeQueries := 0 })))) := by
  refine onHub_next_region hr ?_
  rw [if_neg (Bool.eq_false_iff.mp hmask), if_neg (not_not_intro hchip), if_neg (not_or.mpr ⟨hon, hs2⟩), if_pos (by simp [hhigh])]

theorem exec_wakeLineMask_due (hlow : (s.hub.region r).wakeLow = true) (hasked : 3 ≤ (s.hub.region r).wakeQueries)
    (hlate : s.hub.passed (s.hub.region r).wakeQueryAt (ms 1) = true) :
    exec (.wakeLineMask r) s =
      .next (s.to (s.hub.setRegion r (fun x => { x with wakeMasked := true, wakeSpurious := satAdd x.wakeSpurious 1 }))) :=
  onHub_next_region hr (if_pos ⟨hlow, by simp [hmask], hasked, hlate⟩)

end

/-! ### The rows -/

/-- Settles O33: a row's conditions decide its guard, and what a block writes of the port leaves the marker it is measured against. That a DROWSE
block that nothing asked for is ignored (log 170) is the model's choice. -/
theorem slatesAndDrowse : Obligations.SlatesAndDrowse := by
  intro b r u d a s hb hr h l v hdr styp necho
  refine ⟨fun hdown => ⟨exec_upstreamSlateReceived_bad hb hdown, exec_upstreamSlateReceived_good hb hdown⟩,
    ?launch, ?marker, ?request, ?block, fun hdrowse => ⟨?markerSend, exec_wake_wanted hb hdrowse⟩,
    fun hmask => exec_headWakeLow_falls hr hmask, fun hlow hmask => exec_wakeLineMask_due hr hmask hlow, ?unmask⟩
  case launch => exact onHub_next_bay hb rfl
  case marker => exact onHub_next_bay hb rfl
  case request => exact fun hup hwant hsend hout => onHub_next_bay hb (if_pos ⟨hup, hwant, hsend, hout⟩)
  case block => exact fun hd htouch => ⟨exec_drowseBlock_first hb hd htouch, exec_drowseBlock_measured hb hd htouch⟩
  case markerSend => rw [exec_drowseMarkerSend_drowse hb hdrowse, sendDrowse_marker]
  case unmask => exact onHub_next_region hr rfl

end Sys2Proof.Machine
end

section
/-! PROOFS. The cascade sides (R107, R108, R348 to R358, R657). -/

namespace Sys2Proof.Machine

/-! ### CHELLO (R350) -/

theorem activeLane_lt_two (x : Side) : activeLane x < 2 := by
  unfold activeLane
  split <;> decide

/-- A CHELLO of the neighbour is kept, with what it says of the geometry. -/
def chelloKept (c : CSide) (m : BitVec 248) (h : Hub) : Hub :=
  modSide c (fun x => { x with helloAt := some h.now, geomVersion := pay m 215 184, geomTag := pay m 183 120 }) h

section
variable {c : CSide} {m : BitVec 248} {s : State}

/-- R350: one that fits brings the side UP, with an answer where it was not; one that does not puts it in FAULT. -/
theorem exec_chello_taken (hused : sideUsed s.hub c = true)
    (hlock : (laneOf (s.hub.side c) (activeLane (s.hub.side c))).locked = true) (hstate : (s.hub.side c).state ≠ .fault)
    (hfw : s.hub.fwReady = true) (hpll : s.hub.clk.serdes.coast = false) (hfirst : (s.hub.side c).helloAt = none) :
    exec (.chello c (activeLane (s.hub.side c)) m) s = .next (s.to (
      if !chelloFits (chelloKept c m s.hub) c m then setSide c .fault 0 (chelloKept c m s.hub)
      else if (s.hub.side c).state = .up then chelloKept c m s.hub
      else setSide c .up 0 (sendChello c (chelloKept c m s.hub)))) := by
  refine onHub_next_unit (activeLane_lt_two _) ?_
  exact if_neg (by simp [hfirst, hused, hlock, hstate, hfw, hpll])

/-- R350: at most one in a ms is looked at. -/
theorem exec_chello_soon {lane t : Nat} (hlane : lane < 2) (hlast : (s.hub.side c).helloAt = some t) (hsoon : s.hub.passed t (ms 1) = false) :
    exec (.chello c lane m) s = .next s := by
  refine onHub_next_unit hlane ?_
  exact if_pos (by simp [hlast, hsoon])

end

/-! ### A side that is UP (R107, R108, R353 to R358) -/

/-- A measurement `d` of the delay on a side: R108 of a port, without its counters. -/
def sideMeasured (d : Int) (x : Side) : Side :=
  if !isOutlier d x.meas then { x with meas := (d.toNat :: x.meas).take 16, outliers := [] }
  else
    let o := (d.toNat :: x.outliers).take 4
    if o.length = 4 ∧ spread o ≤ 2 then { x with meas := o, outliers := [] } else { x with outliers := o }

section
variable {c : CSide} {m : BitVec 248} {a : Nat} {s : State} (hup : (s.hub.side c).state = .up)

/-- An echo of another marker is ignored. -/
theorem exec_cecho_other (hnum : pay m 207 192 ≠ (s.hub.side c).markNum) : exec (.cecho c m a) s = .next s := by
  change execCecho c m a s = _
  exact onHub_next_all (if_pos (Or.inr hnum))

include hup

theorem exec_cecho_own (hnum : pay m 207 192 = (s.hub.side c).markNum) :
    let u := modSide c (sideMeasured (openDiv ((a : Int) - (s.hub.side c).markLaunch - pay m 239 208) 2)) s.hub
    exec (.cecho c m a) s = .next (s.to (if 31948 < meanOf (u.side c).meas then setSide c .fault 4 u else u)) := by
  change execCecho c m a s = _
  exact onHub_next_all (if_neg (not_or.mpr ⟨not_not_intro hup, not_not_intro hnum⟩))

theorem exec_cmarkSend_due (haway : towardMaster s.hub c = false) (hclap : s.hub.hubIndex ≠ s.hub.masterHub ∨ s.hub.clk.tpll.coast = false)
    (hdue : s.hub.ticks / markTicks ≠ (s.hub.side c).markLaunch / markTicks) :
    exec (.cmarkSend c) s =
      .next (s.to (modSide c (fun x => { x with markNum := s.hub.ticks / markTicks % 65536, markLaunch := s.hub.ticks })
        (sendCasc c blkCmark (atBit s.hub.hubIndex 240 + atBit (s.hub.ticks + meanOf (s.hub.side c).meas) 176 +
          atBit (s.hub.ticks / markTicks % 65536) 160) s.hub))) := by
  have hkeeps : ¬(s.hub.hubIndex = s.hub.masterHub ∧ s.hub.clk.tpll.coast = true) := by
    rintro ⟨hmaster, hcoast⟩
    exact hclap.elim (absurd hmaster) (fun h => Bool.noConfusion (h.symm.trans hcoast))
  change execCmarkSend c s = _
  exact onHub_next_all (if_neg (by simpa [hup, haway, hdue] using hkeeps))

theorem exec_cmark_follows (htoward : towardMaster s.hub c = true) (hclap : s.hub.clk.tpll.coast = false) :
    exec (.cmark c m a) s = .next (s.to (followMark (pay m 239 176) a
      (sendCasc c blkCecho (atBit s.hub.hubIndex 240 + atBit (s.hub.ticks - a) 208 + atBit (pay m 175 160) 192) s.hub))) := by
  change execCmark c m a s = _
  exact onHub_next_all (if_neg (by simp [hup, htoward, hclap]))

theorem exec_cascadeSideDown_up {reason : Nat}
    (hlost : reason ≠ 1 ∨ ((s.hub.side c).lane0.locked = false ∧ (s.hub.side c).lane1.locked = false)) :
    exec (.cascadeSideDown c reason) s = .next (s.to (setSide c .down reason s.hub)) :=
  onHub_next_all (if_pos ⟨hup, hlost.imp_right (by simp)⟩)

end

/-! ### The rows -/

/-- Settles O51: a row's conditions decide its guard. The retry 10 ms after any FAULT, a side's way DOWN and a lane switch that leaves it UP (log
142), and the echo of another marker without effect (log 3), are the model's choices. -/
theorem cascadeSides : Obligations.CascadeSides := by
  intro c lane a m s h x
  refine ⟨?chello, ?retry, fun hup => ⟨exec_cmarkSend_due hup, exec_cmark_follows hup, exec_cecho_other, fun _ => exec_cascadeSideDown_up hup⟩,
    ?echo, ?silence, ?laneSwitch⟩
  case chello =>
    intro hused hlane hlock hstate hfw hpll
    subst hlane
    exact ⟨exec_chello_taken hused hlock hstate hfw hpll, fun t => exec_chello_soon (activeLane_lt_two x)⟩
  case retry => exact fun hfault hlate hpll => onHub_next_all (if_pos ⟨hfault, hlate, by simp [h, hpll]⟩)
  case echo => exact fun hup hnum => ⟨_, exec_cecho_own hup hnum, rfl, rfl⟩
  case silence => exact fun hfollows hlate => onHub_next_all (if_pos ⟨hfollows, hlate⟩)
  case laneSwitch => exact onHub_next_all rfl

end Sys2Proof.Machine
end

section
/-! PROOFS. Coexistence of a region and the launch of a burst (R145, R150, R153, R157 to R166). -/

namespace Sys2Proof.Machine

/-! ### The request and its grant (R157 to R164, R166) -/

section
variable {r q : Nat} {s : State} (hr : r < 8)
include hr

theorem exec_coexReqRaise_disabled (hoff : (s.hub.region r).coex.enabled = false) : exec (.coexReqRaise r q) s = .next s := by
  refine onHub_next_region hr ?_
  split
  · rfl
  · exact if_pos (by simp [hoff])

theorem exec_coexGrantSample_disabled (hoff : (s.hub.region r).coex.enabled = false) (g : Bool) :
    exec (.coexGrantSample r q g) s = .next s := by
  refine onHub_next_region hr ?_
  split
  · rfl
  · exact if_pos (by simp [hoff])

section
variable {t : Nat} (hair : airOf s.hub r q = some t) (hon : (s.hub.region r).coex.enabled = true)
include hair hon

theorem exec_coexReqRaise_due (hnew : q ∉ (s.hub.region r).coex.covered) (hdue : t ≤ s.hub.ticks + ticksUs 20) :
    exec (.coexReqRaise r q) s =
      .next (s.to (setCoex r (fun x => { x with covered := (s.hub.region r).coex.covered ++ [q], req := true
                                                pri := coexPri s.hub r ((s.hub.region r).coex.covered ++ [q]) }) s.hub)) := by
  refine onHub_next_region hr ?_
  simp only [hair]
  exact if_neg (by simp [hon, hnew, hdue])

/-- The grant of an item of the call sheet: a queue number of the store, so not a test. -/
theorem exec_coexGrantSample_due (hcov : q ∈ (s.hub.region r).coex.covered) (hopen : q ∉ (s.hub.region r).coex.clear)
    (hdue : t ≤ s.hub.ticks + grantLead s.hub (airBay s.hub r q)) (hq : q < queuesTotal) (g : Bool) :
    exec (.coexGrantSample r q g) s =
      .next (s.to (let u := setCoex r (fun x => { x with gnt := g }) s.hub
                   if g then coexRuns r q u else coexDefer r q u)) := by
  refine onHub_next_region hr ?_
  simp only [hair]
  rw [if_neg (by simp [hon, hcov, hopen, hdue])]
  simp only [Nat.not_le.mpr hq, if_false]

end

/-- With nothing covered that still runs and nothing that is to radiate, all that was covered goes (R158, R159). -/
theorem exec_coexReqFall_idle (hover : ∀ k ∈ (s.hub.region r).coex.covered, stillCovered s.hub r k = false)
    (hitems : ∀ i ∈ s.hub.items r, airOf s.hub r i.q = none) (htests : ∀ k, k < 16 → airOf s.hub r (queuesTotal + k) = none) :
    exec (.coexReqFall r) s =
      .next (s.to (setCoex r (fun x => { x with covered := [], clear := [], req := false, pri := false }) s.hub)) := by
  have hnone : (s.hub.region r).coex.covered.filter (stillCovered s.hub r) = [] :=
    List.filter_eq_nil_iff.mpr fun k hk => Bool.eq_false_iff.mp (hover k hk)
  have hair : ∀ k ∈ (s.hub.items r).map (·.q) ++ (List.range 16).map (queuesTotal + ·), airOf s.hub r k = none := by
    simpa [or_imp, forall_and] using ⟨hitems, htests⟩
  have hclear (l : List Nat) : l.filter (fun k => ([] : List Nat).contains k) = [] := List.filter_eq_nil_iff.mpr fun _ _ => Bool.false_ne_true
  refine onHub_next_region hr ?_
  simp only [hnone]
  rw [List.any_eq_false.mpr fun k hk => ?near]
  case near => simp only [hair k hk, Bool.false_eq_true, not_false_eq_true]
  simp only [hclear, coexPri, List.isEmpty_nil, List.any_nil, Bool.not_true, Bool.and_false, Bool.or_false]

end

/-! ### The launch of a burst (R145, R150, R153) -/

/-- What becomes of a staged burst at the deadline of its slate: it starts, or is refused as not fully staged or outside the limits. -/
def burstTried (b : Nat) (u : Burst) (h : Hub) : Hub :=
  let out := setRadio b (fun y => { y with staged := none }) h
  if !u.desc || decide (u.stsReady < u.stsChips) then
    burstRefused b u .txLate (countRadio b (fun c => { c with txUnstaged := satAdd c.txUnstaged 1 }) out)
  else if !burstAllowed (limits h) (h.bay b).radio u then burstRefused b u .regLimit (regRefused b out)
  else launchBurst b u h

section
variable {b : Nat} {u : Burst} {h : Hub}

theorem burstTried_unstaged (hpart : u.desc = false ∨ u.stsReady < u.stsChips) :
    burstTried b u h = burstRefused b u .txLate
      (countRadio b (fun c => { c with txUnstaged := satAdd c.txUnstaged 1 }) (setRadio b (fun y => { y with staged := none }) h)) :=
  if_pos (by simpa using hpart)

variable (hdesc : u.desc = true) (hsts : u.stsChips ≤ u.stsReady)
include hdesc hsts

theorem burstTried_forbidden (hlim : burstAllowed (limits h) (h.bay b).radio u = false) :
    burstTried b u h = burstRefused b u .regLimit (regRefused b (setRadio b (fun y => { y with staged := none }) h)) :=
  (if_neg (by simp [hdesc, hsts])).trans (if_pos (by simp [hlim]))

theorem burstTried_allowed (hlim : burstAllowed (limits h) (h.bay b).radio u = true) : burstTried b u h = launchBurst b u h :=
  (if_neg (by simp [hdesc, hsts])).trans (if_neg (by simp [hlim]))

end

theorem exec_burstLaunchDeadline_due {b : Nat} {u : Burst} {s : State} (hb : b < 128) (hstaged : (s.hub.bay b).radio.staged = some u)
    (hdue : u.first / slateTicks * slateTicks ≤ s.hub.ticks + launchLead s.hub b + slateTicks) (hair : mayAir s.hub (regionOf b) u.q = true)
    (hemit : (s.hub.bay b).sl.emitStop = false) :
    exec (.burstLaunchDeadline b) s = .next (s.to (burstTried b u s.hub)) := by
  refine onHub_next_bay hb ?_
  simp only [hstaged]
  rw [if_neg (by simpa [hair] using hdue), if_neg (by simp [hemit])]
  rfl

/-! ### The rows -/

/-- Settles O35: a row's conditions decide its guard, and what is staged of a burst and the limits decide what becomes of it. Queue numbers above the
store's for tests (log 36) are the model's choice. -/
theorem airAndGrants : Obligations.AirAndGrants := by
  intro b r q s hb hr
  refine ⟨fun t hair hon => ⟨exec_coexReqRaise_due hr hair hon, ?sample⟩, ?disabled, exec_coexReqFall_idle hr, ?launch⟩
  case sample =>
    intro hcov hopen hdue hq
    have he := exec_coexGrantSample_due hr hair hon hcov hopen hdue hq
    exact ⟨he true, he false⟩
  case disabled => exact fun hoff => ⟨exec_coexReqRaise_disabled hr hoff, exec_coexGrantSample_disabled hr hoff⟩
  case launch =>
    intro u hstaged hdue hair hemit
    rw [exec_burstLaunchDeadline_due hb hstaged hdue hair hemit]
    refine ⟨fun hdesc hsts hlim => ?allowed, fun hdesc hsts hlim => ?forbidden, fun hpart => ?unstaged⟩
    case allowed => rw [burstTried_allowed hdesc hsts hlim]
    case forbidden => rw [burstTried_forbidden hdesc hsts hlim]
    case unstaged => rw [burstTried_unstaged hpart]

end Sys2Proof.Machine
end

section
/-! PROOFS. Test emissions and the coexistence setting (R153, R167 to R169, R555, R558, R559). -/

namespace Sys2Proof.Machine

/-! ### TEST_EMIT (R167 to R169, R558) -/

theorem HostSideOnly.limits_eq {a b : Hub} (h : HostSideOnly a b) : limits b = limits a := (congrArg limits h.eq_with :)

/-- The emission that an entry asks for, before it starts. -/
def testAsked (q : Req) (c : CmdRef) : TestRun :=
  { opc := fld q.payload 2 1, power := fld q.payload 3 1, arg := fld q.payload 4 2 + 4096 * fld q.payload 8 4, ref := c, started := none }

/-- A test is armed at a bay: polling ends, the bay goes to IDLE, and the test begins as soon as it may. -/
def testArmed (b : Nat) (t : TestRun) (h : Hub) : Hub :=
  tryTest b (wakeLink b (setRadio b (fun r => { r with test := some t }) ((endPolling b h).setBay b (fun x => { x with st := .idle }))))

theorem testEmit_allowed {q : Req} {c : CmdRef} {h : Hub}
    (hfields : testFields (fld q.payload 2 1) (fld q.payload 3 1) (fld q.payload 4 2) (fld q.payload 8 4) = true)
    (hfree : (h.bay (fld q.payload 0 2)).radio.test = none)
    (hcal : 0x61 < fld q.payload 2 1 ∨ (h.bay (fld q.payload 0 2)).radio.copy ≠ .cal)
    (hlim : testAllowed (limits h) (fld q.payload 2 1) (fld q.payload 3 1) (fld q.payload 4 2) = true) :
    testEmit q c h = (.later, testArmed (fld q.payload 0 2) (testAsked q c) h) := by
  have hidle : ¬(fld q.payload 2 1 ≤ 0x61 ∧ (h.bay (fld q.payload 0 2)).radio.copy = .cal) :=
    fun ⟨huwb, hrun⟩ => hcal.elim (Nat.not_lt.mpr huwb) (absurd hrun)
  simp only [testEmit, hfields, hfree, hidle, hlim, Option.isSome_none, Bool.not_true, Bool.false_eq_true, if_false]
  rfl

/-- The conditions of TEST_EMIT read nothing that the response ACCEPTED changes. -/
theorem exec_testEmit_allowed {q : Req} {s : State} (ha : passes specTestEmit q s.hub = true)
    (hfields : testFields (fld q.payload 2 1) (fld q.payload 3 1) (fld q.payload 4 2) (fld q.payload 8 4) = true)
    (hfree : ((taken q s).bay (fld q.payload 0 2)).radio.test = none)
    (hcal : 0x61 < fld q.payload 2 1 ∨ ((taken q s).bay (fld q.payload 0 2)).radio.copy ≠ .cal)
    (hlim : testAllowed (limits (taken q s)) (fld q.payload 2 1) (fld q.payload 3 1) (fld q.payload 4 2) = true) :
    exec (.testEmit q) s =
      .next (s.to (testArmed (fld q.payload 0 2) (testAsked q (refOf specTestEmit q)) (accept specTestEmit q (taken q s)))) := by
  refine answers_later_of_hostSide rfl ha fun h hh => testEmit_allowed hfields ?_ ?_ ?_
  · rwa [hh.bay_eq]
  · rwa [hh.bay_eq]
  · rwa [hh.limits_eq]

/-! ### TEST_END (R559) -/

theorem testEnd_noTest {q : Req} {c : CmdRef} {h : Hub} (hnone : (h.bay (fld q.payload 0 2)).radio.test = none) :
    testEnd q c h = (.done .ok [] [], h) := by
  simp only [testEnd, hnone]

theorem testEnd_notBegun {q : Req} {c : CmdRef} {h : Hub} {t : TestRun} (ht : (h.bay (fld q.payload 0 2)).radio.test = some t)
    (hwait : t.started = none) : testEnd q c h = (.async .ok [] [], endTest (fld q.payload 0 2) .ok 0 h) := by
  simp only [testEnd, ht, hwait, Option.isNone_none, if_true]

/-! ### COEX_SET (R555) -/

/-- The coexistence of every region named takes the setting at its next slot boundary. -/
def coexWaits (regions : List Nat) (on : Bool) (h : Hub) : Hub :=
  forAll regions (fun r h => setCoex r (fun c => { c with pending := some on }) h) h

theorem coexSet_inRange {q : Req} {c : CmdRef} {h : Hub} (hon : fld q.payload 1 1 ≤ 1) :
    let w := coexWaits (namedRegions (fld q.payload 0 1) h) (fld q.payload 1 1 == 1) h
    coexSet q c h = (.done .ok [⟨8, 1, flags ((List.range 8).map (coexSetting w))⟩] [], w) :=
  if_neg (Nat.not_lt.mpr hon)

/-! ### The rows -/

/-- Settles O5: each body's reply is known, and TEST_EMIT, which runs on, has its effects after ACCEPTED. That a test which has not begun ends with
0 ms (log 54), and that the mask of COEX_SET counts the settings that wait (log 109), are the model's choices. -/
theorem testsAndCoexistence : Obligations.TestsAndCoexistence := by
  intro q s
  refine ⟨exec_testEmit_allowed, fun ha hnone => ?noTest, fun t ha ht hwait => ?notBegun, fun ha hon => ?coex⟩
  case noTest => exact answers_now rfl ha (testEnd_noTest hnone)
  case notBegun => exact answers_done rfl ha (testEnd_notBegun ht hwait)
  case coex => exact answers_now rfl ha (coexSet_inRange hon)

end Sys2Proof.Machine
end

section
/-! PROOFS. BAY_CONFIG and the bay commands that enter the call sheet (R176, R193, R254, R537, R538, R542 to R544). -/

namespace Sys2Proof.Machine

/-! ### BAY_CONFIG (R537, R538) -/

/-- Every bay named is checked before any is changed; where none fails, all of them change. -/
theorem configure_passes {q : Req} {check : Nat → Option Status} {f : Nat → Hub → Hub} {h : Hub}
    (hreg : ∀ b ∈ namedBays h (fld q.payload 0 2), (h.region (regionOf b)).st ≠ .quarantined)
    (hcheck : ∀ b ∈ namedBays h (fld q.payload 0 2), check b = none) :
    configure q check f h = (.done .ok [] [], forAll (namedBays h (fld q.payload 0 2)) f h) := by
  have hnone : (namedBays h (fld q.payload 0 2)).find? (fun b =>
      (if (h.region (regionOf b)).st = .quarantined then some Status.regionQuarantined else check b).isSome) = none := by
    refine List.find?_eq_none.mpr fun b hb => ?_
    simp [hreg b hb, hcheck b hb]
  simp only [configure, hnone]

/-- Settles O1: a section in range fails no bay's check, so every bay named takes it. -/
theorem bayConfigSetsSection : Obligations.BayConfigSetsSection := by
  intro q s u l hreg
  refine ⟨fun ha hsec hok => ?polling, fun ha hok => ?ranging, fun ha hok => ?binding, fun ha hok => ?release⟩
  case polling =>
    have hknown : ¬ 3 < fld q.payload 2 1 := by rw [hsec]; decide
    exact answers_now rfl ha ((if_neg hknown).trans (configure_passes hreg fun _ _ => hok))
  case ranging => exact answers_now rfl ha (configure_passes hreg fun _ _ => hok)
  case binding => exact answers_now rfl ha (configure_passes hreg fun _ _ => hok)
  case release => exact answers_now rfl ha (configure_passes hreg hok)

/-! ### Items that enter the call sheet (R42 to R44) -/

theorem HostSideOnly.slot_eq {a b : Hub} (h : HostSideOnly a b) : b.slot = a.slot := (congrArg Hub.slot h.eq_with :)
theorem HostSideOnly.bayPlans_eq {a b : Hub} (h : HostSideOnly a b) (n : Nat) : bayPlans b n = bayPlans a n := (congrArg (bayPlans · n) h.eq_with :)
theorem HostSideOnly.queueFree_eq {a b : Hub} (h : HostSideOnly a b) (n : Nat) (kept : Bool) : queueFree b n kept = queueFree a n kept :=
  (congrArg (queueFree · n kept) h.eq_with :)
theorem HostSideOnly.authRuns_eq {a b : Hub} (h : HostSideOnly a b) (n : Nat) : authRuns b n = authRuns a n := (congrArg (authRuns · n) h.eq_with :)

/-- With a queue free for its bay, an item enters with the lowest queue number not in use. -/
theorem enqueue_free {kept : Bool} {i : Item} {h : Hub} (hfree : queueFree h i.bay kept = true) :
    (enqueue kept i h).1 = some (freeQueue (h.items (regionOf i.bay))) := by
  simp only [enqueue, hfree, if_true]

/-! ### BAY_MEASURE (R193, R542) -/

/-- The item of the measurement that an entry asks for. -/
def measureItem (q : Req) (c : CmdRef) (h : Hub) : Item :=
  { q := 0, kind := .poll, cls := .auth, bay := fld q.payload 0 2, what := .measure (decide (fld q.payload 2 1 = 1)), earliest := h.slot
    latest := h.slot + 100, hostTag := q.tag, ref := some c, order := h.slot }

/-- The measurement that an entry asks for waits for its grant. -/
def measureAsked (q : Req) (c : CmdRef) (h : Hub) : Hub :=
  setPoll (fld q.payload 0 2) (fun p => { p with measure := some { hf := decide (fld q.payload 2 1 = 1), code := 0, ref := some c } })
    (enqueue false (measureItem q c h) h).2

/-- What a measurement needs at bay `x` cannot be had: its coil is marked open, or an external field is there (R193, R211). -/
def coilTaken (hf : Bool) (x : Bay) : Bool := if hf then x.poll.hfOpen || x.hf.extField else x.poll.lfOpen

theorem coilTaken_eq_false {hf : Bool} {x : Bay} :
    coilTaken hf x = false ↔ (if hf then x.poll.hfOpen else x.poll.lfOpen) = false ∧ (hf && x.hf.extField) = false := by
  cases hf <;> simp [coilTaken]

/-! ### TAKE (R543) -/

/-- The take that an entry asks for on dialogue `d`. -/
def takeAsked (q : Req) (c : CmdRef) (d : Dialogue) (h : Hub) : TakeAsk :=
  { due := h.slot, latest := h.slot + 500, rapid := rapidSelected d (bit (fld q.payload 2 1) 0), noListen := bit (fld q.payload 2 1) 1, ref := some c
    room := q.room }

/-- A take is planned exactly where its bay has a queue for it. -/
theorem planTake_planned {b : Nat} {a : TakeAsk} {h : Hub} {d : Dialogue} (hd : (h.bay b).dlgV = some d) :
    (planTake b a h).1 = queueFree h b (inSession (h.bay b) d) := by
  cases hqueue : queueFree h b (inSession (h.bay b) d) with
  | true => simp only [planTake, hd, enqueue, hqueue, if_true]
  | false => simp only [planTake, hd, enqueue, hqueue, Bool.false_eq_true, if_false]

/-! ### CARD_EXCHANGE (R544) -/

/-- The item of the exchange that an entry asks for. -/
def exchangeItem (q : Req) (c : CmdRef) (h : Hub) : Item :=
  { q := 0, kind := .discovery, cls := .auth, bay := fld q.payload 0 2, what := .hfPoll, earliest := h.slot, latest := h.slot + 10000, tclass := 1
    hostTag := q.tag, ref := some c, order := h.slot }

/-- The transaction of the exchange that an entry asks for, with its item in queue `k`. -/
def exchangeTxn (q : Req) (c : CmdRef) (k : Nat) : ReaderTxn :=
  { kind := if bit (fld q.payload 2 1) 2 then 0 else 3, q := k, write := bit (fld q.payload 2 1) 0, deselect := bit (fld q.payload 2 1) 1
    apdu := if fld q.payload 3 1 = 0 then q.data else (q.payload.drop 4).take (fld q.payload 3 1), deadline := 0, limit := 0, ref := some c
    room := q.room }

/-- The exchange that an entry asks for waits for its grant. -/
def exchangeAsked (q : Req) (c : CmdRef) (h : Hub) : Hub :=
  setHf (fld q.payload 0 2) (fun x => { x with waiting := x.waiting ++ [exchangeTxn q c (freeQueue (h.items (regionOf (fld q.payload 0 2))))] })
    (enqueue false (exchangeItem q c h) h).2

/-! ### The rows -/

section
variable {q : Req} {s : State} {b : Nat} (hb : fld q.payload 0 2 = b) (hplans : bayPlans (taken q s) b = true)
include hb hplans

theorem exec_bayMeasure_free (ha : passes specBayMeasure q s.hub = true) (hcoil : fld q.payload 2 1 ≤ 1)
    (hqueue : queueFree (taken q s) b false = true) (hidle : ((taken q s).bay b).poll.measure = none)
    (hfree : coilTaken (decide (fld q.payload 2 1 = 1)) ((taken q s).bay b) = false) :
    exec (.bayMeasure q) s = .next (s.to (measureAsked q (refOf specBayMeasure q) (accept specBayMeasure q (taken q s)))) := by
  subst hb
  obtain ⟨hclosed, hnoField⟩ := coilTaken_eq_false.mp hfree
  refine answers_later_of_hostSide rfl ha fun h hh => ?_
  rw [← hh.queueFree_eq] at hqueue
  have hqueued : (enqueue false (measureItem q (refOf specBayMeasure q) h) h).1.isSome = true := by rw [enqueue_free hqueue, Option.isSome_some]
  simp only [bayMeasure, hh.bayPlans_eq, hh.bay_eq, Nat.not_lt.mpr hcoil, hplans, hclosed, hnoField, hidle, Option.isSome_none, Bool.not_true,
    Bool.false_eq_true, if_false]
  exact if_pos hqueued

theorem exec_take_planned {d : Dialogue} (ha : passes specTake q s.hub = true) (hd : ((taken q s).bay b).dlgV = some d)
    (hdone : d.auth.phase = .done) (hidle : ((taken q s).bay b).take = none) (hcal : ((taken q s).bay b).radio.copy ≠ .cal)
    (hchan : (limits (taken q s)).channel d.cfg.uwbCh 0 = true)
    (hplanned : (planTake b (takeAsked q (refOf specTake q) d (taken q s)) (taken q s)).1 = true) :
    exec (.take q) s = .next (s.to (planTake b (takeAsked q (refOf specTake q) d (taken q s)) (accept specTake q (taken q s))).2) := by
  subst hb
  refine answers_later_of_hostSide (eff := fun h => (planTake _ _ h).2) rfl ha fun h hh => ?_
  have hask : takeAsked q (refOf specTake q) d h = takeAsked q (refOf specTake q) d (taken q s) := by simp only [takeAsked, hh.slot_eq]
  rw [planTake_planned hd, ← hh.queueFree_eq, ← hh.bay_eq, ← planTake_planned (by rwa [hh.bay_eq])] at hplanned
  simp only [takeCommand, hh.bayPlans_eq, hh.bay_eq, hh.limits_eq, hd, hdone, hplans, hidle, hcal, hchan, Option.isSome_none, ne_eq,
    not_true_eq_false, Bool.not_true, Bool.false_eq_true, or_self, if_false]
  rw [takeAsked] at hask
  rw [hask]
  exact if_pos hplanned

theorem exec_cardExchange_free (ha : passes specCardExchange q s.hub = true) (hlen : q.len = 4 + fld q.payload 3 1)
    (hflags : fld q.payload 2 1 ≤ 7) (hdata : fld q.payload 3 1 = 0 → 1 ≤ q.data.length ∧ q.data.length ≤ 4096)
    (hqueue : queueFree (taken q s) b false = true) (hauth : authRuns (taken q s) b = false) (hclosed : ((taken q s).bay b).poll.hfOpen = false)
    (hfield : ((taken q s).bay b).hf.extField = false) (howned : ((taken q s).bay b).hf.owned = false) :
    exec (.cardExchange q) s = .next (s.to (exchangeAsked q (refOf specCardExchange q) (accept specCardExchange q (taken q s)))) := by
  subst hb
  have hsized : ¬(q.len ≠ 4 + fld q.payload 3 1 ∨ fld q.payload 3 1 = 0 ∧ (q.data.length < 1 ∨ 4096 < q.data.length)) := by omega
  refine answers_later_of_hostSide rfl ha fun h hh => ?_
  rw [← hh.queueFree_eq] at hqueue
  have hqueued := enqueue_free (i := exchangeItem q (refOf specCardExchange q) h) hqueue
  rw [exchangeItem] at hqueued
  simp only [cardExchange, hsized, Nat.not_lt.mpr hflags, hh.bayPlans_eq, hh.authRuns_eq, hh.bay_eq, hplans, hauth, hclosed, hfield, howned,
    Bool.not_true, Bool.or_self, Bool.false_eq_true, if_false, hqueued]
  rfl

end

/-- Settles O4: what a command needs of its bay it needs of the hub after ACCEPTED as well, where its item enters. The item of an exchange with its
LATEST (log 62) and the free queue with the lowest number (log 29) are the model's choices. -/
theorem bayItemsQueued : Obligations.BayItemsQueued := by
  intro q s u b hplans
  exact ⟨exec_bayMeasure_free rfl hplans, fun d => exec_take_planned rfl hplans, exec_cardExchange_free rfl hplans⟩

end Sys2Proof.Machine
end

section
/-! PROOFS. The limits of a dialogue and of a watch, the loss of the external field, and BLINK (R199, R201, R203, R209, R335 to R337, R340, R341,
R346). -/

namespace Sys2Proof.Machine

/-! ### The limits of a dialogue (R335 to R337, R346) -/

section
variable {b : Nat} {k : TokenClass} {s : State} {d : Dialogue} (hb : b < 128) (hd : (s.hub.bay b).dlg k = some d)
include hb hd

theorem exec_lostTimeout_due (hlost : d.verdict = .lost) (hlate : s.hub.passed d.since (sec 10) = true) :
    exec (.lostTimeout b k) s =
      .next (s.to (if inSession (s.hub.bay b) d then trigger b cTokenLost s.hub else endDialogue b k .dialogueEnd s.hub)) := by
  refine onHub_next_bay hb ?_
  simp only [hd]
  exact if_pos ⟨hlost, hlate⟩

theorem exec_contestedTimeout_due (hk : k = .v) (hcontested : d.verdict = .contested) (hlate : s.hub.passed d.since (sec 10) = true)
    (hsess : inSession (s.hub.bay b) d = true) :
    exec (.contestedTimeout b k) s = .next (s.to (moveVerdict b k .lost .competitor 0 {} s.hub)) := by
  refine onHub_next_bay hb ?_
  simp only [hd]
  exact if_pos ⟨hk, hcontested, hlate, hsess⟩

theorem exec_engageLimitExpiry_due {t : Nat} (ht : d.limitFrom = some t) (hlate : s.hub.passed t (sec d.bcfg.engageLimit) = true)
    (hfree : inSession (s.hub.bay b) d = false) :
    exec (.engageLimitExpiry b k) s = .next (s.to (endDialogue b k .dialogueEnd s.hub)) := by
  refine onHub_next_bay hb ?_
  simp only [hd, ht]
  exact if_pos (by simp [hlate, hfree])

end

/-! ### The ends of WATCH and of the external field (R199, R201, R203, R209) -/

section
variable {b : Nat} {s : State} (hb : b < 128)
include hb

theorem exec_watchHoldExpiry_due (hidle : watchIdle s.hub b = true) (hpol : effectivePolicy (s.hub.bay b) = .capacitive)
    (hlate : s.hub.passed (s.hub.bay b).poll.holdFrom (sec (s.hub.bay b).poll.cfg.watchHold) = true) :
    exec (.watchHoldExpiry b) s = .next (s.to (leaveWatch b .idle s.hub)) :=
  onHub_next_bay hb (if_pos (by simp [hidle, hpol, hlate]))

theorem exec_darkEntry_due (hidle : watchIdle s.hub b = true) (hpol : effectivePolicy (s.hub.bay b) = .continuous)
    (hweeks : 0 < (s.hub.bay b).poll.cfg.darkWeeks)
    (hlate : (s.hub.bay b).poll.darkFrom + ((s.hub.bay b).poll.cfg.darkWeeks * 604800 : Nat) ≤ (s.hub.aon.rtc : Int)) :
    exec (.darkEntry b) s =
      .next (s.to (countPoll b (fun c => { c with darkEntry := satAdd c.darkEntry 1 }) (leaveWatch b .dark s.hub))) := by
  rw [Int.natCast_mul] at hlate
  exact onHub_next_bay hb (if_pos (by simpa [hidle, hpol, hweeks] using hlate))

theorem exec_externalFieldLost_due {t : Nat} (ht : (s.hub.bay b).hf.belowSince = some t) (hfield : (s.hub.bay b).hf.extField = true)
    (hlate : s.hub.passed t (us 100) = true) :
    exec (.externalFieldLost b) s =
      .next (s.to (setHf b (fun x => { tagReset x with extField := false, belowSince := none, halted := false, uid := none
                                                       ownEnd := if x.owned then some (s.hub.now + ms 5) else none }) s.hub)) := by
  refine onHub_next_bay hb ?_
  simp only [ht]
  exact if_pos (by simp [hfield, hlate])

end

/-! ### BLINK (R340, R341) -/

/-- A row has one next state. -/
theorem eq_of_next_to {t : Turn} {s : State} {g h : Hub} (hg : t = .next (s.to g)) (hh : t = .next (s.to h)) : g = h :=
  congrArg State.hub (Host.Outcome.next.inj (hg.symm.trans hh))

theorem exec_blink_next (m : BlinkMsg) (s : State) : ∃ g, exec (.blink m) s = .next (s.to g) :=
  ⟨_, (onHub_next_all rfl : execBlink m s = _)⟩

/-- The field CAPS that a blink brings. -/
def blinkCaps (m : BlinkMsg) : List Fld := [⟨32, 1, fld m.payload 9 1⟩]

theorem exec_blink_unheard {m : BlinkMsg} {s : State} (hnone : blinkHeard m s.hub = []) : exec (.blink m) s = .next (s.to s.hub) := by
  change execBlink m s = _
  refine onHub_next_all ?_
  simp only [hnone]

section
variable {m : BlinkMsg} {s : State} {p : Nat × Int} {l : List (Nat × Int)} (hheard : blinkHeard m s.hub = p :: l) (hmode : m.badMode = false)
  (hlen : m.payload.length = 13) (hkind : byteAt m.payload 0 = 0x01) (hcreds : s.hub.creds.loading = false)
include hheard hmode hlen hkind hcreds

/-- R339: a token engaged elsewhere is evidence at every other bay that hears it. -/
theorem exec_blink_engagedElsewhere {e : Nat} (heng : engagedAt s.hub .v (fld m.payload 1 8) = some e) :
    exec (.blink m) s = .next (s.to ((p :: l).foldl
      (fun s p => if p.1 = e then s else heardElsewhere p.1 .v 0 (fld m.payload 1 8) (blinkCaps m) s) s.hub)) := by
  change execBlink m s = _
  refine onHub_next_all ?_
  simp only [hheard, hmode, hlen, hkind, hcreds, heng, blinkCaps, ne_eq, not_true_eq_false, Bool.false_eq_true, or_self, if_false]

theorem exec_blink_ignored (hfree : engagedAt s.hub .v (fld m.payload 1 8) = none) (hback : inBackoff s.hub .v (fld m.payload 1 8) = true) :
    exec (.blink m) s = .next (s.to (countBackoff (l.foldl earlier p).1 s.hub)) := by
  change execBlink m s = _
  refine onHub_next_all ?_
  simp only [hheard, hmode, hlen, hkind, hcreds, hfree, hback, ne_eq, not_true_eq_false, Bool.false_eq_true, or_self, if_false, if_true]

theorem exec_blink_engages (hfree : engagedAt s.hub .v (fld m.payload 1 8) = none) (hback : inBackoff s.hub .v (fld m.payload 1 8) = false) :
    exec (.blink m) s = .next (s.to (engageAuth
      ((l.filter (fun q => decide ((q.2 - (l.foldl earlier p).2).natAbs ≤ 256 * ticksUs 1))).foldl earlier (l.foldl earlier p)).1 .v 0
      (fld m.payload 1 8) (blinkCaps m) s.hub)) := by
  change execBlink m s = _
  refine onHub_next_all ?_
  simp only [hheard, hmode, hlen, hkind, hcreds, hfree, hback, blinkCaps, ne_eq, not_true_eq_false, Bool.false_eq_true, or_self, if_false]

end

/-! ### The rows -/

/-- Settles O39: a row's conditions decide its guard, and where a blink is heard, where its token is engaged and its back-off decide what BLINK does.
That a token engaged elsewhere is looked for before back-off (log 78) is the model's choice. -/
theorem watchLimitsAndBlinks : Obligations.WatchLimitsAndBlinks := by
  refine ⟨fun b k s hb => ?limits, fun m s hmode hlen hkind hcreds => ?blink⟩
  case limits =>
    exact ⟨fun d hd => ⟨exec_lostTimeout_due hb hd, exec_contestedTimeout_due hb hd, fun t => exec_engageLimitExpiry_due hb hd⟩,
      exec_watchHoldExpiry_due hb, exec_darkEntry_due hb, fun t => exec_externalFieldLost_due hb⟩
  case blink =>
    obtain ⟨g, hg⟩ := exec_blink_next m s
    refine ⟨s.to g, hg, rfl, fun hnone => ?unheard,
      fun p l hheard => ⟨fun e heng => ?elsewhere, fun hfree => ⟨fun hback => ?ignored, fun hback => ?engages⟩⟩⟩
    case unheard => exact eq_of_next_to hg (exec_blink_unheard hnone)
    case elsewhere => exact eq_of_next_to hg (exec_blink_engagedElsewhere hheard hmode hlen hkind hcreds heng)
    case ignored => exact eq_of_next_to hg (exec_blink_ignored hheard hmode hlen hkind hcreds hfree hback)
    case engages => exact eq_of_next_to hg (exec_blink_engages hheard hmode hlen hkind hcreds hfree hback)

end Sys2Proof.Machine
end

section
/-! PROOFS. BAY_STATUS and the reads of a tag, a region, the limits, the queues and the capture ring (R42, R236, R534 to R536, R545, R557, R560,
R561, R607). -/

namespace Sys2Proof.Machine

section
variable {q : Req} {c : CmdRef} {h : Hub}

theorem bayStatus_answers (hactive : bit (fld q.payload 2 1) 1 = true → fromActive q h = true) (hroom : bit (fld q.payload 2 1) 0 = true → 512 ≤ q.room) :
    bayStatus q c h =
      (.done .ok (bayStatusResult h (fld q.payload 0 2)) (if bit (fld q.payload 2 1) 0 then counterBlock h (fld q.payload 0 2) else []),
       if bit (fld q.payload 2 1) 1 then clearCounters (fld q.payload 0 2) h else h) := by
  have hfits : ¬(bit (fld q.payload 2 1) 0 = true ∧ q.room < 512) := fun ⟨hcnt, hshort⟩ => Nat.not_lt.mpr (hroom hcnt) hshort
  have hmay : ¬(bit (fld q.payload 2 1) 1 = true ∧ (!fromActive q h) = true) := fun ⟨hclear, hother⟩ => by simp [hactive hclear] at hother
  exact (if_neg hfits).trans (if_neg hmay)

theorem bayTagRead_answers (hop : fld q.payload 2 1 = 1) (hblocks : fld q.payload 3 1 + fld q.payload 4 1 ≤ 16)
    (hroom : 64 * fld q.payload 4 1 ≤ q.room) :
    bayTagRead q c h =
      (.done .ok (tagResult h (fld q.payload 0 2)) ((h.img (fld q.payload 0 2)).bytes (64 * fld q.payload 3 1) (64 * fld q.payload 4 1)), h) :=
  (if_neg (not_not_intro hop)).trans ((if_neg (Nat.not_lt.mpr hblocks)).trans (if_neg (Nat.not_lt.mpr hroom)))

theorem queueDump_answers (hmode : fld q.payload 1 1 ≤ 2) (hbay : fld q.payload 1 1 = 1 → regionOf (fld q.payload 2 2) = fld q.payload 0 1)
    (hqueue : fld q.payload 1 1 = 0 → fld q.payload 4 4 < queuesTotal) (hroom : 32 ≤ q.room) (hon : (h.region (fld q.payload 0 1)).st ≠ .off) :
    let l := dumped h (fld q.payload 0 1) (fld q.payload 1 1) (fld q.payload 2 2) (fld q.payload 4 4)
    let n := min l.length (q.room / 32)
    queueDump q c h = (.done .ok [⟨8, 4, n⟩, ⟨12, 4, l.length⟩] (l.take n).flatten, h) := by
  have hnames : ¬(2 < fld q.payload 1 1 ∨ (fld q.payload 1 1 = 1 ∧ regionOf (fld q.payload 2 2) ≠ fld q.payload 0 1) ∨
      (fld q.payload 1 1 = 0 ∧ queuesTotal ≤ fld q.payload 4 4)) := by
    rintro (hover | ⟨hone, helse⟩ | ⟨hzero, hnone⟩)
    · exact Nat.not_lt.mpr hmode hover
    · exact helse (hbay hone)
    · exact Nat.not_lt.mpr hnone (hqueue hzero)
  exact (if_neg hnames).trans ((if_neg (Nat.not_lt.mpr hroom)).trans (if_neg hon))

theorem captureRead_answers (hmin : 1 ≤ fld q.payload 1 1) (hmax : fld q.payload 1 1 ≤ 16) (hofs : fld q.payload 4 4 ≤ 0x3FFFFF)
    (hroom : 4096 * fld q.payload 1 1 ≤ q.room) :
    captureRead q c h = (.done .ok [] (captureBytes (h.region (fld q.payload 0 1)) (fld q.payload 4 4) (4096 * fld q.payload 1 1)), h) := by
  have hinRange : ¬(fld q.payload 1 1 < 1 ∨ 16 < fld q.payload 1 1 ∨ 0x3FFFFF < fld q.payload 4 4) := by omega
  exact (if_neg hinRange).trans (if_neg (Nat.not_lt.mpr hroom))

end

/-- Settles O17: an entry that passes its body's own checks is answered at once; REGION_STATUS and COMPLIANCE_READ have none. -/
theorem bayAndRegionReads : Obligations.BayAndRegionReads := by
  intro q s
  refine ⟨fun ha hactive hroom => ?bayStatus, fun ha hop hblocks hroom => ?bayTagRead, fun ha => ?regionStatus, fun ha => ?complianceRead,
    fun ha hmode hbay hqueue hroom hon => ?queueDump, fun ha hmin hmax hofs hroom => ?captureRead⟩
  case bayStatus => exact answers_now rfl ha (bayStatus_answers hactive hroom)
  case bayTagRead => exact answers_now rfl ha (bayTagRead_answers hop hblocks hroom)
  case regionStatus => exact answers_now rfl ha rfl
  case complianceRead => exact answers_now rfl ha rfl
  case queueDump => exact answers_now rfl ha (queueDump_answers hmode hbay hqueue hroom hon)
  case captureRead => exact answers_now rfl ha (captureRead_answers hmin hmax hofs hroom)

end Sys2Proof.Machine
end

section
/-! PROOFS. The wire side of the bay tag: BAY_TAG WRITE, REARM and ENABLE (R236, R237, R239, R545). -/

namespace Sys2Proof.Machine

section
variable {b : Nat} {w : WireWrite} {h : Hub}

theorem wireWrite_committed {v : Hub} (hfree : (h.bay b).hf.owned = false) (hok : wireCommit b w h = (.ok, v)) :
    wireWrite b w h = (.done .ok (tagResult v b) [], v) := by
  simp only [wireWrite, hfree, hok, Bool.not_false, if_true]

theorem wireWrite_queued (howned : (h.bay b).hf.owned = true) (hplace : (h.bay b).hf.wire.length < 4) :
    wireWrite b w h = (.later, setHf b (fun x => { x with wire := x.wire ++ [w] }) h) := by
  simp only [wireWrite, howned, Nat.not_le.mpr hplace, Bool.not_true, Bool.false_eq_true, if_false]

end

section
variable {q : Req} {c : CmdRef} {h : Hub}

theorem bayTagWrite_inRange (hfirst : 1 ≤ fld q.payload 3 1) (hlast : fld q.payload 3 1 + fld q.payload 4 1 ≤ 14)
    (hdata : q.data.length = 64 * fld q.payload 4 1) : bayTagWrite q c h = wireWrite (fld q.payload 0 2) (wireOf q c h) h := by
  have hblocks : ¬(fld q.payload 3 1 < 1 ∨ 14 < fld q.payload 3 1 + fld q.payload 4 1) := by omega
  exact (if_neg hblocks).trans (if_neg (not_not_intro hdata))

theorem bayTagRearm_inRange (harg : fld q.payload 3 1 ≤ 1) : bayTagRearm q c h = wireWrite (fld q.payload 0 2) (wireOf q c h) h :=
  if_neg (Nat.not_lt.mpr harg)

theorem bayTagEnable_inRange (harg : fld q.payload 3 1 ≤ 1) : bayTagEnable q c h = wireWrite (fld q.payload 0 2) (wireOf q c h) h :=
  if_neg (Nat.not_lt.mpr harg)

end

section
variable {i : Instr} {q : Req} {s : State} {c : Spec} {body : Req → CmdRef → Hub → Reply × Hub}
  (he : exec i s = onHub (fun h => .next (hostCommand c body q h)) s) (ha : passes c q s.hub = true)
  (hbody : ∀ h, body q (refOf c q) h = wireWrite (fld q.payload 0 2) (wireOf q (refOf c q) h) h)
include he ha hbody

/-- A row that is a wire write, while the field side does not own the tag. -/
theorem exec_wireWrite_committed {v : Hub} (hfree : ((taken q s).bay (fld q.payload 0 2)).hf.owned = false)
    (hok : wireCommit (fld q.payload 0 2) (wireOf q (refOf c q) (taken q s)) (taken q s) = (.ok, v)) :
    exec i s = .next (s.to (okNow c q (tagResult v (fld q.payload 0 2)) [] v)) :=
  answers_now he ha ((hbody _).trans (wireWrite_committed hfree hok))

/-- A row that is a wire write, while the field side owns the tag and a place is free (R239). -/
theorem exec_wireWrite_queued (howned : ((taken q s).bay (fld q.payload 0 2)).hf.owned = true)
    (hplace : ((taken q s).bay (fld q.payload 0 2)).hf.wire.length < 4) :
    exec i s = .next (s.to (setHf (fld q.payload 0 2)
      (fun x => { x with wire := x.wire ++ [wireOf q (refOf c q) (accept c q (taken q s))] }) (accept c q (taken q s)))) := by
  refine answers_later_of_hostSide (eff := fun h => setHf _ (fun x => { x with wire := x.wire ++ [wireOf q (refOf c q) h] }) h) he ha fun h hh => ?_
  rw [← hh.bay_eq] at howned hplace
  exact (hbody h).trans (wireWrite_queued howned hplace)

end

/-- Settles O6: past its own checks each of the three rows is one wire write, which the ownership of the tag commits or queues. -/
theorem tagWrites : Obligations.TagWrites := by
  intro i c q s u a b hrow ha
  obtain ⟨body, he, hbody⟩ : ∃ body : Req → CmdRef → Hub → Reply × Hub, exec i s = onHub (fun h => .next (hostCommand c body q h)) s ∧
      ∀ h, body q (refOf c q) h = wireWrite b (wireOf q (refOf c q) h) h := by
    rcases hrow with ⟨rfl, rfl, hfirst, hlast, hdata⟩ | ⟨rfl, rfl, harg⟩ | ⟨rfl, rfl, harg⟩
    · exact ⟨bayTagWrite, rfl, fun _ => bayTagWrite_inRange hfirst hlast hdata⟩
    · exact ⟨bayTagRearm, rfl, fun _ => bayTagRearm_inRange harg⟩
    · exact ⟨bayTagEnable, rfl, fun _ => bayTagEnable_inRange harg⟩
  exact ⟨fun v => exec_wireWrite_committed he ha hbody, exec_wireWrite_queued he ha hbody⟩

end Sys2Proof.Machine
end

section
/-! PROOFS. The bay tag and the reader without an APDU: listening, activation, ownership, waiting writes and waiting times (R213 to R215, R222,
R224, R226, R227, R234, R238, R239). -/

namespace Sys2Proof.Machine

/-! ### Listening and activation (R224, R226, R227, R234, R238) -/

section
variable {b : Nat} {s : State} (hb : b < 128)
include hb

theorem exec_tagListenGap_due (hst : (s.hub.bay b).st = .watch) (hmode : (s.hub.bay b).poll.cfg.hfMode = .continuousField)
    (henable : (s.hub.bay b).hf.img.enable = true) (hnone : (s.hub.bay b).hf.gapTo = none) (hidle : readerBusy s.hub b = false)
    (hdue : s.hub.passed (s.hub.bay b).hf.gapLast (ms 400) = true) (hup : isUp s.hub b = true) :
    exec (.tagListenGap b) s =
      .next (s.to (setRole b true (setHf b (fun x => { x with gapTo := some (s.hub.now + ms 40), gapLast := s.hub.now }) s.hub))) :=
  onHub_next_bay hb (if_pos ⟨hst, hmode, henable, hnone, by simp [hidle], hdue, hup⟩)

/-- REQA does not wake a tag in HALT (R227). -/
theorem exec_tagReqa_halted (hhalt : (s.hub.bay b).hf.halted = true) : exec (.tagReqa b false) s = .next s :=
  onHub_next_bay hb (if_neg (by simp [hhalt]))

section
variable (hlisten : tagListens s.hub b = true) (hidle : (s.hub.bay b).hf.active = false)
include hlisten hidle

theorem exec_tagReqa_answered {wupa : Bool} (hcall : wupa = true ∨ (s.hub.bay b).hf.halted = false) :
    exec (.tagReqa b wupa) s = .next (s.to (sendHf b [0x04, 0x00] s.hub)) :=
  onHub_next_bay hb (if_pos (by simpa [hlisten, hidle] using hcall))

/-- SELECT of its UID activates the tag where its coil can be held: the field side owns it (R234, R238). -/
theorem exec_tagAnticollisionSelect_own {u : Hub} (hcoil : holdCoil b s.hub = some u) :
    exec (.tagAnticollisionSelect b (tagUid s.hub b)) s =
      .next (s.to (setHf b (fun y => { tagReset y with active := true, halted := false, owned := true, ownEnd := none
                                                       cnt := { y.cnt with tagSelects := satAdd y.cnt.tagSelects 1 } })
        (sendHf b (withCrc false [0x20]) u))) := by
  refine onHub_next_bay hb ?_
  simp only [hlisten, hidle, hcoil, Bool.not_false, decide_true, Bool.and_self, if_true]

end

/-- HLTA is not answered, S(DESELECT) is; either halts the tag and ends the ownership (R234, R238). -/
theorem exec_tagDeselect_active (hlisten : tagListens s.hub b = true) (hact : (s.hub.bay b).hf.active = true) (hlta : Bool) :
    exec (.tagDeselect b hlta) s =
      .next (s.to (endOwnership b (setHf b (fun x => { tagReset x with halted := true })
        (if hlta then s.hub else sendHf b (withCrc false sDeselect) s.hub)))) :=
  onHub_next_bay hb (if_neg (by simp [hlisten, hact]))

/-! ### The end of ownership and the writes that waited (R238, R239) -/

theorem exec_tagOwnershipEnd_due {t : Nat} (ht : (s.hub.bay b).hf.ownEnd = some t) (howned : (s.hub.bay b).hf.owned = true) (hdue : t ≤ s.hub.now) :
    exec (.tagOwnershipEnd b) s = .next (s.to (endOwnership b s.hub)) := by
  refine onHub_next_bay hb ?_
  simp only [ht]
  exact if_pos (by simp [howned, hdue])

/-- The one write that waits has waited 250 ms: it ends BUSY. -/
theorem exec_tagWireWriteTimeout_one {w : WireWrite} (hone : (s.hub.bay b).hf.wire = [w]) (hold : s.hub.passed w.received (ms 250) = true) :
    exec (.tagWireWriteTimeout b) s =
      .next (s.to (let u := setHf b (fun x => { x with wire := x.wire.filter (fun w => !s.hub.passed w.received (ms 250)) }) s.hub
                   finish w.ref .busy (tagResult u b) [] (countWireBusy b u))) := by
  refine onHub_next_bay hb ?_
  have hends : [w].filter (fun w => s.hub.passed w.received (ms 250)) = [w] := by simp [hold]
  simp only [hone, hends, List.foldl_cons, List.foldl_nil]

/-! ### The waiting time of the reader's transaction (R213 to R215, R222) -/

section
variable {t : ReaderTxn} (ht : (s.hub.bay b).hf.txn = some t) (hdue : t.deadline ≤ s.hub.now)
include ht hdue

theorem exec_frameWaitingTimeExpiry_activation (hk : t.kind = 0) : exec (.frameWaitingTimeExpiry b) s = .next (s.to (actExpiry b s.hub)) := by
  refine onHub_next_bay hb ?_
  simp only [ht, Nat.not_lt.mpr hdue, hk, false_and, if_false, if_true]

theorem exec_frameWaitingTimeExpiry_retried (hk : t.kind ≠ 0) (hfew : t.retries < 2) (hlim : s.hub.now < t.limit) :
    exec (.frameWaitingTimeExpiry b) s = .next (s.to (askAgain b s.hub)) := by
  refine onHub_next_bay hb ?_
  simp only [ht, Nat.not_lt.mpr hdue, hk, hfew, hlim, and_self, false_and, if_false, if_true]

theorem exec_frameWaitingTimeExpiry_exchange (hk : t.kind = 3) (hspent : 2 ≤ t.retries) :
    exec (.frameWaitingTimeExpiry b) s =
      .next (s.to (if t.write then endTxn b .writeUnknown [] .internal s.hub else endTxn b .cardTimeout [] .wrongState s.hub)) := by
  refine onHub_next_bay hb ?_
  simp [ht, Nat.not_lt.mpr hdue, hk, Nat.not_lt.mpr hspent]

theorem exec_frameWaitingTimeExpiry_pass (hk : t.kind = 2) (hspent : 2 ≤ t.retries) :
    exec (.frameWaitingTimeExpiry b) s =
      .next (s.to (passUnanswered 3 b .c (countTxn b .cardTimeout (setHf b (fun x => { x with txn := none }) s.hub)))) := by
  refine onHub_next_bay hb ?_
  simp [ht, Nat.not_lt.mpr hdue, hk, Nat.not_lt.mpr hspent, endPassTxn]

end
end

theorem actExpiry_wupa {b : Nat} {h : Hub} {t : ReaderTxn} (ht : (h.bay b).hf.txn = some t) (hstep : t.step = .wupa) :
    actExpiry b h = sendAct b .wupb wupb h := by
  simp only [actExpiry, ht, hstep]

theorem actExpiry_wupb_noCard {b : Nat} {h : Hub} {t : ReaderTxn} (ht : (h.bay b).hf.txn = some t) (hstep : t.step = .wupb)
    (hcard : (h.bay b).hf.card = none) : actExpiry b h = endTxn b .noCard [] .wrongState h := by
  simp only [actExpiry, ht, hstep, hcard, Option.isSome_none, Bool.false_eq_true, if_false]

/-! ### The rows -/

/-- Settles O41: a row's conditions decide its guard, and the step or the kind of the transaction decides what its waiting time ends. -/
theorem tagField : Obligations.TagField := by
  intro b s hb
  refine ⟨exec_tagListenGap_due hb, fun hlisten hidle => ?activation, fun hlisten hact => ?deselection, fun t => exec_tagOwnershipEnd_due hb,
    fun w => exec_tagWireWriteTimeout_one hb, fun t ht hdue => ?waiting⟩
  case activation =>
    exact ⟨exec_tagReqa_answered hb hlisten hidle (.inl rfl), fun hawake => exec_tagReqa_answered hb hlisten hidle (.inr hawake),
      exec_tagReqa_halted hb, fun u => exec_tagAnticollisionSelect_own hb hlisten hidle⟩
  case deselection => exact ⟨exec_tagDeselect_active hb hlisten hact true, exec_tagDeselect_active hb hlisten hact false⟩
  case waiting =>
    refine ⟨fun hk hstep => ?wupa, fun hk hstep hcard => ?wupb, exec_frameWaitingTimeExpiry_retried hb ht hdue,
      exec_frameWaitingTimeExpiry_exchange hb ht hdue, exec_frameWaitingTimeExpiry_pass hb ht hdue⟩
    case wupa => rw [exec_frameWaitingTimeExpiry_activation hb ht hdue hk, actExpiry_wupa ht hstep]
    case wupb => rw [exec_frameWaitingTimeExpiry_activation hb ht hdue hk, actExpiry_wupb_noCard ht hstep hcard]

end Sys2Proof.Machine
end

section
/-! PROOFS. The APDUs of the bay tag (R228 to R236, R239, R240): what every APDU row shares, and what each row answers. -/

namespace Sys2Proof.Machine

/-! ### What every APDU row shares (R223, R232, R233) -/

/-- An APDU reaches the tag of bay `b`: the tag is active, ISO-DEP runs, and it answers. -/
structure TakesApdu (b : Nat) (h : Hub) : Prop where
  isBay : b < 128
  active : (h.bay b).hf.active = true
  dep : (h.bay b).hf.blk.dep = true
  listens : tagListens h b = true

/-- The hub with the last I-block of an APDU taken in: the challenge that was out is spent, and the next block has the other number. -/
def apduTaken (b : Nat) (h : Hub) : Hub := setHf b (fun x => { x with challenge := none, blk := { x.blk with bn := 1 - x.blk.bn, got := [] } }) h

/-- `r` is the row of the APDU whose last I-block at bay `b` holds `p`: of instruction `ins`, in the form `mine`, with the effect `f`. -/
def IsApduRow (b : Nat) (p : List Byte) (r : State → Turn) (ins : Nat) (mine : List Byte → Bool) (f : Hub → Option Nat → Hub → Hub) : Prop :=
  ∀ s, r s = onHub (fun h => atBay b h (tagApdu b ins mine (wholeApdu h b p) (f h))) s

section
variable {b : Nat} {p : List Byte} {s : State} {r : State → Turn} {ins : Nat} {mine : List Byte → Bool} {f : Hub → Option Nat → Hub → Hub}
  (hrow : IsApduRow b p r ins mine f) (ht : TakesApdu b s.hub)
include hrow ht

theorem apduRow_wrongClass (hcla : byteAt (wholeApdu s.hub b p) 0 ≠ 0) :
    r s = .next (s.to (tagAnswers b 0x6E00 [] (apduTaken b s.hub))) := by
  refine (hrow s).trans (onHub_next_bay ht.isBay ?_)
  simp only [tagApdu, ht.active, ht.dep, ht.listens, Bool.not_true, Bool.or_self, Bool.false_eq_true, if_false]
  exact if_pos hcla

theorem apduRow_unknownIns (hcla : byteAt (wholeApdu s.hub b p) 0 = 0) (hins : fld (wholeApdu s.hub b p) 1 1 ∉ tagIns) :
    r s = .next (s.to (tagAnswers b 0x6D00 [] (apduTaken b s.hub))) := by
  refine (hrow s).trans (onHub_next_bay ht.isBay ?_)
  simp only [tagApdu, ht.active, ht.dep, ht.listens, Bool.not_true, Bool.or_self, Bool.false_eq_true, if_false]
  exact (if_neg (not_not_intro hcla)).trans (if_pos (by simpa using hins))

/-- The row's own APDU has the row's effect, with the challenge that was out. -/
theorem apduRow_own (hknown : ins ∈ tagIns) (hcla : byteAt (wholeApdu s.hub b p) 0 = 0) (hins : fld (wholeApdu s.hub b p) 1 1 = ins)
    (hmine : mine (wholeApdu s.hub b p) = true) :
    r s = .next (s.to (f s.hub (s.hub.bay b).hf.challenge (apduTaken b s.hub))) := by
  refine (hrow s).trans (onHub_next_bay ht.isBay ?_)
  simp only [tagApdu, ht.active, ht.dep, ht.listens, Bool.not_true, Bool.or_self, Bool.false_eq_true, if_false]
  exact (if_neg (not_not_intro hcla)).trans ((if_neg (by simpa [hins] using hknown)).trans (if_neg (by simp [hins, hmine])))

end

/-- The seven rows of R232 are APDU rows. -/
theorem isApduRow_of_mem {b : Nat} {p : List Byte} {i : Instr}
    (hi : i ∈ [Instr.tagSelectByName b p, .tagSelectByFile b p, .readBinary b p, .updateBinary b p, .verify b p, .getChallenge b p,
      .externalAuthenticate b p]) : ∃ ins mine f, IsApduRow b p (exec i) ins mine f := by
  simp only [List.mem_cons, List.not_mem_nil, or_false] at hi
  rcases hi with rfl | rfl | rfl | rfl | rfl | rfl | rfl
  · exact ⟨_, _, _, fun s => show execTagSelectByName b p s = _ from rfl⟩
  · exact ⟨_, _, _, fun s => show execTagSelectByFile b p s = _ from rfl⟩
  · exact ⟨_, _, _, fun s => show execReadBinary b p s = _ from rfl⟩
  · exact ⟨_, _, _, fun s => show execUpdateBinary b p s = _ from rfl⟩
  · exact ⟨_, _, _, fun s => show execVerify b p s = _ from rfl⟩
  · exact ⟨_, _, _, fun s => show execGetChallenge b p s = _ from rfl⟩
  · exact ⟨_, _, _, fun s => show execExternalAuthenticate b p s = _ from rfl⟩

/-! ### What each row answers to its own APDU -/

section
variable {b : Nat} {p : List Byte} {s : State} (ht : TakesApdu b s.hub) {a : List Byte} (ha : wholeApdu s.hub b p = a) (hcla : byteAt a 0 = 0)
include ht ha hcla

/-- R232: SELECT by name of the NDEF tag application. -/
theorem exec_tagSelectByName_ndef (hins : fld a 1 1 = 0xA4) (hp1 : fld a 2 1 = 4) (hp2 : fld a 3 1 = 0) (hdata : apduData a = some ndefAid) :
    exec (.tagSelectByName b p) s =
      .next (s.to (tagAnswers b 0x9000 [] (setHf b (fun x => { x with appSel := true, file := none }) (apduTaken b s.hub)))) := by
  subst ha
  refine (apduRow_own (r := execTagSelectByName b p) (fun _ => rfl) ht (by decide) hcla hins (by simp [hp1])).trans ?_
  simp only [hdata, p1p2, hp1, hp2]
  rfl

theorem exec_tagSelectByFile_known {d : List Byte} {f : TagFile} (hins : fld a 1 1 = 0xA4) (hp1 : fld a 2 1 = 0) (hp2 : fld a 3 1 = 0x0C)
    (hdata : apduData a = some d) (hfile : tagFile d = some f) (happ : ((apduTaken b s.hub).bay b).hf.appSel = true) :
    exec (.tagSelectByFile b p) s =
      .next (s.to (tagAnswers b 0x9000 [] (setHf b (fun x => { x with file := some f }) (apduTaken b s.hub)))) := by
  subst ha
  refine (apduRow_own (r := execTagSelectByFile b p) (fun _ => rfl) ht (by decide) hcla hins (by simp [hp1])).trans ?_
  simp only [hdata, hfile, happ, p1p2, hp1, hp2]
  rfl

section
variable {f : TagFile} (hfile : ((apduTaken b s.hub).bay b).hf.file = some f)
include hfile

theorem exec_readBinary_served (hins : fld a 1 1 = 0xB0) (hlen : a.length = 5)
    (hopen : f ≠ .e105 ∨ ((apduTaken b s.hub).bay b).hf.secured = true) (hmin : 1 ≤ fld a 4 1) (hmax : fld a 4 1 ≤ 246)
    (hend : p1p2 a + fld a 4 1 ≤ f.span.2) :
    exec (.readBinary b p) s = .next (s.to (tagAnswers b 0x9000
      (((apduTaken b s.hub).bay b).hf.img.bytes (f.span.1 + p1p2 a) (fld a 4 1)) (apduTaken b s.hub))) := by
  subst ha
  have hsecured : ¬(f = .e105 ∧ (!((apduTaken b s.hub).bay b).hf.secured) = true) := by
    rintro ⟨rfl, hsec⟩
    exact hopen.elim (absurd rfl) fun hsecured => by simp [hsecured] at hsec
  have hofs : ¬ f.span.2 ≤ p1p2 (wholeApdu s.hub b p) := by omega
  have hle : ¬((wholeApdu s.hub b p).length ≠ 5 ∨ fld (wholeApdu s.hub b p) 4 1 < 1 ∨ 246 < fld (wholeApdu s.hub b p) 4 1 ∨
      f.span.2 < p1p2 (wholeApdu s.hub b p) + fld (wholeApdu s.hub b p) 4 1) := by omega
  refine (apduRow_own (r := execReadBinary b p) (fun _ => rfl) ht (by decide) hcla hins rfl).trans ?_
  simp only [hfile, hsecured, hofs, hle, if_false]

/-- R228: E105 is read in SECURED only. -/
theorem exec_readBinary_open (hins : fld a 1 1 = 0xB0) (hf : f = .e105) (hopen : ((apduTaken b s.hub).bay b).hf.secured = false) :
    exec (.readBinary b p) s = .next (s.to (tagAnswers b 0x6982 [] (apduTaken b s.hub))) := by
  subst ha
  refine (apduRow_own (r := execReadBinary b p) (fun _ => rfl) ht (by decide) hcla hins rfl).trans ?_
  simp only [hfile, hf, hopen, Bool.not_false, and_self, if_true]

end

section
variable (hins : fld a 1 1 = 0xD6) (hfile : ((apduTaken b s.hub).bay b).hf.file = some .e105)
include hins hfile

/-- R240: the image with the bytes written is committed before the tag answers. -/
theorem exec_updateBinary_secured {d : List Byte} (hdata : apduData a = some d) (hmin : 1 ≤ d.length) (hmax : d.length ≤ 246)
    (hend : p1p2 a + d.length ≤ 384) (hsec : ((apduTaken b s.hub).bay b).hf.secured = true) :
    exec (.updateBinary b p) s =
      .next (s.to (let c := commitImage b 1 (((apduTaken b s.hub).bay b).hf.img.write (0x200 + p1p2 a) d) (apduTaken b s.hub)
                   tagAnswers b (if c.1 then 0x9000 else 0x6581) [] c.2)) := by
  subst ha
  have hofs : ¬ 384 ≤ p1p2 (wholeApdu s.hub b p) := by omega
  have hlc : ¬(d.length < 1 ∨ 246 < d.length ∨ 384 < p1p2 (wholeApdu s.hub b p) + d.length) := by omega
  refine (apduRow_own (r := execUpdateBinary b p) (fun _ => rfl) ht (by decide) hcla hins rfl).trans ?_
  simp only [hfile, hdata, hsec, hofs, hlc, ne_eq, not_true_eq_false, Bool.not_true, Bool.false_eq_true, or_self, if_false]

theorem exec_updateBinary_open (hopen : ((apduTaken b s.hub).bay b).hf.secured = false) :
    exec (.updateBinary b p) s = .next (s.to (tagAnswers b 0x6982 [] (apduTaken b s.hub))) := by
  subst ha
  refine (apduRow_own (r := execUpdateBinary b p) (fun _ => rfl) ht (by decide) hcla hins rfl).trans ?_
  simp only [hfile, hopen, Bool.not_false, or_true, if_true]

end

/-- R235: while attempts are left, this one is counted before the password is compared. -/
theorem exec_verify_counted {d : List Byte} (hins : fld a 1 1 = 0x20) (hp : p1p2 a = 1)
    (hset : ((apduTaken b s.hub).img b).pwSet = true) (hkey : (tagPassword (apduTaken b s.hub) b).present = true)
    (hleft : tagFail (apduTaken b s.hub) b < 8 + ((apduTaken b s.hub).img b).failBase)
    (hbase : ((apduTaken b s.hub).img b).failBase ≤ tagFail (apduTaken b s.hub) b)
    (hdata : apduData a = some d) (hlen : d.length = 4) :
    exec (.verify b p) s =
      .next (s.to (match cellAdvance (cellTagFail b) (tagFail (apduTaken b s.hub) b + 1) (apduTaken b s.hub) with
        | (.done _, v) => judgePassword b d v
        | (_, v) => tagAnswers b 0x6581 [] v)) := by
  subst ha
  have hunlocked : ¬ 8 ≤ tagFail (apduTaken b s.hub) b - ((apduTaken b s.hub).img b).failBase := by omega
  refine (apduRow_own (r := execVerify b p) (fun _ => rfl) ht (by decide) hcla hins rfl).trans ?_
  simp only [hp, hset, hkey, hunlocked, hdata, hlen, ne_eq, not_true_eq_false, Bool.not_true, decide_false, Bool.or_self, Bool.false_eq_true,
    if_false] <;> rfl

/-- A challenge that cannot be drawn yet waits (R728; log 194). -/
theorem exec_getChallenge_asked (hins : fld a 1 1 = 0x84) (hp : p1p2 a = 0) (hlen : a.length = 5) (hle : fld a 4 1 = 16) :
    exec (.getChallenge b p) s =
      .next (s.to (match drawRandom 16 (apduTaken b s.hub) with
        | none => tagDrawWaits b true (apduTaken b s.hub)
        | some (rb, v) => giveChallenge b rb v)) := by
  subst ha
  refine (apduRow_own (r := execGetChallenge b p) (fun _ => rfl) ht (by decide) hcla hins rfl).trans ?_
  simp only [hp, hlen, hle, ne_eq, not_true_eq_false, or_self, if_false] <;> rfl

/-- R233: the reader's proof is over the challenge that was out when the APDU came. -/
theorem exec_externalAuthenticate_judged {rb : Nat} {d : List Byte} (hins : fld a 1 1 = 0x82) (hp : p1p2 a = 1)
    (hset : ((apduTaken b s.hub).img b).aesSet = true) (hkey : (tagKey (apduTaken b s.hub) b).present = true)
    (hdata : apduData a = some d) (hlen : d.length = 32) (hout : (s.hub.bay b).hf.challenge = some rb) :
    let u := apduTaken b s.hub
    let k := BitVec.ofNat 128 (tagKey u b).val
    exec (.externalAuthenticate b p) s = .next (s.to (
      if d.drop 16 = bytes16 (Config.aesCmac k (0x01 :: (toLe 16 rb ++ d.take 16 ++ tagUid u b ++ bayByte b)))
      then tagAnswers b 0x9000 (bytes16 (Config.aesCmac k (0x02 :: (d.take 16 ++ toLe 16 rb ++ tagUid u b ++ bayByte b))))
        (setHf b (fun x => { x with secured := true }) u)
      else tagAnswers b 0x6300 [] (countTag b (fun c => { c with tagAesFail := satAdd c.tagAesFail 1 }) u))) := by
  subst ha
  refine (apduRow_own (r := execExternalAuthenticate b p) (fun _ => rfl) ht (by decide) hcla hins rfl).trans ?_
  simp only [hp, hset, hkey, hdata, hlen, hout, ne_eq, not_true_eq_false, Bool.not_true, Bool.or_self, Bool.false_eq_true, if_false,
    decide_eq_true_eq, Option.getD_some]

end

/-! ### The rows -/

/-- Settles O42: an APDU of another class or instruction is answered alike whatever row takes it, and a row's own APDU has the row's effect on the hub
with the challenge spent. -/
theorem tagApdus : Obligations.TagApdus := by
  intro b p s hb hact hdep hlisten
  have ht : TakesApdu b s.hub := ⟨hb, hact, hdep, hlisten⟩
  refine ⟨fun i hi => ?anyRow, fun hcla => ?ownApdu⟩
  case anyRow =>
    obtain ⟨ins, mine, f, hrow⟩ := isApduRow_of_mem hi
    exact ⟨apduRow_wrongClass hrow ht, apduRow_unknownIns hrow ht⟩
  case ownApdu =>
    refine ⟨exec_tagSelectByName_ndef ht rfl hcla, fun d f => exec_tagSelectByFile_known ht rfl hcla, fun f hfile hins hlen => ?read,
      fun d hins hfile hdata hmin hmax hend => ?update, fun d => exec_verify_counted ht rfl hcla, exec_getChallenge_asked ht rfl hcla,
      fun rb d => exec_externalAuthenticate_judged ht rfl hcla⟩
    case read => exact ⟨exec_readBinary_served ht rfl hcla hfile hins hlen, exec_readBinary_open ht rfl hcla hfile hins⟩
    case update =>
      exact ⟨exec_updateBinary_secured ht rfl hcla hins hfile hdata hmin hmax hend, exec_updateBinary_open ht rfl hcla hins hfile⟩

end Sys2Proof.Machine
end

section
/-! PROOFS. The rapid exchange as it runs, and continuity takes (R258, R304 to R311). -/

namespace Sys2Proof.Machine

/-! ### The start of an exchange (R304, R305) -/

/-- The exchange whose item `i` has its slot is ready, and its first challenge is staged. -/
def rapidReadied (b : Nat) (t : Take) (x : Rapid) (i : Item) (h : Hub) : Hub :=
  let ts := rapidTick t i.start
  let own := reservedEngine h (regionOf b)
  let v := modRapid b (fun x => { x with ready := true, tStart := ts, k := (i.start - rapidFirst t) / 10, engine := i.engine.getD 0
                                         reserved := own.isSome && decide (i.engine = own) }) h
  (stage b (mkChallenge v b x.q 0 ts) v).2

section
variable {b : Nat} {t : Take} {x : Rapid} {d : Dialogue} {s : State} (hb : b < 128) (ht : (s.hub.bay b).take = some t)
  (hx : (s.hub.bay b).rapid = some x) (hd : (s.hub.bay b).dlgV = some d) (hruns : x.outcome = none)
include hb ht hx hd hruns

theorem exec_rapidStart_granted {i : Item} (hready : x.ready = false) (hit : s.hub.item (regionOf b) x.q = some i)
    (hg : i.granted = true) (w : Bool) :
    exec (.rapidStart b w) s = .next (s.to (
      if !rapidAllowed s.hub b x.q (rapidTick t i.start) d.rxPeriod then endRapid b .notRun .regLimit (regRefused b s.hub)
      else if !(s.hub.bay b).sl.timing.settled then rapidInvalid b s.hub
      else if d.rxPeriod < roundPeriod s.hub b then endRapid b .periodShort .wrongState s.hub
      else if !w then rapidNext b t x.q .txLate s.hub
      else rapidReadied b t x i s.hub)) := by
  refine onHub_next_bay hb ?_
  simp only [ht, hx, hd, hit]
  exact if_neg (by simp [hready, hg, hruns])

/-! ### The verdict of a round (R308 to R311) -/

/-- The hub `u`, which has heard a round: one that failed ends the exchange, one that passed ends it after the last or sends the next challenge. -/
def roundOutcome (b : Nat) (t : Take) (x : Rapid) (d : Dialogue) (raw : Nat) (u : Hub) : Option RapidOutcome → Hub
  | some o => endRapid b o (rapidStatus o .internal) (modRapid b (fun y => { y with failRound := some y.round }) u)
  | none =>
    let v := modRapid b (Rapid.passedAt (roundDistance u b t x d raw)) u
    if x.round + 1 = 32 then endRapid b .rapidOk .ok v
    else if nextDeadline v b x d < v.ticks then invalidateRapid b v
    else sendChallenge b (x.round + 1) v

theorem exec_rapidRoundVerdict_judged (hstarted : x.started = true) (c : RoundCorr) :
    let m := roundSeen (zeroArrival t x d).toNat c
    let j := judgeRound s.hub b x d m
    exec (.rapidRoundVerdict b c) s = .next (s.to (roundOutcome b t x d m.raw (roundHeard b m j.1 s.hub) j.2)) := by
  refine onHub_next_bay hb ?_
  simp only [ht, hx, hd]
  rw [if_neg (by simp [hstarted, hruns])]
  cases (judgeRound s.hub b x d (roundSeen (zeroArrival t x d).toNat c)).2 <;> rfl

end

/-! ### The rows -/

/-- Settles O38: an exchange without an outcome passes the guards of its rows, and the verdict of a round decides what becomes of the exchange. -/
theorem rapidExchangeRuns : Obligations.RapidExchangeRuns := by
  intro b t x d c s hb h ht hx hd hruns
  refine ⟨fun i w hready hit hg => exec_rapidStart_granted hb ht hx hd hruns hready hit hg w, fun hstarted => ?verdict, ?continuity⟩
  case verdict =>
    refine ⟨_, exec_rapidRoundVerdict_judged hb ht hx hd hruns hstarted c, rfl, fun o hfailed => ?failed, fun hpassed => ?passed⟩
    case failed => exact congrArg (roundOutcome b t x d _ _) hfailed
    case passed => exact congrArg (roundOutcome b t x d _ _) hpassed
  case continuity => exact onHub_next_bay hb rfl

end Sys2Proof.Machine
end

section
/-! PROOFS. Changes of level, the power states of regions and of the chip, and wake sources (R648, R671 to R675, R679 to R690, R817). -/

namespace Sys2Proof.Machine

/-! ### Changes of level (R672 to R675) -/

section
variable {d : Dvfs} {s : State} (hd : s.hub.pwr.dvfs = some d)
include hd

theorem exec_dvfsStep_runs : exec .dvfsStep s = .next (s.to (startRegions (dvfsStep d s.hub))) := by
  change execDvfsStep s = _
  refine onHub_next_all ?_
  simp only [hd]

theorem exec_voltageSettled_within {mv : Nat} (hstep : d.step = .settle) (hover : mv ≤ s.hub.pwr.setMv + 10)
    (hunder : s.hub.pwr.setMv ≤ mv + 10) :
    exec (.voltageSettled mv) s = .next (s.to (
      if d.new < d.old then setDvfs (fun d => { d with step := .assist }) s.hub else startRegions (levelDone d s.hub))) := by
  change execVoltageSettled mv s = _
  refine onHub_next_all ?_
  simp only [hd]
  exact if_pos ⟨hstep, hover, hunder⟩

theorem exec_dvfsFail_volts (hstep : d.step = .settle ∨ d.step = .voltage) : exec .dvfsFail s = .next (s.to (levelFailed s.hub)) := by
  change execDvfsFail s = _
  refine onHub_next_all ?_
  simp only [hd]
  exact if_pos hstep

end

/-! ### A region that nothing votes for (R681, R682) -/

/-- What an entry into S2 does next, by the step at which it stands. -/
def s2EntryStep (r : Nat) (h : Hub) : Hub :=
  let x := h.region r
  if x.powerStep = 0 then if nth 0 h.pwr.floors r = 2 then stepTo r 2 h else h
  else if x.powerStep = 2 then if noneUp h r then stepTo r 3 h else h
  else if x.powerStep = 3 then stepTo r 4 h
  else if x.powerStep = 4 then openSwitch r h
  else h

section
variable {r : Nat} {h : Hub}

theorem s2EntryStep_begin (hstep : (h.region r).powerStep = 0) (hfloor : nth 0 h.pwr.floors r = 2) : s2EntryStep r h = stepTo r 2 h := by
  simp [s2EntryStep, hstep, hfloor]

theorem s2EntryStep_portsDown (hstep : (h.region r).powerStep = 2) (hnone : noneUp h r = true) : s2EntryStep r h = stepTo r 3 h := by
  simp [s2EntryStep, hstep, hnone]

theorem s2EntryStep_goesOn (hstep : (h.region r).powerStep = 3) : s2EntryStep r h = stepTo r 4 h := by
  simp [s2EntryStep, hstep]

theorem s2EntryStep_opensSwitch (hstep : (h.region r).powerStep = 4) : s2EntryStep r h = openSwitch r h := by
  simp [s2EntryStep, hstep]

end

section
variable {r : Nat} {s : State} (hr : r < 8) (hgated : gated s.hub r = true)
include hr hgated

section
variable (hvotes : regionVotes s.hub r = 0)
include hvotes

section
variable (hs0 : (s.hub.region r).power = .s0)
include hs0

theorem exec_s1Entry_begins (hstep : (s.hub.region r).powerStep = 0) (hfloor : nth 0 s.hub.pwr.floors r = 1) :
    exec (.s1Entry r) s = .next (s.to (stepTo r 1 s.hub)) :=
  onHub_next_region hr <| (if_neg (by simp [hgated, hvotes, hs0])).trans <| (if_pos hstep).trans (if_pos hfloor)

theorem exec_s1Entry_ends (hstep : (s.hub.region r).powerStep = 1) (hnone : noneUp s.hub r = true) :
    exec (.s1Entry r) s = .next (s.to (regionPowerTo r .s1 s.hub)) :=
  onHub_next_region hr <| (if_neg (by simp [hgated, hvotes, hs0])).trans <| (if_neg (by simp [hstep])).trans (if_pos ⟨hstep, hnone⟩)

end

theorem exec_s2Entry_steps (hs2 : (s.hub.region r).power ≠ .s2) : exec (.s2Entry r) s = .next (s.to (s2EntryStep r s.hub)) :=
  onHub_next_region hr (if_neg (by simp [hgated, hvotes, hs2]))

end

/-! ### A region that something votes for (R683, R685) -/

section
variable (hvotes : regionVotes s.hub r ≠ 0)
include hvotes

theorem exec_s1Exit_leaves (hs1 : (s.hub.region r).power = .s1) (hstep : (s.hub.region r).powerStep = 0) :
    exec (.s1Exit r) s = .next (s.to (wakePorts r (regionPowerTo r .s0 s.hub))) :=
  onHub_next_region hr <| (if_neg (by simp [hgated, hvotes])).trans (if_pos ⟨hs1, hstep⟩)

theorem exec_s1Exit_undoes (hstep : (s.hub.region r).powerStep = 1) :
    exec (.s1Exit r) s = .next (s.to (wakePorts r (stepTo r 0 s.hub))) :=
  onHub_next_region hr <| (if_neg (by simp [hgated, hvotes])).trans <| (if_neg (by simp [hstep])).trans (if_pos hstep)

theorem exec_s2Abort_undoes
    (hstep : 3 ≤ (s.hub.region r).powerStep ∨ ((s.hub.region r).powerStep = 2 ∧ noneUp s.hub r = true)) :
    exec (.s2Abort r) s = .next (s.to (wakePorts r (countAbort (stepTo r 0 s.hub)))) := by
  have hbegun : 2 ≤ (s.hub.region r).powerStep := by omega
  have hpoint : (s.hub.region r).powerStep = 2 → noneUp s.hub r = true := fun h2 => hstep.elim (by omega) And.right
  exact onHub_next_region hr (if_neg (by simpa [hgated, hvotes] using ⟨hbegun, hpoint⟩))

/-- R675: of the regions that leave S2 at once, the one of the lowest index is first. -/
theorem exec_s2Exit_first (hs2 : (s.hub.region r).power = .s2)
    (hfirst : ∀ k, k < r → (s.hub.region k).power ≠ .s2 ∨ regionVotes s.hub k = 0) (hvolts : voltageRuns s.hub = false) :
    exec (.s2Exit r) s = .next (s.to (
      if (s.hub.region r).lost then startRegions (s.hub.setRegion r (fun x => { x with due := true }))
      else regionPowerTo r .s0 (setBus r (fun u => { u with stbyHigh := decide ((s.hub.region r).st = .off) }) s.hub))) := by
  have hpass : ∀ k, k < r → (s.hub.region k).power = .s2 → regionVotes s.hub k = 0 := fun k hk => Or.neg_resolve_left (hfirst k hk)
  exact onHub_next_region hr (if_neg (by simpa [hgated, hvotes, hs2, hvolts] using hpass))

end

end

/-! ### The chip's S3 (R686 to R689) -/

section
variable {s : State}

theorem exec_s3Entry_begins (hs0 : s.hub.pwr.chip = .s0) (hfw : s.hub.fwReady = true) (hvotes : chipVotes s.hub = 0) :
    exec .s3Entry s = .next (s.to (s3Ports (setPwr (fun p => { p with chip := .entering 1, wakeDuring := false }) s.hub))) := by
  change execS3Entry s = _
  refine onHub_next_all ?_
  simp only [hs0]
  exact if_pos (by simp [hfw, hvotes])

section
variable {k : Nat} (hchip : s.hub.pwr.chip = .entering k)
include hchip

theorem exec_s3Entry_goesOn (hwake : s.hub.pwr.wakeDuring = false) :
    exec .s3Entry s = .next (s.to (
      if k = 1 then setChip (.entering 2) (s3Clocks s.hub) else if k = 2 then setChip (.entering 3) s.hub else setChip .s3 (s3Lose s.hub))) := by
  change execS3Entry s = _
  refine onHub_next_all ?_
  simp only [hchip]
  exact if_neg (Bool.eq_false_iff.mp hwake)

theorem exec_s3Abort_woken (hwake : s.hub.pwr.wakeDuring = true) :
    exec .s3Abort s = .next (s.to (
      let u := countAbort (setPwr (fun p => { p with chip := .s0, wakeDuring := false, smbStretch := false }) s.hub)
      if k = 1 then u else wakeClocks u)) := by
  change execS3Abort s = _
  refine onHub_next_all ?_
  simp only [hchip]
  exact if_pos hwake

end

theorem exec_s3Exit_woken (hs3 : s.hub.pwr.chip = .s3) (hwake : s.hub.pwr.wakeDuring = true ∨ s.hub.pwr.wakeSrc ≠ 0) :
    exec .s3Exit s = .next (s.to (
      let u := setPwr (fun p => { p with chip := .s0, wakeDuring := false, smbStretch := false, s3Resumed := true }) s.hub
      let v := wakeClocks { u with creds := { u.creds with loading := true } }
      startRegions (forRegions (fun r s => if (s.region r).lost ∧ regionVotes s r ≠ 0 then s.setRegion r (fun x => { x with due := true }) else s)
        (powerNotice chipSrc 0x04 v.pwr.pl v.pwr.pl v.pwr.wakeSrc v)))) := by
  change execS3Exit s = _
  refine onHub_next_all ?_
  simp only [hs3]
  exact if_pos (by simpa using hwake)

/-! ### Wake sources (R680) -/

/-- Wake source `n` has been served: the SMBus (0) is idle since 100 ms, no region's bit stands beside that of the wake lines (1), and the line of a
region (8 to 15) is low or masked. -/
def wakeServed (h : Hub) (n : Nat) : Bool :=
  if n = 0 then h.passed h.host.smb.lastUse (ms 100) && !h.host.smb.busy
  else if n = 1 then decide (h.pwr.wakeSrc / 256 = 0)
  else if 8 ≤ n then !((h.region (n - 8)).wakeLow && !(h.region (n - 8)).wakeMasked)
  else true

theorem wakeServed_of {h : Hub} {n : Nat} (hsmb : n = 0 → h.passed h.host.smb.lastUse (ms 100) = true ∧ h.host.smb.busy = false)
    (hsum : n = 1 → h.pwr.wakeSrc / 256 = 0) (hline : 8 ≤ n → (h.region (n - 8)).wakeLow = false ∨ (h.region (n - 8)).wakeMasked = true) :
    wakeServed h n = true := by
  unfold wakeServed
  split
  · next h0 => simp [hsmb h0]
  · split
    · next h1 => simpa using hsum h1
    · split
      · next h8 => simpa using hline h8
      · rfl

theorem exec_wakeSourceServed_set {n : Nat} (hn : n < 16) (hs0 : s.hub.pwr.chip = .s0) (hfw : s.hub.fwReady = true)
    (hset : bit s.hub.pwr.wakeSrc n = true) (hserved : wakeServed s.hub n = true) :
    exec (.wakeSourceServed n) s = .next (s.to (setPwr (fun p => { p with wakeSrc := w1c p.wakeSrc (2 ^ n) 0xFF0F }) s.hub)) := by
  have hguard : (s.hub.fwReady && decide (s.hub.pwr.chip = .s0) && bit s.hub.pwr.wakeSrc n && wakeServed s.hub n) = true := by
    simp [hfw, hs0, hset, hserved]
  exact onHub_next_unit hn (if_pos hguard)

/-! ### S4 (R690, R817) -/

theorem exec_s4Entry_enters (hin : s.hub.aon.inS4 = false) :
    exec .s4Entry s =
      .next (s.to (let u := resetHub {} s.hub
                   { u with aon := { u.aon with inS4 := true, outages := satAdd u.aon.outages 1 } })) := by
  change execS4Entry s = _
  exact onHub_next_all (if_neg (Bool.eq_false_iff.mp hin))

end

/-! ### The rows -/

/-- Settles O52: a row's conditions decide its guard, and the step at which an entry stands decides what it does. AVS that fails in the steps voltage
and settle (log 143), an S1 entry that a vote undoes without a count and an exit from S2 in one step (log 144), and the ends of S3 (log 145) are the
model's choices. -/
theorem powerStates : Obligations.PowerStates := by
  intro r mv n s hr h x
  refine ⟨fun d hd => ⟨exec_dvfsStep_runs hd, exec_voltageSettled_within hd, exec_dvfsFail_volts hd⟩,
    fun hgated => ⟨fun hvotes => ?idle, fun hvotes => ?voted⟩, fun hs0 hfw => ⟨exec_s3Entry_begins hs0 hfw, ?served⟩,
    fun k hchip => ⟨exec_s3Entry_goesOn hchip, exec_s3Abort_woken hchip⟩, exec_s3Exit_woken, ?s4⟩
  case idle =>
    refine ⟨exec_s1Entry_begins hr hgated hvotes, exec_s1Entry_ends hr hgated hvotes, fun hs2 => ?s2Entry⟩
    rw [exec_s2Entry_steps hr hgated hvotes hs2]
    refine ⟨fun hstep hfloor => ?begin, fun hstep hnone => ?portsDown, fun hstep => ?goesOn, fun hstep => ?opensSwitch⟩
    case begin => rw [s2EntryStep_begin hstep hfloor]
    case portsDown => rw [s2EntryStep_portsDown hstep hnone]
    case goesOn => rw [s2EntryStep_goesOn hstep]
    case opensSwitch => rw [s2EntryStep_opensSwitch hstep]
  case voted =>
    exact ⟨exec_s1Exit_leaves hr hgated hvotes, exec_s1Exit_undoes hr hgated hvotes, exec_s2Abort_undoes hr hgated hvotes,
      exec_s2Exit_first hr hgated hvotes⟩
  case served =>
    exact fun hn hset hsmb hsum hline => exec_wakeSourceServed_set hn hs0 hfw hset (wakeServed_of hsmb hsum hline)
  case s4 => exact fun hin => ⟨_, exec_s4Entry_enters hin, rfl, rfl, rfl, rfl, rfl⟩

end Sys2Proof.Machine
end

section
/-! PROOFS. Enrolment, revocation and the quotas of fleets (R370, R374, R378, R379, R569, R570, R572). -/

namespace Sys2Proof.Machine

/-! ### CRED_ENROL (R374, R378, R569) -/

/-- A record in order whose key unwraps is enrolled. -/
theorem credEnrol_sound {q : Req} {c : CmdRef} {h : Hub} {key : BitVec 128} (hfree : storeBusy h = false) (hok : recordOk (q.data.take 64) = true)
    (hkey : recordKey h (q.data.take 64) = some key) : credEnrol q c h = enrol (q.data.take 64) key h := by
  simp [credEnrol, hfree, hok, hkey]

/-- R374: with a slot, a place in the fleet and a number of the lifetime count left, the record's block is written with the count's next number. -/
theorem enrol_commits (l : List Byte) (key : BitVec 128) (h : Hub) :
    let c := recordCred l key
    let i := (findCred h c.cls c.tokenId).getD (firstFree 0 h.creds.slots)
    let old := h.cred i
    let n := if counts old c then 1 else 0
    let no := cellVal h cellEnrol + n
    i < credSlots → (old.valid = true ∧ old.retiring = false ∧ old.fleet = c.fleet ∨ enrolled h c.fleet + 1 ≤ (fleetOf h c.fleet).quota) →
    (n = 0 ∨ no ≤ enrolMax) →
    ∀ k a m w, (if n = 0 then (Commit.done 0, h) else cellAdvance cellEnrol no h) = (.done k, a) →
      commitSlot i (enrolInto old c no) a = (.done m, w) → enrol l key h = (.async .ok (enrolResult i n (!old.valid) w) [], w) := by
  intro c i old n no hslot hplace hlimit k a m w hcount hblock
  have hquota : ¬((!old.valid || old.retiring || old.fleet != c.fleet) = true ∧ (fleetOf h c.fleet).quota < enrolled h c.fleet + 1) := by
    rintro ⟨hjoins, hfull⟩
    rcases hplace with ⟨hvalid, hkept, hfleet⟩ | hroom
    · simp [hvalid, hkept, hfleet] at hjoins
    · omega
  have hleft : ¬(enrolMax < no ∧ n ≠ 0) := by omega
  refine (if_neg (Nat.not_le.mpr hslot)).trans <| (if_neg hquota).trans <| (if_neg hleft).trans ?_
  rw [hcount]
  dsimp only
  rw [hblock]

/-! ### CRED_REVOKE (R379, R570) -/

section
variable {q : Req} {c : CmdRef} {h w : Hub} {i k : Nat} (hfree : storeBusy h = false) (hcls : fld q.payload 0 1 ≤ 2)
  (hfound : findCred h (classOf (fld q.payload 0 1)) (fld q.payload 4 8) = some i) (hkept : (h.cred i).retiring = false)
include hfree hcls hfound hkept

/-- A token that no open session rests on leaves its slot free. -/
theorem credRevoke_idle (hsess : (h.cred i).inSession = false) (hblock : commitSlot i {} h = (.done k, w)) :
    credRevoke q c h = (.async .ok (revokeResult i (h.cred i).fleet 0) [], dropToken i w) := by
  simp only [credRevoke, hfree, Nat.not_lt.mpr hcls, hfound, hkept, hsess, Bool.false_eq_true, if_false, hblock]

/-- One that an open session rests on is RETIRING, where FLAGS allow it, and the sessions are triggered to wrap. -/
theorem credRevoke_inSession (hsess : (h.cred i).inSession = true) (hallowed : bit (fld q.payload 1 1) 0 = true)
    (hblock : commitSlot i { h.cred i with retiring := true } h = (.done k, w)) :
    credRevoke q c h =
      (.async .ok (revokeResult i (h.cred i).fleet 1) [], (sessionBays w i).foldl (fun h b => trigger b cRevoked h) w) := by
  simp only [credRevoke, hfree, Nat.not_lt.mpr hcls, hfound, hkept, Bool.false_eq_true, if_false]
  rw [if_pos hsess, hallowed, hblock]
  rfl

end

/-! ### FLEET_SET (R370, R572) -/

/-- The fleet table with fleet `f` as FLEET_SET leaves it, and its part programmed. -/
def fleetWritten (f quota n : Nat) (h : Hub) : Hub :=
  fleetProgram (f / 256) (h.setNv (fun v => { v with fleets := Tab.put {} f { quota := quota, fobW := n } v.fleets }))

/-- A quota that holds what is enrolled is written and answered. -/
theorem fleetSet_holds {q : Req} {c : CmdRef} {h w : Hub} {k : Nat} (hfree : storeBusy h = false) (hfleet : fld q.payload 0 2 ≤ 4095)
    (hmin : 1 ≤ fld q.payload 4 1) (hmax : fld q.payload 4 1 ≤ 64) (hquota : enrolled h (fld q.payload 0 2) ≤ fld q.payload 2 2)
    (hburst : pageBurst 9 (fleetErase (fld q.payload 0 2 / 256) h) = (.done k, w)) :
    let x := fleetWritten (fld q.payload 0 2) (fld q.payload 2 2) (fld q.payload 4 1) w
    fleetSet q c h =
      (.async .ok [⟨8, 2, fld q.payload 0 2⟩, ⟨10, 2, fld q.payload 2 2⟩, ⟨12, 2, enrolled x (fld q.payload 0 2)⟩, ⟨14, 1, fld q.payload 4 1⟩] [], x) := by
  have hrange : ¬(4095 < fld q.payload 0 2 ∨ fld q.payload 4 1 = 0 ∨ 64 < fld q.payload 4 1) := by omega
  simp only [fleetSet, hfree, hrange, Nat.not_lt.mpr hquota, hburst, Bool.false_eq_true, if_false, fleetWritten]

/-! ### The rows -/

/-- Settles O11: a row's conditions decide what its body gives on the hub that the verification leaves. -/
theorem credentialCommands : Obligations.CredentialCommands := by
  refine ⟨fun q s ha => ⟨_, hostRow_next rfl, rfl, ?enrol⟩,
    fun q s => ⟨fun ha => ⟨_, hostRow_next rfl, rfl, ?revoke⟩, fun ha => ⟨_, hostRow_next rfl, rfl, ?fleet⟩⟩⟩
  case enrol =>
    intro v key hv hfree hok hkey c i old n no hslot hplace hlimit k a m w hcount hblock
    exact hostCommand_verified_done ha hv
      ((credEnrol_sound hfree hok hkey).trans (enrol_commits _ _ _ hslot hplace hlimit k a m w hcount hblock))
  case revoke =>
    intro v i k w hv hfree hcls hfound hkept
    exact ⟨fun hsess hblock => hostCommand_verified_done ha hv (credRevoke_idle hfree hcls hfound hkept hsess hblock),
      fun hsess hallowed hblock => hostCommand_verified_done ha hv (credRevoke_inSession hfree hcls hfound hkept hsess hallowed hblock)⟩
  case fleet =>
    intro v k w hv hfree f n hfleet hmin hmax hquota hburst
    exact hostCommand_verified_done ha hv (fleetSet_holds hfree hfleet hmin hmax hquota hburst)

end Sys2Proof.Machine
end

section
/-! PROOFS. Chip faults, junction temperatures, tamper inputs, alarms and the errors of the credential store (R362, R631, R632, R687, R691 to R697,
R742, R828, R829). -/

namespace Sys2Proof.Machine

/-! ### Chip faults (R631, R632, R828, R829) -/

theorem exec_chipFault {c : Nat} {s : State} (hmin : 1 ≤ c) (hmax : c ≤ 5) : exec (.chipFault c) s = .next (s.to (chipFault c s.hub)) := by
  change execChipFault c s = _
  apply onHub_next
  rw [if_neg (Nat.ne_of_gt hmin), atUnit_next (Nat.lt_succ_of_le hmax)]

theorem exec_supWatchdog_clocked {s : State} (hruns : supRuns s.hub = true) : exec .supWatchdog s = .next (s.to (chipFault 1 s.hub)) :=
  onHub_next_all (if_pos hruns)

theorem exec_tempSensorSample {t : List Int} {s : State} (hlen : t.length = 12) (hruns : s.hub.boot.phase ≠ .held) :
    exec (.tempSensorSample t) s = .next (s.to (
      let u := sampleSensors t s.hub
      if u.sens.hot.any (fun n => decide (4 ≤ n)) then chipFault 5 u else u)) := by
  change execTempSensorSample t s = _
  apply onHub_next
  rw [if_neg (not_not_intro hlen), if_neg hruns]

/-! ### Tamper inputs and alarms (R691 to R697) -/

theorem exec_tamperActive_enabled {n : Nat} {s : State} (hn : n < 4) (hen : bit s.hub.aon.tamperEn n = true) :
    let u := { s.hub with aon := { s.hub.aon with tamperAct := s.hub.aon.tamperAct ||| 2 ^ n } }
    exec (.tamperActive n) s = .next (s.to (if s.hub.aon.inS4 then backupEntry n (tamperLevelOf u n) u else chipFault 4 u)) :=
  onHub_next_unit hn (if_neg (by simp [hen]))

/-- The hub with alarm `n` taken from those that are due. -/
def alarmTaken (n : Nat) (h : Hub) : Hub :=
  { h with aon := { h.aon with alarmDue := h.aon.alarmDue &&& (3 ^^^ 2 ^ n), alarmFired := h.aon.alarmFired ||| 2 ^ n } }

section
variable {n : Nat} {s : State} (hn : n < 2) (hdue : bit s.hub.aon.alarmDue n = true)
include hn hdue

theorem exec_rtcAlarm_service (hout : s.hub.aon.inS4 = false) (hruns : s.hub.boot.phase ≠ .held) :
    exec (.rtcAlarm n) s = .next (s.to (alarmInService n (alarmTaken n s.hub))) :=
  onHub_next_unit hn <| (if_neg (by simp [hdue])).trans <| (if_neg (by simp [hout])).trans (if_neg hruns)

theorem exec_rtcAlarm_held (hout : s.hub.aon.inS4 = false) (hheld : s.hub.boot.phase = .held) :
    exec (.rtcAlarm n) s = .next (s.to (alarmTaken n s.hub)) :=
  onHub_next_unit hn <| (if_neg (by simp [hdue])).trans <| (if_neg (by simp [hout])).trans (if_pos hheld)

/-- R691, R693: in S4 the alarm enters the backup buffer, and drives WAKE_OUT where it is set to. -/
theorem exec_rtcAlarm_backup (hin : s.hub.aon.inS4 = true) :
    exec (.rtcAlarm n) s = .next (s.to (
      let v := backupEntry (8 + n) 0 (alarmTaken n s.hub)
      if bit v.aon.alarmWakeOut n then { v with aon := { v.aon with wakeOut := true, wakeOutAt := v.now } } else v)) :=
  onHub_next_unit hn <| (if_neg (by simp [hdue])).trans (if_pos hin)

end

theorem exec_wakeOutEnd_over {s : State} (hlow : s.hub.aon.wakeOut = true)
    (hover : s.hub.aon.inS4 = false ∨ s.hub.passed s.hub.aon.wakeOutAt (sec 60) = true) :
    exec .wakeOutEnd s = .next (s.to { s.hub with aon := { s.hub.aon with wakeOut := false } }) := by
  change execWakeOutEnd s = _
  refine onHub_next_all ?_
  rw [if_pos (by simpa [hlow] using hover)]

/-! ### The credential store (R362, R687) -/

section
variable {s : State} (hfw : s.hub.fwReady = true) (hs0 : s.hub.pwr.chip = .s0)
include hfw hs0

theorem exec_credStoreLoaded_loading (hload : s.hub.creds.loading = true) :
    exec .credStoreLoaded s = .next (s.to (
      let f := storeCheck s.hub
      let u := fobApplied (storeRead f.1.1 f.1.2 f.2)
      if u.eng.recovering then u else clearRetiring u)) := by
  change execCredStoreLoaded s = _
  refine onHub_next_all ?_
  rw [if_pos (by simp [hfw, hs0, hload])]

section
variable {n : Nat} (hn : n < 262144) (hloaded : s.hub.creds.loading = false)
include hn hloaded

theorem exec_credStoreEcc_corrected :
    exec (.credStoreEcc n false) s = .next (s.to { s.hub with creds := { s.hub.creds with ecc := satAdd s.hub.creds.ecc 1 } }) :=
  onHub_next_unit hn <| (if_neg (by simp [hfw, hs0, hloaded])).trans (if_neg Bool.false_ne_true)

/-- The block of an uncorrectable error is read from flash again; which slots open sessions rest on is not lost with it. -/
theorem exec_credStoreEcc_uncorrectable :
    exec (.credStoreEcc n true) s = .next (s.to (fobApplied ((blockSlots (n / 32)).foldl
      (fun h i => setCred i (fun c => { credAtRest h i with inSession := c.inSession }) h) s.hub))) :=
  onHub_next_unit hn <| (if_neg (by simp [hfw, hs0, hloaded])).trans (if_pos rfl)

end

end

/-! ### The rows -/

/-- Settles O47: a row's conditions decide its guard. -/
theorem chipFaultsAndAlarms : Obligations.ChipFaultsAndAlarms := by
  intro c n t s
  refine ⟨exec_chipFault, exec_supWatchdog_clocked, onHub_next_all rfl, exec_tempSensorSample, exec_tamperActive_enabled,
    fun hn hdue => ⟨exec_rtcAlarm_service hn hdue, exec_rtcAlarm_held hn hdue, exec_rtcAlarm_backup hn hdue⟩, exec_wakeOutEnd_over,
    fun hfw hs0 => ⟨exec_credStoreLoaded_loading hfw hs0, fun hn hloaded => ?ecc⟩⟩
  case ecc => exact ⟨exec_credStoreEcc_corrected hfw hs0 hn hloaded, exec_credStoreEcc_uncorrectable hfw hs0 hn hloaded⟩

end Sys2Proof.Machine
end

section
/-! PROOFS. Replies of an authentication pass, fob frames, and a RETIRING slot's block commit that is asked for again (R253, R380, R391 to R395,
R398 to R401). -/

namespace Sys2Proof.Machine

/-! ### Replies (R253, R391 to R395) -/

/-- The modes of R253 are modes of UWB, so they can keep a reply of class V alone from being judged. -/
theorem notDiscarded_of {k : TokenClass} {f : AuthFrame} (hmode : f.badMode = false ∨ k ≠ .v) : ¬(f.badMode && decide (k = .v)) = true := by
  rcases hmode with hgood | hother
  · simp [hgood]
  · simp [hother]

section
variable {b : Nat} {k : TokenClass} {f : AuthFrame} {s : State} (hb : b < 128)
include hb

theorem exec_auth2_reply (hmode : f.badMode = false ∨ k ≠ .v) (hawait : awaits s.hub b k .auth1 = true) :
    exec (.auth2 b k f) s = .next (s.to (takeAuth2 b k f.bytes s.hub)) :=
  onHub_next_bay hb <| (if_neg (notDiscarded_of hmode)).trans (if_pos hawait)

theorem exec_authAck_reply (hmode : f.badMode = false ∨ k ≠ .v) (hawait : awaits s.hub b k .auth3 = true) :
    exec (.authAck b k f) s = .next (s.to (takeAck b k f.bytes s.hub)) :=
  onHub_next_bay hb <| (if_neg (notDiscarded_of hmode)).trans (if_pos hawait)

theorem exec_auth2_badMode (hbad : f.badMode = true) (hk : k = .v) : exec (.auth2 b k f) s = .next (s.to (countModeErr b s.hub)) :=
  onHub_next_bay hb (if_pos (by simp [hbad, hk]))

theorem exec_authAck_badMode (hbad : f.badMode = true) (hk : k = .v) : exec (.authAck b k f) s = .next (s.to (countModeErr b s.hub)) :=
  onHub_next_bay hb (if_pos (by simp [hbad, hk]))

variable {d : Dialogue} (hd : (s.hub.bay b).dlg k = some d) (hopen : d.auth.window ≠ 0)
include hd hopen

/-- Any class but C has until the end of its window (R391). -/
theorem exec_authReplyWindowClose_air (hk : k ≠ .c) (hlate : d.auth.window ≤ s.hub.ticks) :
    exec (.authReplyWindowClose b k) s = .next (s.to (passUnanswered 3 b k s.hub)) := by
  refine onHub_next_bay hb ?_
  simp only [hd, hk, if_false]
  exact if_pos ⟨hopen, decide_eq_true hlate⟩

/-- A card has until its transaction is over and may not be tried again (R214). -/
theorem exec_authReplyWindowClose_card (hk : k = .c)
    (hspent : ∀ t, (s.hub.bay b).hf.txn = some t → t.kind = 2 ∧ (t.limit ≤ s.hub.now ∨ t.deadline ≤ s.hub.now ∧ 2 ≤ t.retries)) :
    exec (.authReplyWindowClose b k) s = .next (s.to (passUnanswered 3 b .c (endPassTxn b .cardTimeout s.hub))) := by
  subst hk
  refine onHub_next_bay hb ?_
  simp only [hd, if_true]
  refine if_pos ⟨hopen, ?_⟩
  cases htxn : (s.hub.bay b).hf.txn with
  | none => rfl
  | some t => simpa [hspent t htxn] using (hspent t htxn).2.symm

end

/-! ### A RETIRING slot's block (R380) -/

theorem exec_retiringCommitRetry_due {n : Nat} {s : State} {p : NvWhat × Nat} (hn : n < 262144)
    (hretry : s.hub.eng.retry.find? (fun p => p.1 == .credBlock (n / 32)) = some p) (hdue : s.hub.passed p.2 (ms 100) = true)
    (hpresent : s.hub.eng.mainPresent = true) :
    exec (.retiringCommitRetry n) s = .next (s.to (request p.1 (s.hub.setEng (fun e =>
      { e with retry := e.retry.filter (fun x => !(x.1 == .credBlock (n / 32))) })))) := by
  refine onHub_next_unit hn ?_
  simp only [hretry]
  exact if_pos (by simp [hdue, hpresent])

/-! ### Fob frames (R398 to R401) -/

theorem exec_fobFrame_next (g : FobHeard) (s : State) : ∃ u, exec (.fobFrame g) s = .next (s.to u) :=
  ⟨_, (onHub_next_all rfl : execFobFrame g s = _)⟩

theorem exec_fobFrame_unheard {g : FobHeard} {s : State} (hnone : fobHeard g s.hub = []) : exec (.fobFrame g) s = .next (s.to s.hub) := by
  change execFobFrame g s = _
  exact onHub_next_all (if_pos (.inl hnone))

section
variable {g : FobHeard} {s : State} (hlen : g.frame.length = 16) (hheard : fobHeard g s.hub ≠ [])
include hlen hheard

theorem exec_fobFrame_badCrc (hcrc : crc16 (g.frame.take 14) ≠ beNat (g.frame.drop 14)) :
    exec (.fobFrame g) s = .next (s.to ((fobHeard g s.hub).foldl
      (fun h p => countAuth p.1 (fun c => { c with fobCrcErr := satAdd c.fobCrcErr 1 }) h) s.hub)) := by
  change execFobFrame g s = _
  exact onHub_next_all ((if_neg (by simp [hlen, hheard])).trans (if_pos hcrc))

theorem exec_fobFrame_engaged {e : Nat} {rssi : Int} (hcrc : crc16 (g.frame.take 14) = beNat (g.frame.drop 14))
    (hcreds : s.hub.creds.loading = false) (hclear : fobBay (fobHeard g s.hub) = some (e, rssi))
    (heng : engagedAt s.hub .f (beNat (g.frame.take 4)) = some e) (hback : inBackoff s.hub .f (beNat (g.frame.take 4)) = false) :
    exec (.fobFrame g) s = .next (s.to (judgeFob e ((uhfWindow s.hub e).getD 0) g.frame rssi s.hub)) := by
  change execFobFrame g s = _
  refine onHub_next_all ?_
  simp only [hlen, hheard, hcrc, hclear, hcreds, heng, hback, ne_eq, not_true_eq_false, Bool.false_eq_true, or_self, if_false, if_true]

end

/-! ### The rows -/

/-- Settles O40: a reply's mode and its window, and where a fob frame is heard and its CRC, decide what a row does. That a frame with a bad CRC is
counted at each bay that hears it (log 83) is the model's choice. -/
theorem authRepliesJudged : Obligations.AuthRepliesJudged := by
  intro b k f s hb
  refine ⟨fun bad hmode => ⟨exec_auth2_reply hb hmode, exec_authAck_reply hb hmode⟩,
    fun hk => ⟨exec_auth2_badMode hb rfl hk, exec_authAck_badMode hb rfl hk⟩,
    fun d hd hopen => ⟨exec_authReplyWindowClose_air hb hd hopen, exec_authReplyWindowClose_card hb hd hopen⟩,
    fun n p => exec_retiringCommitRetry_due, fun g hlen hcreds => ?fob⟩
  case fob =>
    obtain ⟨u, hu⟩ := exec_fobFrame_next g s
    refine ⟨s.to u, hu, rfl, fun hnone => ?unheard, fun hheard hcrc => ?badCrc, fun e rssi hclear hheard hcrc heng hback => ?engaged⟩
    case unheard => exact eq_of_next_to hu (exec_fobFrame_unheard hnone)
    case badCrc => exact eq_of_next_to hu (exec_fobFrame_badCrc hlen hheard hcrc)
    case engaged => exact eq_of_next_to hu (exec_fobFrame_engaged hlen hheard hcrc hcreds hclear heng hback)

end Sys2Proof.Machine
end

section
/-! PROOFS. Bulk loads of credentials: BULK_BEGIN, BULK_DATA, BULK_COMMIT with the switch it leaves, BULK_ABORT and BULK_TIMEOUT (R382 to R386, R574
to R577). -/

namespace Sys2Proof.Machine

/-! ### BULK_BEGIN (R574) -/

theorem bulkBegin_opens {q : Req} {c : CmdRef} {h w : Hub} {k : Nat} (hfree : storeBusy h = false) (hone : distinct (fleetList (signedData q)) = true)
    (hrange : ∀ f ∈ fleetList (signedData q), f ≤ 4095) (hcell : cellAdvance cellLoad (cellVal h cellLoad + 1) h = (.done k, w)) :
    bulkBegin q c h = (.async .ok [⟨8, 4, cellVal h cellLoad + 1⟩] [],
      setCreds (fun c => { c with bulk := some { fleets := fleetList (signedData q), loadId := (cellVal h cellLoad + 1) % 2 ^ 32, lastAt := w.now } }) w) := by
  have hnone : (fleetList (signedData q)).any (fun f => decide (4095 < f)) = false := by simpa using hrange
  simp only [bulkBegin, hfree, hone, hnone, hcell, Bool.not_true, Bool.or_self, Bool.false_eq_true, if_false]

/-! ### BULK_DATA (R575) -/

/-- The load's 600 s run anew. -/
def loadHeard (b : Bulk) (h : Hub) : Hub := setCreds (fun c => { c with bulk := some { b with lastAt := h.now } }) h

/-- Records that fit are taken behind those that the staging area holds. -/
theorem bulkData_takes {q : Req} {c : CmdRef} {h : Hub} {b : Bulk} (hopen : openLoad h = some b) (hid : fld q.payload 0 4 = b.loadId)
    (hfirst : fld q.payload 4 4 = b.records.length) (hroom : b.records.length + (recordList q.data).length ≤ loadMax)
    (hfit : firstBad (loadHeard b h) b.fleets (b.records.map recordToken) 0 (recordList q.data) = none) :
    bulkData q c h = (.async .ok (dataResult (b.records.length + (recordList q.data).length) noSlot) [],
      setCreds (fun c => { c with bulk := some { b with lastAt := h.now, records := b.records ++ recordList q.data } })
        ((loadHeard b h).program (flashStaging + 64 * b.records.length) (recordList q.data).flatten)) := by
  have hgoesOn : ¬(fld q.payload 0 4 ≠ b.loadId ∨ fld q.payload 4 4 ≠ b.records.length ∨ loadMax < b.records.length + (recordList q.data).length) := by
    simpa [hid, hfirst] using hroom
  rw [← List.flatMap_id]
  simp only [bulkData, hopen]
  refine (if_neg hgoesOn).trans ?_
  unfold loadHeard at hfit
  rw [hfit]
  rfl

/-! ### BULK_COMMIT (R383 to R385, R576) -/

/-- BULK_COMMIT names the open load, its digest and counts are right, every token finds a slot, and the lifetime count suffices. -/
structure LoadRight (q : Req) (b : Bulk) (h : Hub) : Prop where
  idle : h.creds.loading = false
  isOpen : openLoad h = some b
  named : fld q.payload 0 4 = b.loadId
  digest : signedData q = loadDigest b
  placed : (loadStore b h).unplaced = 0
  quota : ∀ f ∈ b.fleets, (b.records.filter (fun l => fld l 8 2 == f)).length ≤ (fleetOf h f).quota
  limit : (loadStore b h).counted = 0 ∨ cellVal h cellEnrol + (loadStore b h).counted ≤ enrolMax

theorem HostSideOnly.loadStore_eq {a c : Hub} (h : HostSideOnly a c) (b : Bulk) : loadStore b c = loadStore b a :=
  (congrArg (loadStore b) h.eq_with :)

/-- What a commit needs, it needs of nothing on the host side. -/
theorem LoadRight.of_hostSide {q : Req} {b : Bulk} {a c : Hub} (hr : LoadRight q b a) (h : HostSideOnly a c) : LoadRight q b c := by
  rw [h.eq_with]
  exact ⟨hr.idle, hr.isOpen, hr.named, hr.digest, hr.placed, hr.quota, hr.limit⟩

theorem bulkCommit_right {q : Req} {b : Bulk} {h : Hub} (hr : LoadRight q b h) (c : CmdRef) :
    bulkCommit q c h = commitLoad b (loadStore b h) c h := by
  have hexcess : b.fleets.any (fun f => decide ((fleetOf h f).quota < (b.records.filter (fun l => fld l 8 2 == f)).length)) = false := by
    simpa using hr.quota
  have hleft : ¬((loadStore b h).counted ≠ 0 ∧ enrolMax < cellVal h cellEnrol + (loadStore b h).counted) := by
    have := hr.limit
    omega
  simp only [bulkCommit, hr.isOpen]
  rw [if_neg (by simp [hr.named, hr.digest]), if_neg (not_not_intro hr.placed), if_neg (by simp [hexcess]), if_neg hleft]

/-- Only a load that changes a block runs on: one that changes none, and one whose writes are lost, ends within the step. -/
theorem changedBlocks_of_later {b : Bulk} {x : Loaded} {c : CmdRef} {h : Hub} (hl : (commitLoad b x c h).1 = .later) :
    changedBlocks h.creds.slots x.slots ≠ [] := by
  intro hnone
  unfold commitLoad at hl
  simp only [hnone, if_true] at hl
  repeat' split at hl
  all_goals cases hl

/-- Slots that the load frees, and those that it leaves RETIRING while their session is open. -/
def slotsFreed (b : Bulk) (h : Hub) : Nat := ((absent b h).filter (fun i => !(h.cred i).inSession)).length
def slotsRetired (b : Bulk) (h : Hub) : Nat := ((absent b h).filter (fun i => (h.cred i).inSession && !(h.cred i).retiring)).length

/-- The blocks wait for their switch at slot boundaries; the fob counters of these blocks need no write of their own any more. -/
def switchWaits (y : BulkSwitch) (h : Hub) : Hub :=
  setCreds (fun c => { c with fobDirty := c.fobDirty.filter (fun i => !y.blocks.contains (i / 32)), switch := some y }) h

/-- R384, R385: the blocks that change, the lifetime count and the journal entry are written, and the switch waits. -/
theorem commitLoad_switches {b : Bulk} {x : Loaded} {c : CmdRef} {h e f g : Hub} {i k m : Nat} (hsome : changedBlocks h.creds.slots x.slots ≠ [])
    (hblocks : writeBlocks b.loadId x.slots (changedBlocks h.creds.slots x.slots) h = (.done i, e))
    (hcount : (if x.counted = 0 then (Commit.done 0, e) else cellAdvance cellEnrol (cellVal h cellEnrol + x.counted) e) = (.done k, f))
    (hjournal : commit { js := [.bulkCommit b.loadId (cellVal f cellEnrol)] } f = (.done m, g)) :
    commitLoad b x c h = (.later, switchWaits
      { blocks := changedBlocks h.creds.slots x.slots, newSlots := x.slots, ref := c
        res := commitResult b x (slotsFreed b h) (slotsRetired b h) (cellVal g cellEnrol) } g) := by
  simp only [commitLoad, hblocks, hcount, hjournal, hsome, if_false]
  rfl

/-! ### BULK_TIMEOUT (R382) -/

theorem exec_bulkTimeout_over {s : State} {b : Bulk} (hopen : openLoad s.hub = some b) (hlate : s.hub.passed b.lastAt (sec 600) = true) :
    exec .bulkTimeout s = .next (s.to (abortLoad s.hub)) := by
  change execBulkTimeout s = _
  refine onHub_next_all ?_
  simp only [hopen, hlate, if_true]

theorem exec_bulkTimeout_early {s : State} (hearly : ∀ b, openLoad s.hub = some b → s.hub.passed b.lastAt (sec 600) = false) :
    exec .bulkTimeout s = .next s := by
  change execBulkTimeout s = .next (s.to s.hub)
  refine onHub_next_all ?_
  cases hopen : openLoad s.hub with
  | none => rfl
  | some b => simp only [hearly b hopen, Bool.false_eq_true, if_false]

/-! ### The rows -/

section
variable {q : Req} {s : State} {b : Bulk}

theorem exec_bulkData_takes (ha : passes specBulkData q s.hub = true) (hidle : (taken q s).creds.loading = false)
    (hopen : openLoad (taken q s) = some b) (hid : fld q.payload 0 4 = b.loadId) (hfirst : fld q.payload 4 4 = b.records.length)
    (hroom : b.records.length + (recordList q.data).length ≤ loadMax)
    (hfit : firstBad (loadHeard b (taken q s)) b.fleets (b.records.map recordToken) 0 (recordList q.data) = none) :
    exec (.bulkData q) s = .next (s.to (okDone specBulkData q (dataResult (b.records.length + (recordList q.data).length) noSlot) []
      (setCreds (fun c => { c with bulk := some { b with lastAt := (taken q s).now, records := b.records ++ recordList q.data } })
        ((loadHeard b (taken q s)).program (flashStaging + 64 * b.records.length) (recordList q.data).flatten)))) :=
  answers_done rfl ha ((if_neg (Bool.eq_false_iff.mp hidle)).trans (bulkData_takes hopen hid hfirst hroom hfit))

theorem exec_bulkAbort_open (ha : passes specBulkAbort q s.hub = true) (hidle : (taken q s).creds.loading = false)
    (hopen : openLoad (taken q s) = some b) (hid : fld q.payload 0 4 = b.loadId) :
    exec (.bulkAbort q) s = .next (s.to (okNow specBulkAbort q [] [] (abortLoad (taken q s)))) := by
  refine answers_now rfl ha ((if_neg (Bool.eq_false_iff.mp hidle)).trans ?_)
  simp only [bulkAbort, hopen, hid, if_true]

section
variable {v : Hub} (ha : passesToSig specBulkCommit q s.hub = true) (hv : verifiedTo specBulkCommit q s.hub v) (hr : LoadRight q b v)
include ha hv hr

theorem exec_bulkCommit_atOnce {res : List Fld} {w : Hub}
    (hc : commitLoad b (loadStore b v) (refOf specBulkCommit q) v = (.async .ok res [], w)) :
    exec (.bulkCommit q) s = .next (s.to (okDone specBulkCommit q res [] w)) :=
  answers_done_signed rfl ha hv ((if_neg (Bool.eq_false_iff.mp hr.idle)).trans ((bulkCommit_right hr _).trans hc))

/-- The response ACCEPTED goes before any effect of a load that runs on. -/
theorem exec_bulkCommit_later (hl : (commitLoad b (loadStore b v) (refOf specBulkCommit q) v).1 = .later) :
    exec (.bulkCommit q) s =
      .next (s.to (commitLoad b (loadStore b v) (refOf specBulkCommit q) (accept specBulkCommit q v)).2) := by
  have hhost := HostSideOnly.accepted specBulkCommit q v
  have hbody : ∀ u, LoadRight q b u →
      (if u.creds.loading then fail .busy u else bulkCommit q (refOf specBulkCommit q) u) = commitLoad b (loadStore b u) (refOf specBulkCommit q) u :=
    fun u hu => (if_neg (Bool.eq_false_iff.mp hu.idle)).trans (bulkCommit_right hu _)
  refine answers_later_signed rfl ha hv ((congrArg Prod.fst (hbody v hr)).trans hl) ?_
  rw [hbody _ (hr.of_hostSide hhost), hhost.loadStore_eq]

theorem exec_bulkCommit_switches {e f g : Hub} {i k m : Nat} (hl : (commitLoad b (loadStore b v) (refOf specBulkCommit q) v).1 = .later)
    (hblocks : writeBlocks b.loadId (loadStore b v).slots (changedBlocks v.creds.slots (loadStore b v).slots) (accept specBulkCommit q v) = (.done i, e))
    (hcount : (if (loadStore b v).counted = 0 then (Commit.done 0, e)
      else cellAdvance cellEnrol (cellVal v cellEnrol + (loadStore b v).counted) e) = (.done k, f))
    (hjournal : commit { js := [.bulkCommit b.loadId (cellVal f cellEnrol)] } f = (.done m, g)) :
    exec (.bulkCommit q) s = .next (s.to (switchWaits
      { blocks := changedBlocks v.creds.slots (loadStore b v).slots, newSlots := (loadStore b v).slots, ref := refOf specBulkCommit q
        res := commitResult b (loadStore b v) (slotsFreed b (accept specBulkCommit q v)) (slotsRetired b (accept specBulkCommit q v))
          (cellVal g cellEnrol) } g)) := by
  have hhost := HostSideOnly.accepted specBulkCommit q v
  have hslots : (accept specBulkCommit q v).creds.slots = v.creds.slots := congrArg (·.creds.slots) hhost.eq_with
  have hcell : cellVal (accept specBulkCommit q v) cellEnrol = cellVal v cellEnrol := (congrArg (cellVal · cellEnrol) hhost.eq_with :)
  have hsome := changedBlocks_of_later hl
  rw [← hslots] at hsome hblocks
  rw [← hcell] at hcount
  rw [exec_bulkCommit_later ha hv hr hl, commitLoad_switches hsome hblocks hcount hjournal, hslots]

end
end

/-- Settles O12: a row's conditions decide what its body gives, for BULK_COMMIT on the hub after ACCEPTED as well. The slots and numbers that a load
uses (log 92), a load that changes no block and is done at once (log 93) and BULK_TIMEOUT without effect before its time (log 3) are the model's
choices. -/
theorem bulkLoad : Obligations.BulkLoad := by
  intro q s u
  refine ⟨?begin, fun b ha hidle hopen hid hfirst hroom => ?data, fun v b ha hv hidle hopen hid hdigest hplaced hquota hlimit => ?commit,
    fun b => exec_bulkAbort_open, fun b => exec_bulkTimeout_over, exec_bulkTimeout_early⟩
  case begin =>
    intro v k w ha hv hfree fs n hone hrange hcell
    exact answers_done_signed rfl ha hv (bulkBegin_opens hfree hone hrange hcell)
  case data => exact exec_bulkData_takes ha hidle hopen hid hfirst hroom
  case commit =>
    have hr : LoadRight q b v := ⟨hidle, hopen, hid, hdigest, hplaced, hquota, hlimit⟩
    refine ⟨fun res w => exec_bulkCommit_atOnce ha hv hr, ?later⟩
    case later =>
      intro hl x a ks n i k m e f g hblocks hcount hjournal
      exact ⟨_, exec_bulkCommit_switches ha hv hr hl hblocks hcount hjournal, rfl, _, rfl, rfl, rfl, rfl, _, _, rfl⟩

end Sys2Proof.Machine
end

section
/-! PROOFS. The release boundary and its frames, the frames a release bus brings, its silences, and bus-off (R409, R411, R421 to R426, R428, R432
to R442, R553, R655). -/

namespace Sys2Proof.Machine

/-! ### Frames of the hub and their times (R421 to R426, R553) -/

section
variable {b : Nat} {s : State} (hb : b < 128)
include hb

section
variable {t : Nat} (hsince : (s.hub.rel b).txSince = some t)
include hsince

theorem exec_releaseFrameLate_first (hlate : s.hub.passed t (ms 5) = true) (hcounted : (s.hub.rel b).txLate = false) :
    exec (.releaseFrameLate b) s =
      .next (s.to (setRel b (fun r => { r with txLate := true, cnt := { r.cnt with txLate := satAdd r.cnt.txLate 1 } }) s.hub)) := by
  refine onHub_next_bay hb ?_
  simp only [hsince]
  exact if_pos (by simp [hlate, hcounted])

theorem exec_releaseFrameLate_counted (hcounted : (s.hub.rel b).txLate = true) : exec (.releaseFrameLate b) s = .next s := by
  refine onHub_next_bay hb ?_
  simp only [hsince]
  exact if_neg (by simp [hcounted])

end

theorem exec_safetyCutSend_waited (hsends : busSends s.hub (regionOf b) = true)
    (hwaits : ∃ c ∈ (s.hub.region (regionOf b)).bus.cutFrames, c.1 = b) :
    exec (.safetyCutSend b) s = .next (s.to (busDrain (regionOf b) s.hub)) :=
  onHub_next_bay hb (if_pos (by simpa [hsends] using hwaits))

theorem exec_busFrameComplete_open (hopen : b ∈ (s.hub.region (regionOf b)).bus.cutsOpen) :
    exec (.busFrameComplete b) s = .next (s.to (dropLines (regionOf b)
      (setBus (regionOf b) (fun u => { u with cutsOpen := u.cutsOpen.filter (· ≠ b) }) s.hub))) :=
  onHub_next_bay hb (if_pos (List.contains_iff_mem.mpr hopen))

theorem exec_holdTimeExpiry_passed {x : Session} {t : Nat} (hsess : (s.hub.bay b).sess = some x) (hphase : x.phase = .holding)
    (hhold : x.holdAt = some t) (hpassed : s.hub.passed t (ms (100 * x.holdTime)) = true) :
    exec (.holdTimeExpiry b) s = .next (s.to (setSess b (fun y => { y with cutDue := true }) s.hub)) := by
  refine onHub_next_bay hb ?_
  simp only [hsess, hphase, hhold]
  exact if_pos hpassed

end

/-- Settles O43: a row's conditions decide its guard. That a completion does no more than drop the lines (log 100) is the
model's choice. -/
theorem releaseFrames : Obligations.ReleaseFrames := by
  intro b s hb h r
  refine ⟨?boundary, fun t hsince hlate => ⟨?late, ?counted⟩, ?cuts, ?complete, fun x t => ?hold⟩
  case boundary => exact fun hdue => onHub_next_bay hb (if_pos hdue)
  case late => exact exec_releaseFrameLate_first hb hsince hlate
  case counted => exact exec_releaseFrameLate_counted hb hsince
  case cuts => exact exec_safetyCutSend_waited hb
  case complete => exact exec_busFrameComplete_open hb
  case hold => exact exec_holdTimeExpiry_passed hb

/-! ### Frames from the bus (R409, R411) -/

/-- A heard frame of the type expected and of its length is its bay's. -/
theorem bpcFrame_right {typ r ident : Nat} {f : List Byte} {k : Nat → Hub → Hub} {h : Hub} (hhears : busHears h r = true)
    (htyp : ident / 16 = typ) (hlen : f.length = frameBytes typ) : bpcFrame typ r ident f k h = k (16 * r + ident % 16) h := by
  simp [bpcFrame, hhears, htyp, hlen]

theorem exec_foreignFrame_unknownType {r ident : Nat} {s : State} (hr : r < 8) (hhears : busHears s.hub r = true)
    (htyp : ident / 16 ∉ [0x08, 0x28, 0x29, 0x30]) (f : List Byte) :
    exec (.foreignFrame r ident f) s = .next (s.to (foreign r s.hub)) := by
  simp only [List.mem_cons, List.not_mem_nil, or_false, not_or] at htyp
  exact onHub_next_region hr (if_pos (by simp [hhears, htyp]))

/-! ### Silences (R433, R438, R439, R442) -/

section
variable {b : Nat} {s : State} (hb : b < 128)
include hb

theorem exec_meterBTimeout_late {x : List Byte} {t : Nat} (hheld : (s.hub.rel b).meterA = some (x, t))
    (hlate : s.hub.passed t (ms 10) = true) :
    exec (.meterBTimeout b) s = .next (s.to (meterBad b (setRel b (fun r => { r with meterA := none }) s.hub))) := by
  refine onHub_next_bay hb ?_
  simp only [hheld]
  exact if_pos hlate

theorem exec_meterReqTimeout_late {q : MeterReq} (hreq : (s.hub.rel b).req = some q) (hruns : q.deadline ≠ 0)
    (hlate : q.deadline ≤ s.hub.now) : exec (.meterReqTimeout b) s = .next (s.to (meterFailed b s.hub)) := by
  refine onHub_next_bay hb ?_
  simp only [hreq]
  exact if_pos ⟨hruns, hlate⟩

end

/-! ### Bus-off (R428) -/

section
variable {r : Nat} {s : State} (hr : r < 8)
include hr

theorem exec_busOff_first (hhears : busHears s.hub r = true) (hon : (s.hub.region r).bus.busOff = none) :
    exec (.busOff r) s =
      .next (s.to (setBus r (fun u => { u with busOff := some s.hub.now, busOffTold := false, busOffCnt := satAdd u.busOffCnt 1 }) s.hub)) :=
  onHub_next_region hr (if_neg (by simp [hhears, hon]))

variable {t : Nat} (hoff : (s.hub.region r).bus.busOff = some t)
include hoff

theorem exec_busOffPersist_outlasts {i : Nat} (hshort : shortestInterval s.hub r = some i) (htold : (s.hub.region r).bus.busOffTold = false)
    (hpassed : s.hub.passed t (ms i + 1) = true) :
    exec (.busOffPersist r) s = .next (s.to (((baysOf r).filter (isCharging s.hub)).foldl (fun s b => trigger b cBusOff s)
      (setBus r (fun u => { u with busOffTold := true }) s.hub))) := by
  refine onHub_next_region hr ?_
  simp only [hoff, hshort]
  exact if_pos (by simp [hpassed, htold])

theorem exec_busOffRecovery_off :
    let u := setBus r (fun u => { u with busOff := none, busOffTold := false }) s.hub
    exec (.busOffRecovery r) s = .next (s.to (if busSends u r then busDrain r u else u)) :=
  onHub_next_region hr (if_neg (by simp [hoff]))

end

/-- Settles O44: a row's conditions decide its guard, and a frame's type and length decide whose it is. That a silent bay trips with the cause of a
bay fault (log 96) is the model's choice. -/
theorem busFramesAndBusOff : Obligations.BusFramesAndBusOff := by
  refine ⟨fun r ident b f s hr hb => ⟨fun hhears => ⟨?status, ?urgent, ?meterA, ?meterB, ?foreign, ?busOff⟩, fun hcharging => ⟨?silent, ?meterless⟩,
    fun x t => ?meterBLate, fun q => ?reqLate⟩, fun r s hr => ⟨fun t i => ?persists, fun t => ?returns⟩⟩
  case status => exact fun htyp hlen => onHub_next_region hr (bpcFrame_right hhears htyp hlen)
  case urgent => exact fun htyp hlen => onHub_next_region hr (bpcFrame_right hhears htyp hlen)
  case meterA => exact fun htyp hlen => onHub_next_region hr (bpcFrame_right hhears htyp hlen)
  case meterB => exact fun htyp hlen => onHub_next_region hr (bpcFrame_right hhears htyp hlen)
  case foreign => exact fun htyp => exec_foreignFrame_unknownType hr hhears htyp f
  case busOff => exact exec_busOff_first hr hhears
  case silent => exact fun hlate => onHub_next_bay hb (if_pos (by simp [hcharging, hlate]))
  case meterless => exact fun hlate => onHub_next_bay hb (if_pos (by simp [hcharging, hlate]))
  case meterBLate => exact exec_meterBTimeout_late hb
  case reqLate => exact exec_meterReqTimeout_late hb
  case persists => exact fun hoff => exec_busOffPersist_outlasts hr hoff
  case returns => exact exec_busOffRecovery_off hr

end Sys2Proof.Machine
end

section
/-! PROOFS. LOG_ACK, LOG_CONFIG and TIME_SET (R465, R467, R468, R473, R580, R581, R584). -/

namespace Sys2Proof.Machine

/-! ### LOG_ACK (R473, R580) -/

section
variable {q : Req} {c : CmdRef} {h : Hub} (hnewest : fld q.payload 0 8 ≤ newestSeq h)
include hnewest

/-- What is acknowledged already is answered without a burst. -/
theorem logAck_acked (hacked : fld q.payload 0 8 ≤ cellVal h cellReelAck) : logAck q c h = (.async .ok (ackResult h) [], h) :=
  (if_neg (Nat.not_lt.mpr hnewest)).trans (if_pos hacked)

theorem logAck_advances {k : Nat} {w : Hub} (habove : cellVal h cellReelAck < fld q.payload 0 8)
    (hcell : cellAdvance cellReelAck (fld q.payload 0 8) h = (.done k, w)) : logAck q c h = (.async .ok (ackResult w) [], w) := by
  refine (if_neg (Nat.not_lt.mpr hnewest)).trans ((if_neg (Nat.not_le.mpr habove)).trans ?_)
  rw [hcell]

end

/-! ### LOG_CONFIG (R465, R468, R581) -/

section
variable {q : Req} {c : CmdRef} {h w : Hub} {k : Nat}

/-- An offset alone: SIZE 0 keeps the size, and the site record is one page. -/
theorem logConfig_offset (hkeep : fld q.payload 0 2 = 0) (hofs : fld q.payload 4 4 ≤ 86399) (hburst : pageBurst 1 h = (.done k, w)) :
    let x := siteWritten (setOffset (fld q.payload 4 4) w)
    logConfig q c h = (.async .ok (configResult x) [], x) := by
  have hgiven : fld q.payload 4 4 ≠ 0xFFFFFFFF := by omega
  simp [logConfig, hkeep, hgiven, hofs, hburst]

/-- A size alone: offset 0xFFFFFFFF keeps the offset, and the resize's burst holds the site record. -/
theorem logConfig_size (hkeep : fld q.payload 4 4 = 0xFFFFFFFF) (hgiven : fld q.payload 0 2 ≠ 0) (hsize : sizeOk h (fld q.payload 0 2) = true)
    (hlc : h.lc = factory ∨ h.lc = commissioning) (hacked : allAcked h = true) (hresize : resize (fld q.payload 0 2) h = (.done k, w)) :
    logConfig q c h = (.async .ok (configResult (siteWritten w)) [], siteWritten w) := by
  rcases hlc with hlc | hlc <;> simp [logConfig, hkeep, hgiven, hsize, hlc, hacked, hresize]

end

/-! ### TIME_SET (R467, R584) -/

/-- The EVENT that stands in TIME_SET's burst, under the new time (R457). -/
def timeSetBurst (new : Nat) (h : Hub) : Burst_ := { ents := [eventEnt 0xA chipSrc 1 new [⟨0, 8, h.aon.rtc⟩] false] }

theorem timeSet_written {q : Req} {c : CmdRef} {h w : Hub} {k : Nat} (hgiven : fld q.payload 0 8 ≠ 0)
    (hburst : commit (timeSetBurst (fld q.payload 0 8) h) h = (.done k, w)) :
    timeSet q c h = (.async .ok [⟨8, 8, h.aon.rtc⟩, ⟨16, 8, fld q.payload 0 8⟩] [], setRtc (fld q.payload 0 8) w) := by
  rw [timeSetBurst] at hburst
  refine (if_neg hgiven).trans ?_
  rw [hburst]

/-! ### The rows -/

/-- Settles O13: a row's conditions pass its body's own checks, and with its burst written the body ends OK. The one page of the site record (log
127) is the model's choice. -/
theorem reelAndTimeCommands : Obligations.ReelAndTimeCommands := by
  intro q s u
  refine ⟨fun ha hnewest => ⟨fun hacked => ?logAckAcked, fun k w habove hcell => ?logAckAdvances⟩,
    fun ha => ⟨fun k w hkeep hofs hburst => ?logConfigOffset, fun k w hkeep hgiven hsize hlc hacked hresize => ?logConfigSize⟩,
    fun k w ha hgiven hburst => ?timeSet⟩
  case logAckAcked => exact answers_done rfl ha (logAck_acked hnewest hacked)
  case logAckAdvances => exact answers_done rfl ha (logAck_advances hnewest habove hcell)
  case logConfigOffset => exact answers_done rfl ha (logConfig_offset hkeep hofs hburst)
  case logConfigSize => exact answers_done rfl ha (logConfig_size hkeep hgiven hsize hlc hacked hresize)
  case timeSet => exact answers_done rfl ha (timeSet_written hgiven hburst)

end Sys2Proof.Machine
end

section
/-! PROOFS. HOLDUP_SET, CALIB_EXPORT, CALIB_IMPORT and CALIB_BAY (R483, R589, R608 to R610, R788). -/

namespace Sys2Proof.Machine

/-! ### HOLDUP_SET (R483, R589) -/

/-- The page with the five parameters of an entry. -/
def holdupPage (q : Req) (h : Hub) : CalPage :=
  changed h h.boot.cal.changes
    { h.boot.cal with cHold := fld q.payload 0 4, pLoad := fld q.payload 4 4, vMin := fld q.payload 8 2, vDiv := fld q.payload 10 1
                      tPage := fld q.payload 11 1 }

/-- The burst that holds sector 0 of page `c` and the EVENT of its change. -/
def boardBurst (c : CalPage) (h : Hub) : Burst_ :=
  { ents := [eventEnt 0xB chipSrc 1 h.aon.rtc (calibEvent 0xFF (pageCrc c)) false], other := boardWrite }

theorem holdupSet_inRange {q : Req} {c : CmdRef} {h w : Hub} {k : Nat} (hrange : holdupRanges q.payload = true)
    (hburst : commit (boardBurst (holdupPage q h) h) h = (.done k, w)) :
    holdupSet q c h =
      (.async .ok [] [], if w.boot.calValid then pageInForce (holdupPage q h) (pageWritten [] (holdupPage q h) w)
        else setBoot (fun b => { b with cal := holdupPage q h }) (pageWritten [] (holdupPage q h) w)) := by
  rw [boardBurst, holdupPage] at hburst
  refine (if_neg (by simp [hrange])).trans ?_
  rw [hburst]
  rfl

/-! ### CALIB_EXPORT (R608) -/

/-- The page in force, the serial and the time, under the device's signature. -/
def exportBytes (h : Hub) : List Byte :=
  let page := pageBytes h.boot.cal
  let tail := toLe 8 Config.serial.toNat ++ toLe 8 h.aon.rtc
  page ++ tail ++ sigBytes (Config.ecdsaSign 0x10 (exportDigest page tail))

theorem calibExport_fits {q : Req} {c : CmdRef} {h : Hub} (hroom : 65616 ≤ q.room) :
    calibExport q c h = (.async .ok [] (exportBytes h), { h with flash := { h.flash with exported := true } }) :=
  if_neg (Nat.not_lt.mpr hroom)

/-! ### CALIB_IMPORT (R609) -/

/-- The page that an import brings, as its write leaves it. -/
def importedPage (q : Req) (h : Hub) : CalPage :=
  changed h (if h.boot.calValid then h.boot.cal.changes else (pageOf (q.data.take 65536)).changes) (pageOf (q.data.take 65536))

/-- The data are a sound page of this hub with its tail under the device's signature. -/
structure ImportSound (q : Req) (h : Hub) : Prop where
  length : q.data.length = 65616
  tail : fld ((q.data.drop 65536).take 16) 0 8 = Config.serial.toNat
  signed : Config.ecdsaVerify (BitVec.ofNat 512 (vaultKey h 0x13 0).val) (exportDigest (q.data.take 65536) ((q.data.drop 65536).take 16))
    (sigOf (q.data.drop 65552)) = true
  sound : pageSound (q.data.take 65536) = true
  serial : fld (q.data.take 65536) 8 8 = Config.serial.toNat

theorem calibImport_sound {q : Req} {c : CmdRef} {h w : Hub} {k : Nat} (hs : ImportSound q h) (hidle : anyLive h = false)
    (hburst : pageBurst wholeWrite h = (.done k, w)) :
    calibImport q c h =
      (.async .ok [] [], postEvent 0xB chipSrc (calibEvent 0xFF (pageCrc (importedPage q h)))
        (retune (headsChecked (pageInForce (importedPage q h) (pageWritten wholeSectors (importedPage q h) w))))) := by
  refine (if_neg (not_not_intro hs.length)).trans <| (if_neg (by simp [hidle])).trans <| (if_neg (not_not_intro hs.tail)).trans <|
    (if_neg (by simp [hs.signed])).trans <| (if_neg (by simp [hs.sound, hs.serial])).trans ?_
  rw [hburst]
  rfl

/-! ### CALIB_BAY (R610, R788) -/

/-- The hub with the takes of a procedure counted, where it ranges and its sweep, if any, has found its codes. -/
def calibCounted (q : Req) (m : CalibRun) (h : Hub) : Hub :=
  if (bit (calWhat q) 0 || bit (calWhat q) 1) && (calibTuned (calWhat q) m (fld q.payload 0 2) h).isSome then countCalibTakes (fld q.payload 0 2) m h
  else h

/-- A procedure that passes its checks and is solved is the write of its bay's entry. -/
theorem calibBay_solved {q : Req} {m : CalibRun} {c : CmdRef} {h w : Hub} {e : List Byte} {r : Nat} (hpass : calibFails q (fld q.payload 0 2) h = none)
    (hsolve : calibSolve q m (fld q.payload 0 2) (calibCounted q m h) = .ok (e, r, w)) :
    calibBay m q c h = calibWrite (calWhat q) (fld q.payload 0 2) e r w := by
  rw [calibCounted] at hsolve
  simp only [calibBay, hpass, hsolve]

/-! ### The rows -/

/-- The hub after a command without a signature whose body ends OK by COMMAND_DONE within the step. -/
theorem hostCommand_passes_done {c : Spec} {q : Req} {h w : Hub} {body : Req → CmdRef → Hub → Reply × Hub} {r : List Fld} {d : List Byte}
    (ha : passes c q h = true) (hb : body q (refOf c q) (consume q h) = (.async .ok r d, w)) : hostCommand c body q h = okDone c q r d w := by
  rw [hostCommand_passes body ha, hb]
  exact if_neg (by simp)

/-- Settles O16: a row's conditions pass its body's own checks, and with its burst written the body ends OK. HOLDUP_SET on a page that is not valid and
the CHANGES of an import (log 153), and CALIB_BAY in one step with its takes counted at the bay (log 154), are the model's choices. -/
theorem calibrationCommands : Obligations.CalibrationCommands := by
  intro q s u
  refine ⟨?holdupSet, fun ha hroom => ?calibExport, fun ha => ⟨_, hostRow_next rfl, rfl, ?calibImport⟩, ?calibBay⟩
  case holdupSet =>
    intro k w ha hrange c hburst
    exact answers_done rfl ha (holdupSet_inRange hrange hburst)
  case calibExport => exact answers_done rfl ha (calibExport_fits hroom)
  case calibImport =>
    intro k w page tail c hlen hidle htail hsig hsound hserial hburst
    exact hostCommand_passes_done ha (calibImport_sound ⟨hlen, htail, hsig, hsound, hserial⟩ hidle hburst)
  case calibBay =>
    intro m e r w res x ha b n hpass hsolve hwrite
    exact answers_done rfl ha ((calibBay_solved hpass hsolve).trans hwrite)

end Sys2Proof.Machine
end

section
/-! PROOFS. The reads of the reel, the clocks, power, versions and calibration (R472, R579, R582, R583, R585, R590, R601, R611). -/

namespace Sys2Proof.Machine

section
variable {q : Req} {c : CmdRef} {h : Hub}

/-- The records that LOG_READ names: those from START on. -/
def recordsFrom (start : Nat) (h : Hub) : List Rec := h.nv.reel.recs.filter (fun r => decide (start ≤ r.seq))

theorem logRead_inRange (hmin : 1 ≤ fld q.payload 8 4) (hmax : fld q.payload 8 4 ≤ 1048576) (hroom : 64 ≤ q.room) :
    let l := recordsFrom (fld q.payload 0 8) h
    let out := l.take (min (fld q.payload 8 4) (q.room / 64))
    logRead q c h =
      (.async .ok [⟨8, 8, ((out.head?).map (·.seq)).getD 0⟩, ⟨16, 4, out.length⟩,
        ⟨20, 1, flags [decide (fld q.payload 0 8 < oldestSeq h), decide (out.length < l.length)]⟩, ⟨24, 8, newestSeq h⟩,
        ⟨32, 8, cellVal h cellReelAck⟩] (out.flatMap recBytes), h) := by
  have hinRange : ¬(fld q.payload 8 4 = 0 ∨ 1048576 < fld q.payload 8 4) := by omega
  exact (if_neg hinRange).trans (if_neg (Nat.not_lt.mpr hroom))

theorem logStatus_answers (hactive : bit (fld q.payload 0 1) 1 = true → fromActive q h = true) (hroom : bit (fld q.payload 0 1) 0 = true → 36 ≤ q.room) :
    logStatus q c h =
      (.done .ok [⟨0, 1, fillLevel h⟩, ⟨4, 4, h.nv.reel.sizeMiB⟩, ⟨8, 4, reelFreeKiB h⟩, ⟨12, 4, h.nv.reel.dailiesOfs⟩, ⟨16, 8, oldestSeq h⟩,
          ⟨24, 8, newestSeq h⟩, ⟨32, 8, cellVal h cellReelAck⟩, ⟨40, 8, h.nv.reel.lastDailiesSeq⟩, ⟨48, 8, cellVal h cellSession⟩]
        (if bit (fld q.payload 0 1) 0 then reelCounters h.eng.cnt else []),
       if bit (fld q.payload 0 1) 1 then h.setEng (fun e => { e with cnt := {} }) else h) := by
  have hmay : ¬(bit (fld q.payload 0 1) 1 && !fromActive q h) = true := by
    rw [Bool.and_eq_true]
    exact fun ⟨hclear, hother⟩ => by simp [hactive hclear] at hother
  have hfits : ¬(bit (fld q.payload 0 1) 0 = true ∧ q.room < 36) := fun ⟨hcnt, hshort⟩ => Nat.not_lt.mpr (hroom hcnt) hshort
  exact (if_neg hmay).trans (if_neg hfits)

end

/-- Settles O19: LOG_READ in range and LOG_STATUS from a port that may clear pass their own checks; the other reads have none. -/
theorem reelAndStatusReads : Obligations.ReelAndStatusReads := by
  intro q s
  refine ⟨fun ha hmin hmax hroom => ?logRead, fun ha hactive hroom => ?logStatus, fun ha => ?dailiesGet, fun ha => ?timeGet, fun ha => ?powerStatus,
    fun ha => ?version, fun ha => ?calibStatus⟩
  case logRead => exact answers_done rfl ha (logRead_inRange hmin hmax hroom)
  case logStatus => exact answers_now rfl ha (logStatus_answers hactive hroom)
  case dailiesGet => exact answers_now rfl ha rfl
  case timeGet => exact answers_now rfl ha rfl
  case powerStatus => exact answers_now rfl ha rfl
  case version => exact answers_now rfl ha rfl
  case calibStatus => exact answers_now rfl ha rfl

end Sys2Proof.Machine
end

section
/-! PROOFS. The order in which an entry of a mailbox is checked (R496, R504, R508, R509, R514, R518, R532). -/

namespace Sys2Proof.Machine

/-! ### Rows that are host commands -/

/-- `i` is the host command row of `c`: it completes the entry `q` and then settles what a change of the limits asks for (R151, R597), which is nothing
where the command has changed the host side alone. -/
def IsHostRow (q : Req) (i : Instr) (c : Spec) : Prop :=
  ∃ (body : Req → CmdRef → Hub → Reply × Hub) (settle : Hub → Hub → Hub), (∀ a b, HostSideOnly a b → settle a b = b) ∧
    ∀ s, exec i s = onHub (fun h => .next (settle h (hostCommand c body q h))) s

theorem isHostRow_of_exec {q : Req} {i : Instr} {c : Spec} {body : Req → CmdRef → Hub → Reply × Hub}
    (he : ∀ s, exec i s = onHub (fun h => .next (hostCommand c body q h)) s) : IsHostRow q i c :=
  ⟨body, fun _ b => b, fun _ _ _ => rfl, he⟩

theorem HostSideOnly.compPage_eq {a b : Hub} (h : HostSideOnly a b) : compPage b = compPage a := (congrArg compPage h.eq_with :)

theorem isHostRow_complianceWrite (q : Req) : IsHostRow q (.complianceWrite q) specComplianceWrite :=
  ⟨complianceWrite, fun a b => if compPage b = compPage a then b else retrainAll b, fun _ _ h => if_pos h.compPage_eq, fun _ => rfl⟩

theorem isHostRow_lifecycleSet (q : Req) : IsHostRow q (.lifecycleSet q) specLifecycleSet :=
  ⟨lifecycleSet, limitsApplied, fun _ _ h => if_pos h.limits_eq, fun _ => rfl⟩

theorem hostRows_isHostRow (q : Req) (m : CalibRun) : ∀ r ∈ hostRows q m, IsHostRow q r.1 r.2 := by
  simp only [hostRows, List.forall_mem_append, List.forall_mem_cons, List.not_mem_nil, false_imp_iff, implies_true, and_true,
    isHostRow_complianceWrite, isHostRow_lifecycleSet, true_and]
  and_intros <;> exact isHostRow_of_exec fun _ => rfl

/-- A row whose command is answered with a failure, with nothing but the host side changed before, does just that. -/
theorem IsHostRow.fails {q : Req} {i : Instr} {c : Spec} {s : State} {e : Bool} {st : Status} {v : Hub} (hrow : IsHostRow q i c)
    (hans : ∀ body, hostCommand c body q s.hub = answer c q e (.done st [] []) v) (hv : HostSideOnly s.hub v) :
    exec i s = .next (s.to (answer c q e (.done st [] []) v)) := by
  obtain ⟨body, settle, hquiet, hexec⟩ := hrow
  rw [hexec s]
  refine onHub_next_all (f := fun h => settle h (hostCommand c body q h)) ?_
  simp only [hans body]
  exact hquiet _ _ (hv.answer c q e _)

/-! ### The checks in their order (R509, R514, R532) -/

section
variable {c : Spec} {q : Req} {body : CmdRef → Hub → Reply × Hub} {u : Hub}

theorem checked_badFlags (hflags : flagsOk q = false) : checked c q body u = fail .badParam u := by
  simp only [checked, hflags, Bool.not_false, if_true]

theorem opcode_taken (hknown : q.op ∈ knownOpcodes) (hserved : u.romRecovery = false ∨ romServes q.op u = true) :
    (!knownOpcodes.contains q.op || (u.romRecovery && !romServes q.op u)) = false := by
  rcases hserved with hrom | hserves
  · simp [hknown, hrom]
  · simp [hknown, hserves]

section
variable (hflags : flagsOk q = true)
include hflags

theorem checked_badOpcode (hop : q.op ∉ knownOpcodes ∨ u.romRecovery = true ∧ romServes q.op u = false) :
    checked c q body u = fail .badOpcode u := by
  have hbad : (!knownOpcodes.contains q.op || (u.romRecovery && !romServes q.op u)) = true := by
    rcases hop with hunknown | ⟨hrom, hout⟩
    · simp [hunknown]
    · simp [hrom, hout]
  simp only [checked, hflags, hbad, Bool.not_true, Bool.false_eq_true, if_false, if_true]

variable (hknown : q.op ∈ knownOpcodes) (hserved : u.romRecovery = false ∨ romServes q.op u = true)
include hknown hserved

theorem checked_notAllowed (hport : allowed c q u = false) : checked c q body u = fail .notAuthorised u := by
  simp only [checked, hflags, opcode_taken hknown hserved, hport, Bool.not_true, Bool.not_false, Bool.false_eq_true, if_false, if_true]

variable (hport : allowed c q u = true)
include hport

theorem checked_badLength (hlen : lengthOk c q = false) : checked c q body u = fail .badLength u := by
  simp only [checked, hflags, opcode_taken hknown hserved, hport, hlen, Bool.not_true, Bool.not_false, Bool.false_eq_true, if_false, if_true]

variable (hlen : lengthOk c q = true)
include hlen

theorem checked_badTarget {st : Status} (htarget : targetStatus (c.target q.payload) u = some st) : checked c q body u = fail st u := by
  simp only [checked, hflags, opcode_taken hknown hserved, hport, hlen, htarget, Bool.not_true, Bool.false_eq_true, if_false]

variable (htarget : targetStatus (c.target q.payload) u = none)
include htarget

theorem checked_badData (hdata : q.dataOk = false) :
    checked c q body u = fail .badParam (mbxErr q.mbx (fun m => { m with dmaErr := true }) u) := by
  simp only [checked, hflags, opcode_taken hknown hserved, hport, hlen, htarget, hdata, Bool.not_true, Bool.not_false, Bool.false_eq_true,
    if_false, if_true]

theorem checked_badState {st : Status} (hdata : q.dataOk = true) (hunsigned : c.signed q u = false) (hstate : commonStatus c q u = some st) :
    checked c q body u = fail st u := by
  simp only [checked, hflags, opcode_taken hknown hserved, hport, hlen, htarget, hdata, hunsigned, hstate, Bool.not_true, Bool.false_eq_true,
    if_false]

end
end

/-! ### An entry that its row takes (R504, R508) -/

section
variable {c : Spec} {q : Req} {h : Hub} (hfetch : fetches q h = true) (hread : q.entryOk = true) (hmbx : q.mbx ≠ .smbus)
  (htakes : (q.op = c.op ∧ c.mine q = true) ∨ q.op ∉ knownOpcodes)
include hfetch hread hmbx htakes

/-- An entry with the SEQ expected goes on to the checks; one with another is answered BAD_PARAM with SEQ_ERR. -/
theorem hostCommand_entry (body : Req → CmdRef → Hub → Reply × Hub) :
    hostCommand c body q h =
      if seqOk q (h.mailbox q.mbx) then answer c q false (checked c q (body q) (consume q h)).1 (checked c q (body q) (consume q h)).2
      else answer c q true (.done .badParam [] []) (mbxErr q.mbx (fun m => { m with seqErr := true }) (consume q h)) := by
  have htaken : (!fetches q h || (knownOpcodes.contains q.op && (decide (q.op ≠ c.op) || !c.mine q))) = false := by
    rcases htakes with ⟨hop, hmine⟩ | hunknown
    · simp [hfetch, hop, hmine]
    · simp [hfetch, hunknown]
  simp only [hostCommand, htaken, hread, Bool.not_true, Bool.false_eq_true, if_false]
  cases hm : q.mbx with
  | smbus => exact absurd hm hmbx
  | normal p => cases seqOk q (h.mailbox (.normal p)) <;> rfl
  | urgent p => cases seqOk q (h.mailbox (.urgent p)) <;> rfl

theorem hostCommand_badSeq (hseq : seqOk q (h.mailbox q.mbx) = false) (body : Req → CmdRef → Hub → Reply × Hub) :
    hostCommand c body q h = answer c q true (.done .badParam [] []) (mbxErr q.mbx (fun m => { m with seqErr := true }) (consume q h)) := by
  rw [hostCommand_entry hfetch hread hmbx htakes, if_neg (by simp [hseq])]

theorem hostCommand_checkFails {st : Status} {v : Hub} (hseq : seqOk q (h.mailbox q.mbx) = true)
    (hcheck : ∀ body, checked c q body (consume q h) = fail st v) (body : Req → CmdRef → Hub → Reply × Hub) :
    hostCommand c body q h = answer c q false (.done st [] []) v := by
  rw [hostCommand_entry hfetch hread hmbx htakes, if_pos hseq, hcheck]
  rfl

end

/-- Settles O30: a row's entry comes to its first failing check past the checks before it, which leave the hub as it is but for the mailbox. That the
data's read fails before the life cycle, the quarantine and the bay's state are looked at (log 24) is the model's choice. -/
theorem entriesCheckedInOrder : Obligations.EntriesCheckedInOrder := by
  intro q m i c s hmem hfetch hread hmbx htakes u fails
  have hrow : IsHostRow q i c := hostRows_isHostRow q m (i, c) hmem
  have hu : HostSideOnly s.hub u := (HostSideOnly.refl s.hub).consume q
  refine ⟨fun hseq => hrow.fails (hostCommand_badSeq hfetch hread hmbx htakes hseq) (hu.mbxErr _ _), fun hseq => ?checks⟩
  have fails_of : ∀ {st v}, (∀ body, checked c q body u = fail st v) → HostSideOnly s.hub v → fails false st v :=
    fun hcheck hv => hrow.fails (hostCommand_checkFails hfetch hread hmbx htakes hseq hcheck) hv
  refine ⟨fun hflags => fails_of (fun _ => checked_badFlags hflags) hu, fun hflags =>
    ⟨fun hop => fails_of (fun _ => checked_badOpcode hflags hop) hu, fun hknown hserved =>
    ⟨fun hport => fails_of (fun _ => checked_notAllowed hflags hknown hserved hport) hu, fun hport =>
    ⟨fun hlen => fails_of (fun _ => checked_badLength hflags hknown hserved hport hlen) hu, fun hlen =>
    ⟨fun st htarget => fails_of (fun _ => checked_badTarget hflags hknown hserved hport hlen htarget) hu, fun htarget => ⟨?data, ?state⟩⟩⟩⟩⟩⟩
  case data => exact fun hdata => fails_of (fun _ => checked_badData hflags hknown hserved hport hlen htarget hdata) (hu.mbxErr _ _)
  case state =>
    exact fun hdata hunsigned st hstate => fails_of (fun _ => checked_badState hflags hknown hserved hport hlen htarget hdata hunsigned hstate) hu

end Sys2Proof.Machine
end

section
/-! PROOFS. The timer unit: writes, events, the overflow flag and the compare flag (R498, R701 to R712). -/

namespace Sys2Proof.Machine

/-! ### Writes (R498, R701, R704, R711, R712) -/

theorem fromPort_linkUp {p : Port} {f : Hub → Hub} {h : Hub} (hlink : (h.port p).linkUp = true) : fromPort p f h = f h := if_pos hlink

section
variable {p : Port} {f : Tmu → Tmu} {h : Hub}

theorem tmuWrite_active (hactive : h.host.active = some p) : tmuWrite p f h = timerCheck { h with tmu := f h.tmu } :=
  if_pos (decide_eq_true hactive)

theorem tmuWrite_refused (hother : h.host.active ≠ some p) :
    tmuWrite p f h = raiseCause p 1 (h.setPort p (fun x => { x with writeRefused := true })) :=
  if_neg (by simpa [Hub.isActive] using hother)

end

/-- A row that writes a timer from a port whose link is up. -/
theorem onHub_tmuWrite {p : Port} {n : Nat} {f : Tmu → Tmu} {s : State} {g : Hub} (hn : n < 16) (hlink : (s.hub.port p).linkUp = true)
    (hwrite : tmuWrite p f s.hub = g) : onHub (fun h => atUnit 16 n h (fromPort p (tmuWrite p f))) s = .next (s.to g) :=
  onHub_next ((atUnit_next hn).trans (congrArg _ ((fromPort_linkUp hlink).trans hwrite)))

/-- Settles O25: each row is a write of its register by the port, which only the active port makes. -/
theorem timerWrites : Obligations.TimerWrites := by
  intro p n v s hn hlink h put t
  refine ⟨fun hactive => ?active, fun hother i hi => ?other⟩
  case active => refine ⟨?ctrl, ?cnt, ?cmp, ?link⟩ <;> exact onHub_tmuWrite hn hlink (tmuWrite_active hactive)
  case other =>
    simp only [List.mem_cons, List.not_mem_nil, or_false] at hi
    rcases hi with rfl | rfl | rfl | rfl <;> exact onHub_tmuWrite hn hlink (tmuWrite_refused hother)

/-! ### The cycle of an event (R703, R706 to R710, R712) -/

section
variable {u : Tmu} {n : Nat} {cap : Option Bool}

/-- Whether the timer takes a RESET event in this cycle (R712). -/
def Tmu.resetAt (u : Tmu) (n : Nat) : Bool := (u.timer n).modeAt n == 1 && u.eventAt n

/-- Whether the count of the timer moves up by a tick or a CLOCK event in this cycle (R701, R712). -/
def Tmu.upAt (u : Tmu) (n : Nat) : Bool :=
  let t := u.timer n
  (t.run && t.modeAt n != 2 && (if t.modeAt n = 3 then u.gateAt n else true) && decide (t.pre + 1 ≥ 2 ^ t.prescale) && !u.resetAt n) ||
    (t.run && t.modeAt n == 2 && u.eventAt n)

theorem resetAt_eq_true : u.resetAt n = true ↔ (u.timer n).modeAt n = 1 ∧ u.eventAt n = true := by
  simp [Tmu.resetAt]

theorem upAt_of_reset (hreset : u.resetAt n = true) : u.upAt n = false := by
  have hmode : (u.timer n).modeAt n = 1 := (resetAt_eq_true.mp hreset).1
  simp [Tmu.upAt, hreset, hmode]

theorem cycleAt_cnt : (u.cycleAt n cap).cnt = if u.resetAt n then 0 else if u.upAt n then (u.timer n).cnt + 1 else (u.timer n).cnt := rfl

theorem cycleAt_cmp : (u.cycleAt n cap).cmp = (u.timer n).cmp := rfl

theorem cycleAt_ev_cmp :
    bit (u.cycleAt n cap).ev 0 = ((u.upAt n || (u.resetAt n && (u.timer n).cnt != 0)) && (u.cycleAt n cap).cnt == (u.timer n).cmp) :=
  flags_bit_zero _ _

theorem cycleAt_ev_ovf : bit (u.cycleAt n cap).ev 1 = (u.upAt n && (u.timer n).cnt == 0xFFFFFFFF) :=
  (flags_bit_succ _ _ 0).trans (flags_bit_zero _ _)

theorem cycleAt_ev_rise : bit (u.cycleAt n cap).ev 2 = ((u.timer n).capEn && cap == some true && !(u.timer n).level) :=
  (flags_bit_succ _ _ 1).trans ((flags_bit_succ _ _ 0).trans (flags_bit_zero _ _))

/-- An event sets its flag; the compare, overflow, rise and fall flags are set by nothing else. -/
theorem cycleAt_flag {k : Nat} (hk : k < 4) : bit (u.cycleAt n cap).flags k = (bit (u.timer n).flags k || bit (u.cycleAt n cap).ev k) := by
  have hover : ∀ a b : Bool, bit (flags [false, false, false, false, a, b]) k = false := by
    interval_cases k <;> simp [flags_bit_succ, flags_bit_zero]
  have hflags : ∀ a b, (u.cycleAt n cap).flags = (u.timer n).flags ||| (u.cycleAt n cap).ev ||| flags [false, false, false, false, a, b] →
      bit (u.cycleAt n cap).flags k = (bit (u.timer n).flags k || bit (u.cycleAt n cap).ev k) := by
    intro a b h
    rw [h, bit_or, bit_or, hover, Bool.or_false]
  exact hflags _ _ rfl

/-- R706: the flag is set exactly by the passage from 0xFFFF_FFFF to 0 that no RESET event makes. -/
theorem cycleAt_ev_ovf_iff :
    bit (u.cycleAt n cap).ev 1 = true ↔ (u.timer n).cnt = 0xFFFFFFFF ∧ (u.cycleAt n cap).cnt = 0 ∧ u.resetAt n = false := by
  rw [cycleAt_ev_ovf, cycleAt_cnt, Bool.and_eq_true, beq_iff_eq]
  constructor
  · rintro ⟨hup, hmax⟩
    cases hreset : u.resetAt n with
    | true => simp [upAt_of_reset hreset] at hup
    | false => simp [hup, hmax]
  · rintro ⟨hmax, hzero, hreset⟩
    refine ⟨?_, hmax⟩
    by_contra hup
    simp [hreset, hup, hmax] at hzero

end

theorem timer_writeCnt {u : Tmu} {n : Nat} (v : W32) (hn : n < u.timers.length) :
    (u.writeCnt n v).timer n = { u.timer n with cnt := v, pre := 0 } :=
  nth_modNth_same _ _ _ _ hn

/-- Settles O27: the flag of a cycle is the flag before or the cycle's overflow event, and a write of the count leaves the flags. -/
theorem overflowSetsItsFlag : Obligations.OverflowSetsItsFlag := by
  intro u n cap t w reset
  have hreset : ¬ reset ↔ u.resetAt n = false := (not_congr resetAt_eq_true).symm.trans Bool.eq_false_iff.symm
  have hovf : bit w.ev 1 = true ↔ t.cnt = 0xFFFFFFFF ∧ w.cnt = 0 ∧ ¬ reset := by rw [cycleAt_ev_ovf_iff, hreset]
  have hflag : ∀ {k}, k < 4 → (bit w.flags k = true ↔ bit t.flags k = true ∨ bit w.ev k = true) :=
    fun hk => by rw [cycleAt_flag hk, Bool.or_eq_true]
  refine ⟨(hflag (by decide)).trans (or_congr_right hovf), fun hmax hzero hnot hcmp => ?zero, fun v hn => ?write⟩
  case zero =>
    have hev : bit w.ev 1 = true := hovf.mpr ⟨hmax, hzero, hnot⟩
    have hup : u.upAt n = true := (Bool.and_eq_true_iff.mp (cycleAt_ev_ovf.symm.trans hev)).1
    have hmatch : bit w.ev 0 = true := by
      rw [cycleAt_ev_cmp, hup, Bool.true_or, Bool.true_and, beq_iff_eq]
      exact hzero.trans hcmp.symm
    exact ⟨(hflag (by decide)).mpr (.inr hmatch), (hflag (by decide)).mpr (.inr hev)⟩
  case write => rw [timer_writeCnt v hn]; exact ⟨rfl, rfl⟩

/-! ### The rows of the events -/

section
variable {h : Hub} {n : Nat} (hn : n < 16) (hphase : h.boot.phase ≠ .held) (hon : h.aon.inS4 = false)
include hn hphase hon

/-- A timer after a cycle of the hub in service. -/
theorem clockCycle_timer (c : Option (Nat × Nat × Bool)) : (clockCycle c h).tmu.timer n = h.tmu.cycleAt n (h.tmu.capAt c n) := by
  rw [clockCycle_tmu c h hphase hon, cycle_timer _ _ _ hn]

/-- What the next cycle does, where it produces master event `k` at timer `n`. -/
theorem nextEvent_eq (k : Nat) : nextEvent h n k = bit ((clockCycle none h).tmu.timer n).ev k := by
  rw [clockCycle_timer hn hphase hon, nextEvent, cycle_timer _ _ _ hn]

theorem clockCycle_match (hnext : nextEvent h n 0 = true) :
    ((clockCycle none h).tmu.timer n).cnt = ((clockCycle none h).tmu.timer n).cmp ∧ bit ((clockCycle none h).tmu.timer n).flags 0 = true := by
  rw [nextEvent_eq hn hphase hon] at hnext
  rw [clockCycle_timer hn hphase hon] at hnext ⊢
  rw [cycleAt_flag (by decide), hnext, Bool.or_true]
  rw [cycleAt_ev_cmp, Bool.and_eq_true, beq_iff_eq] at hnext
  exact ⟨hnext.2, rfl⟩

theorem clockCycle_overflow (hnext : nextEvent h n 1 = true) :
    ((clockCycle none h).tmu.timer n).cnt = 0 ∧ bit ((clockCycle none h).tmu.timer n).flags 1 = true := by
  rw [nextEvent_eq hn hphase hon] at hnext
  rw [clockCycle_timer hn hphase hon] at hnext ⊢
  rw [cycleAt_flag (by decide), hnext, Bool.or_true]
  exact ⟨(cycleAt_ev_ovf_iff.mp hnext).2.1, rfl⟩

/-- The cycle in which the filtered level of the timer's input rises. -/
theorem clockCycle_rise (hlow : (h.tmu.timer n).level = false) (hcap : (h.tmu.timer n).capEn = true) :
    let t := (clockCycle (some ((h.tmu.timer n).capPin, (h.tmu.timer n).filter, true)) h).tmu.timer n
    t.capRise = (h.tmu.timer n).cnt ∧ t.level = true ∧ bit t.flags 2 = true := by
  rw [clockCycle_timer hn hphase hon]
  have hpin : h.tmu.capAt (some ((h.tmu.timer n).capPin, (h.tmu.timer n).filter, true)) n = some true := if_pos ⟨rfl, rfl⟩
  rw [hpin]
  have hrise : ((h.tmu.timer n).capEn && (some true == some true) && !(h.tmu.timer n).level) = true := by rw [hcap, hlow]; rfl
  refine ⟨if_pos hrise, rfl, ?flag⟩
  case flag => rw [cycleAt_flag (by decide), cycleAt_ev_rise, hrise, Bool.or_true]

end

/-- The row of a rising edge: the input's level has changed before the cycle that takes it in (R710). -/
theorem exec_tmuCaptureEdge_rise {n : Nat} {s : State} (hn : n < 16) (hlow : (s.hub.tmu.timer n).level = false) :
    exec (.tmuCaptureEdge n true) s = .next (s.to (
      clockCycle (some ((s.hub.tmu.timer n).capPin, (s.hub.tmu.timer n).filter, true))
        { s.hub with tmu := { s.hub.tmu with tcap := s.hub.tmu.tcap ||| 2 ^ (s.hub.tmu.timer n).capPin } })) := by
  change execTmuCaptureEdge n true s = _
  refine onHub_next ((atUnit_next hn).trans (congrArg _ (if_neg ?_)))
  simp [hlow]

/-- Settles O26: each row whose event is due is one cycle of the hub, whose timer shows the event. -/
theorem timerEvents : Obligations.TimerEvents := by
  intro n s hn hphase hon h
  have hrow : ∀ {c : Bool}, c = true → onHub (fun h => atUnit 16 n h (when_ c (clockCycle none))) s = .next (s.to (clockCycle none h)) :=
    fun hc => onHub_next ((atUnit_next hn).trans (congrArg _ (if_pos hc)))
  refine ⟨fun hnext => ?cmp, fun hnext => ?ovf, fun hlow hcap => ?rise, fun hev => ?link⟩
  case cmp => exact ⟨_, hrow hnext, rfl, rfl, clockCycle_match hn hphase hon hnext⟩
  case ovf => exact ⟨_, hrow hnext, rfl, rfl, clockCycle_overflow hn hphase hon hnext⟩
  case rise => exact ⟨_, exec_tmuCaptureEdge_rise hn hlow, rfl, clockCycle_rise (h := { h with tmu := _ }) hn hphase hon hlow hcap⟩
  case link => exact hrow hev

/-! ### The compare flag (R703, R704) -/

/-- Ticks until the count of a timer next enters its compare value; a count that stands on it goes all the way round (R704). -/
def Timer.ticksToMatch (t : Timer) : Nat := if t.cmp = t.cnt then 2 ^ 32 else (t.cmp - t.cnt).toNat

theorem ticksToMatch_pos (t : Timer) : 0 < t.ticksToMatch := by
  unfold Timer.ticksToMatch
  split
  · decide
  · next hne => bv_omega

/-- The next tick enters the compare value, or the match is one tick nearer after it. -/
theorem ticksToMatch_tick {t t' : Timer} (hcnt : t'.cnt = t.cnt + 1) (hcmp : t'.cmp = t.cmp) :
    (t'.cnt = t.cmp ↔ t.ticksToMatch = 1) ∧ (t'.cnt ≠ t.cmp → t'.ticksToMatch + 1 = t.ticksToMatch) := by
  unfold Timer.ticksToMatch
  rw [hcnt, hcmp]
  constructor
  · split <;> bv_omega
  · intro hne
    rw [if_neg (Ne.symm hne)]
    split <;> bv_omega

/-- Settles O28: until the flag stands, the ticks counted and the ticks to the match add up to k, whatever each cycle does; the flag, once set, stays. -/
theorem compareFiresAfterExactlyKTicks : Obligations.CompareFiresAfterExactlyKTicks := by
  intro w c ticks n hn hcycle hreset hclear hzero hticks t k
  suffices hinv : ∀ j, bit ((w j).timer n).flags 0 = decide (k ≤ ticks j) ∧ (ticks j < k → ((w j).timer n).ticksToMatch + ticks j = k) from
    fun j => (hinv j).1
  intro j
  induction j with
  | zero =>
    have hk : 0 < k := ticksToMatch_pos t
    exact ⟨by rw [hclear, hzero]; exact (decide_eq_false (Nat.not_le.mpr hk)).symm, fun _ => by rw [hzero]; rfl⟩
  | succ j ih =>
    obtain ⟨hflag, hleft⟩ := ih
    have hkeep : ¬(((w j).timer n).modeAt n = 1 ∧ (w j).eventAt n = true) := fun ⟨hmode, hev⟩ => by simp [hreset j hmode] at hev
    have htimer : (w (j + 1)).timer n = (w j).cycleAt n ((w j).capAt (c j) n) := by rw [hcycle j, cycle_timer _ _ _ hn]
    obtain ⟨_, hcmp, _, up, hcnt, hset⟩ := cycleAt_count (w j) n ((w j).capAt (c j) n) hkeep
    have hcount := hticks j
    rw [← htimer] at hcmp hcnt hset
    cases up with
    | false =>
      rw [hcount, if_pos (by simpa using hcnt), Nat.add_zero, hset, hflag, Bool.false_and, Bool.or_false]
      refine ⟨rfl, fun hlt => ?_⟩
      rw [← hleft hlt, Timer.ticksToMatch, Timer.ticksToMatch, hcmp, hcnt]
      rfl
    | true =>
      replace hcnt : ((w (j + 1)).timer n).cnt = ((w j).timer n).cnt + 1 := hcnt
      obtain ⟨hhit, hnear⟩ := ticksToMatch_tick hcnt hcmp
      rw [hcount, if_neg (by rw [hcnt]; bv_omega), hset, hflag, Bool.true_and]
      by_cases hdone : k ≤ ticks j
      · simp [hdone, Nat.le_succ_of_le hdone, Nat.not_lt.mpr (Nat.le_succ_of_le hdone)]
      · have hsum := hleft (Nat.not_le.mp hdone)
        by_cases hmatch : ((w (j + 1)).timer n).cnt = ((w j).timer n).cmp
        · have hone := hhit.mp hmatch
          simp [hmatch, show k = ticks j + 1 by omega]
        · have hnext := hnear hmatch
          have hpos := ticksToMatch_pos ((w (j + 1)).timer n)
          simp only [beq_eq_false_iff_ne.mpr hmatch, hdone, decide_false, Bool.or_false]
          exact ⟨(decide_eq_false (by omega)).symm, fun _ => by omega⟩

/-! ### The idle hub -/

/-- Over idle steps in service the timer unit takes its cycles. -/
theorem run_idle {h : Hub} (hphase : h.boot.phase ≠ .held) (hon : h.aon.inS4 = false) (j : Nat) :
    ∃ g, core.run j { hub := h, pending := [] : State } = .next { hub := g, pending := [] : State } ∧ g.tmu = (Tmu.cycle none)^[j] h.tmu := by
  induction j generalizing h with
  | zero => exact ⟨h, rfl, rfl⟩
  | succ j ih =>
    obtain ⟨hboot, hS4⟩ := clockCycle_keeps none h
    obtain ⟨g, hrun, htmu⟩ := ih (h := idle h) (by rwa [idle, hboot]) (by rwa [idle, hS4])
    exact ⟨g, hrun, by rw [htmu, Function.iterate_succ_apply, idle, clockCycle_tmu none h hphase hon]⟩

section
variable {u : Tmu} {n : Nat} {cap : Option Bool} (hrun : (u.timer n).run = true) (hmode : (u.timer n).modeAt n = 0)
include hrun hmode

/-- A running timer in MODE OFF ticks with every 2^PRESCALE-th cycle (R701). -/
theorem cycleAt_running :
    (u.cycleAt n cap).cnt = (if 2 ^ (u.timer n).prescale ≤ (u.timer n).pre + 1 then (u.timer n).cnt + 1 else (u.timer n).cnt) ∧
      (u.cycleAt n cap).pre = (if 2 ^ (u.timer n).prescale ≤ (u.timer n).pre + 1 then 0 else (u.timer n).pre + 1) := by
  simp [Tmu.cycleAt, hrun, hmode]

end

/-- The cycles of the unit while nothing changes at its inputs. -/
def Tmu.after (u : Tmu) (j : Nat) : Tmu := (Tmu.cycle none)^[j] u

theorem after_succ (u : Tmu) (j : Nat) : u.after (j + 1) = (u.after j).cycle none := Function.iterate_succ_apply' _ _ _

/-- Counting one on from `x`, in groups of `m`. -/
theorem succ_div_mod {m : Nat} (hm : 0 < m) (x : Nat) :
    (x + 1) / m = x / m + (if m ≤ x % m + 1 then 1 else 0) ∧ (x + 1) % m = if m ≤ x % m + 1 then 0 else x % m + 1 := by
  have hlt := Nat.mod_lt x hm
  have hx := Nat.mod_add_div x m
  rw [Nat.div_mod_unique hm]
  split <;> constructor <;> grind

section
variable {u : Tmu} {n : Nat} (hn : n < 16) (hrun : (u.timer n).run = true) (hmode : (u.timer n).modeAt n = 0)
  (hpre : (u.timer n).pre < 2 ^ (u.timer n).prescale)
include hn hrun hmode hpre

/-- A running timer in MODE OFF goes on running so, and after `j` cycles its prescaler has counted them. -/
theorem after_timer (j : Nat) :
    ((u.after j).timer n).run = true ∧ ((u.after j).timer n).modeAt n = 0 ∧ ((u.after j).timer n).prescale = (u.timer n).prescale ∧
      ((u.after j).timer n).pre = (j + (u.timer n).pre) % 2 ^ (u.timer n).prescale := by
  induction j with
  | zero => exact ⟨hrun, hmode, rfl, by rw [Nat.zero_add, Nat.mod_eq_of_lt hpre]; rfl⟩
  | succ j ih =>
    obtain ⟨hrun', hmode', hscale, hcount⟩ := ih
    rw [after_succ, cycle_timer _ _ _ hn]
    refine ⟨hrun', (modeAt_congr n _ _ rfl).trans hmode', hscale, ?_⟩
    rw [(cycleAt_running hrun' hmode').2, hscale, hcount, Nat.add_right_comm, (succ_div_mod (Nat.two_pow_pos _) _).2]

/-- Its count moves in the cycle that ends each 2^PRESCALE of its prescaler, and in no other. -/
theorem after_cnt_moves (j : Nat) :
    (j + 1 + (u.timer n).pre) / 2 ^ (u.timer n).prescale =
      (j + (u.timer n).pre) / 2 ^ (u.timer n).prescale + if ((u.after (j + 1)).timer n).cnt = ((u.after j).timer n).cnt then 0 else 1 := by
  obtain ⟨hrun', hmode', hscale, hcount⟩ := after_timer hn hrun hmode hpre j
  rw [after_succ, cycle_timer _ _ _ hn, (cycleAt_running hrun' hmode').1, hscale, hcount, Nat.add_right_comm,
    (succ_div_mod (Nat.two_pow_pos _) _).1]
  split
  · rw [if_neg (by bv_omega)]
  · rw [if_pos rfl]

end

/-- Settles O29: the ticks of a running timer in MODE OFF are its cycles by 2^PRESCALE, so its flag stands where R704 puts it. That an idle step is one
cycle of CBCLK (log 1) is the model's choice. -/
theorem timerFiresWhileTheHubIdles : Obligations.TimerFiresWhileTheHubIdles := by
  rintro ⟨h, _⟩ n j hn rfl hphase hon t hrun hmode hpre hclear k
  obtain ⟨g, hgo, htmu⟩ := run_idle hphase hon j
  refine ⟨_, hgo, ?_⟩
  have hnoReset : ∀ j, ((h.tmu.after j).timer n).modeAt n = 1 → (h.tmu.after j).eventAt n = false := fun j hone => by
    obtain ⟨_, hzero, _⟩ := after_timer hn hrun hmode hpre j
    simp [hzero] at hone
  have hflag := compareFiresAfterExactlyKTicks h.tmu.after (fun _ => none) (fun j => (j + t.pre) / 2 ^ t.prescale) n hn (after_succ h.tmu) hnoReset hclear
    (Nat.div_eq_of_lt (by rwa [Nat.zero_add])) (after_cnt_moves hn hrun hmode hpre) j
  change bit (g.tmu.timer n).flags 0 = _
  rw [htmu]
  exact hflag.trans (decide_eq_decide.mpr (Nat.le_div_iff_mul_le (Nat.two_pow_pos _)))

end Sys2Proof.Machine
end

section
/-! PROOFS. Steps of the hub, its queue and the commands that complete; one cycle of an idle hub; sparse tables; and the state after reset. -/

namespace Sys2Proof.Machine

/-! ### Every well-formed command completes (log entries 3 and 4) -/

section
variable {c : Instr} {s : State}

/-- A row that names one of `n` like units, where there is a unit of that number. -/
theorem completes_unit {n i : Nat} {f : Hub → Hub} (he : exec c s = onHub (fun h => atUnit n i h f) s) (hunit : decide (i < n) = true) :
    ∃ t, exec c s = .next t ∧ t.pending = s.pending :=
  ⟨_, he.trans (onHub_next (atUnit_next (of_decide_eq_true hunit))), rfl⟩

theorem completes_bay {b : Nat} {f : Hub → Hub} (he : exec c s = onHub (fun h => atBay b h f) s) (hbay : decide (b < 128) = true) :
    ∃ t, exec c s = .next t ∧ t.pending = s.pending :=
  ⟨_, he.trans (onHub_next_bay (of_decide_eq_true hbay) rfl), rfl⟩

theorem completes_region {r : Nat} {f : Hub → Hub} (he : exec c s = onHub (fun h => atRegion r h f) s) (hregion : decide (r < 8) = true) :
    ∃ t, exec c s = .next t ∧ t.pending = s.pending :=
  ⟨_, he.trans (onHub_next_region (of_decide_eq_true hregion) rfl), rfl⟩

/-- A row that names an engine, whose further operand is in range. -/
theorem completes_engine {p : Prop} [Decidable p] {r e : Nat} {f : Hub → Hub}
    (he : exec c s = onHub (fun h => if p then atEngine r e h f else .fault .noSuchUnit) s) (hp : p) (hr : r < 8) (hi : e < 8) :
    ∃ t, exec c s = .next t ∧ t.pending = s.pending :=
  ⟨_, he.trans (onHub_next ((if_pos hp).trans (if_pos ⟨hr, hi⟩))), rfl⟩

theorem completes_apdu {b : Nat} {p : List Byte}
    (hc : c ∈ [Instr.tagSelectByName b p, .tagSelectByFile b p, .readBinary b p, .updateBinary b p, .verify b p, .getChallenge b p,
      .externalAuthenticate b p]) (hbay : decide (b < 128) = true) : ∃ t, exec c s = .next t ∧ t.pending = s.pending := by
  obtain ⟨_, _, _, hrow⟩ := isApduRow_of_mem hc
  exact ⟨_, (hrow s).trans (onHub_next (atBay_next (of_decide_eq_true hbay))), rfl⟩

/-- Codewords complete whatever their symbols. -/
theorem completes_codewords {x : Rx} {l : List Codeword} (he : exec c s = onHub (feedCodewords x l) s) (hx : x.ok = true) :
    ∃ t, exec c s = .next t ∧ t.pending = s.pending := by
  cases x with
  | head b => exact ⟨_, he.trans (onHub_next_bay (of_decide_eq_true hx) rfl), rfl⟩
  | casc side lane => exact ⟨_, he.trans (onHub_next (atUnit_next (of_decide_eq_true hx))), rfl⟩

end

theorem exec_completes (c : Instr) (s : State) (hw : c.wf = true) : ∃ t, exec c s = .next t ∧ t.pending = s.pending := by
  cases c
  case eqReq x m | eqStatus x m =>
    cases x with
    | head b => exact completes_bay rfl hw
    | casc side lane => exact completes_unit rfl hw
  case codewordLock x l | codewordLockLost x l => exact completes_codewords rfl (Bool.and_eq_true_iff.mp hw).1
  case jtagInstruction i =>
    cases i
    case holdRegion | releaseRegion => exact completes_region rfl hw
    all_goals exact ⟨_, rfl, rfl⟩
  case cellFailure r e c =>
    simp only [Instr.wf, Bool.and_eq_true, decide_eq_true_eq] at hw
    obtain ⟨⟨hr, he⟩, hc⟩ := hw
    exact completes_engine rfl hc hr he
  case groupSelfTest r e g bad =>
    simp only [Instr.wf, Bool.and_eq_true, decide_eq_true_eq] at hw
    obtain ⟨⟨hg, hr⟩, he⟩ := hw
    exact completes_engine rfl hg hr he
  case engineLost r e =>
    simp only [Instr.wf, Bool.and_eq_true, decide_eq_true_eq] at hw
    change ∃ t, execEngineLost r e s = .next t ∧ t.pending = s.pending
    exact ⟨_, onHub_next (if_pos hw), rfl⟩
  case chipFault cause =>
    simp only [Instr.wf, Bool.and_eq_true, decide_eq_true_eq] at hw
    change ∃ t, execChipFault cause s = .next t ∧ t.pending = s.pending
    exact ⟨_, onHub_next ((if_neg hw.1).trans (atUnit_next hw.2)), rfl⟩
  case tempSensorSample t =>
    have hlen : t.length = 12 := of_decide_eq_true hw
    change ∃ t', execTempSensorSample t s = .next t' ∧ t'.pending = s.pending
    by_cases hheld : s.hub.boot.phase = .held
    · exact ⟨_, onHub_next ((if_neg (not_not_intro hlen)).trans (if_pos hheld)), rfl⟩
    · exact ⟨_, onHub_next ((if_neg (not_not_intro hlen)).trans (if_neg hheld)), rfl⟩
  case tagSelectByName b p | tagSelectByFile b p | readBinary b p | updateBinary b p | verify b p | getChallenge b p | externalAuthenticate b p =>
    exact completes_apdu (b := b) (p := p) (by simp) hw
  case signalDetected | ident | limitsAck | trainingComplete | trainingTimeout | upstreamSlateReceived | upstreamSlateTimeout | cueEchoTimeout |
      creditTimeout | downstreamSlateLaunch | markerLaunch | drowseRequest | drowseBlock | drowseMarkerSend | wake | drowseTimeout | linkdown |
      faultRecoveryTimeout | safetyDispatch | burstLaunchDeadline | calibrationRun | collectionWindowClose | response | report | reportWindowClose |
      rapidStart | rapidRoundVerdict | continuityTakeDue | lostTimeout | contestedTimeout | engageLimitExpiry | watchHoldExpiry | darkEntry |
      externalFieldLost | tagListenGap | tagReqa | tagAnticollisionSelect | tagDeselect | tagOwnershipEnd | tagWireWriteTimeout | auth2 |
      authAck | authReplyWindowClose |
      releaseBoundary | releaseFrameLate | safetyCutSend | bpcSilent | meterBTimeout | meterReqTimeout | meterTimeout | holdTimeExpiry | sealRetry |
      relRangeRetry | tpllCoastBoundary | trainingRetry | frameWaitingTimeExpiry | busFrameComplete =>
    exact completes_bay rfl hw
  case headWakeLow | wakeLineMask | wakeLineUnmask | planFreeze | coexReqRaise | coexGrantSample | coexReqFall | queueStoreEcc |
      listenReceptionEnd | bpcStatus | bpcUrgent | meterA | meterB | busOff | busOffPersist | foreignFrame | regionWatchdogExpiry | autoRestart |
      proxyLimit | drainTimeout | drainComplete | sequencerReady | restartLimitExpiry | s1Entry | s1Exit | s2Entry | s2Abort | s2Exit |
      busOffRecovery | cryptoLaneFailure | sequencerMemoryError =>
    exact completes_region rfl hw
  case tmuCtrlWrite | tmuCntWrite | tmuCmpWrite | tmuLinkWrite | tmuCompareMatch | tmuOverflow | tmuCaptureEdge | tmuLinkEvent | wakeSourceServed |
      tamperActive | rngSourceSetOut | rngSourceReturn | rngStartupDone | rtcAlarm | chello | retiringCommitRetry | credStoreEcc =>
    exact completes_unit rfl hw
  -- a row that names no unit answers a next state by its definition
  all_goals exact ⟨_, rfl, rfl⟩

/-- Refutes O56: a codeword at a head port whose symbols are not 544 is ill-formed by its length, names a head port that exists, and completes. -/
theorem not_commandsCompleteOrNameNoUnit : ¬ Obligations.CommandsCompleteOrNameNoUnit := by
  intro ⟨_, hstops⟩
  let c : Instr := .codewordLock (.head 0) [{ syms := [] }]
  have hfault : exec c .reset = .fault .noSuchUnit := hstops c .reset rfl
  have hnext : ∃ t, exec c .reset = .next t ∧ t.pending = [] := completes_codewords (x := .head 0) rfl rfl
  obtain ⟨t, hnext, _⟩ := hnext
  cases hnext.symm.trans hfault

/-! ### Steps and runs -/

/-- Settles O54: by the definition of a step. That the effects of what the chip does at once come in the order of the queue (log 6) is the model's
choice. -/
theorem stepRunsTheFrontCommand : Obligations.StepRunsTheFrontCommand := fun _ _ _ => rfl

theorem step_idle (h : Hub) : step { hub := h, pending := [] } = .next { hub := idle h, pending := [] } := rfl

theorem queueOk_cons {c : Instr} {l : List Instr} {h : Hub} : State.queueOk { hub := h, pending := c :: l } ↔ c.wf = true ∧ l.all Instr.wf = true := by
  simp only [State.queueOk, List.all_cons, Bool.and_eq_true]

/-- A step from a well-formed queue takes its front command, or idles. -/
theorem step_queueOk {s : State} (hq : s.queueOk) : ∃ t, step s = .next t ∧ t.queueOk ∧ t.pending = s.pending.drop 1 := by
  obtain ⟨h, l⟩ := s
  cases l with
  | nil => exact ⟨_, step_idle h, rfl, rfl⟩
  | cons c l =>
    obtain ⟨hc, hl⟩ := queueOk_cons.mp hq
    obtain ⟨t, hexec, hrest⟩ := exec_completes c { hub := h, pending := l } hc
    exact ⟨t, (stepRunsTheFrontCommand c l h).trans hexec, by rwa [State.queueOk, hrest], hrest⟩

/-- Settles O57. That no well-formed command stops the hub, and that an empty queue is no stop, are the model's choices (log 1, 3 and 4). -/
theorem stepKeepsTheQueueWellFormed : Obligations.StepKeepsTheQueueWellFormed := by
  intro s hq
  obtain ⟨t, hstep, hkeep⟩ := step_queueOk hq
  refine ⟨⟨t, hstep⟩, fun u hu => ?_⟩
  cases hstep.symm.trans hu
  exact hkeep

theorem run_succ {s t : State} (hstep : step s = .next t) (k : Nat) : core.run (k + 1) s = core.run k t := by
  have hcore : core.step s = .next t := hstep
  simp only [Host.Core.run, hcore]

/-- Settles O58, by induction on the number of steps; on the model's choices of O57. -/
theorem runsOfWellFormedCommands : Obligations.RunsOfWellFormedCommands := by
  intro k
  induction k with
  | zero => exact fun s hq => ⟨s, rfl, hq, rfl⟩
  | succ k ih =>
    intro s hq
    obtain ⟨t, hstep, ht, hdrop⟩ := step_queueOk hq
    obtain ⟨v, hrun, hv, hend⟩ := ih t ht
    exact ⟨v, (run_succ hstep k).trans hrun, hv, by rw [hend, hdrop, List.drop_drop, Nat.add_comm]⟩

/-! ### One cycle of an idle hub (log entry 1) -/

/-- `b` differs from `a` at most in the free values drawn. -/
def DrawsOnly (a b : Hub) : Prop := b = { a with draws := b.draws }

theorem DrawsOnly.trans {a b c : Hub} (hab : DrawsOnly a b) (hbc : DrawsOnly b c) : DrawsOnly a c := by
  unfold DrawsOnly at *
  rw [hbc, hab]

theorem cycleLength_draws (h : Hub) : DrawsOnly h (cycleLength h).2 := by
  unfold cycleLength
  split
  · rfl
  · split <;> rfl

theorem clapAdvance_draws (a : Nat) (h : Hub) : DrawsOnly h (clapAdvance a h).2 := by
  unfold clapAdvance
  split
  · rfl
  · split <;> rfl

theorem rtcAdvance_draws (a : Nat) (h : Hub) : DrawsOnly h (rtcAdvance a h).2 := by
  unfold rtcAdvance
  split <;> rfl

theorem cycleLength_pos (h : Hub) : 0 < (cycleLength h).1 := by
  unfold cycleLength
  split
  · exact Nat.add_pos_left (by decide) _
  · split
    · exact Nat.add_pos_left (by decide) _
    · exact Nat.succ_pos _

/-- The time and what the hub holds at rest: its flash, its non-volatile side and its fuses. -/
def heldAtRest (h : Hub) : Nat × Flash × Nv × Fuse := (h.now, h.flash, h.nv, h.fuse)

theorem timerWake_atRest (was : Bool) (h : Hub) : heldAtRest (timerWake was h) = heldAtRest h := by
  unfold timerWake
  split
  · split <;> rfl
  · rfl

theorem timerCheck_atRest (h : Hub) : heldAtRest (timerCheck h) = heldAtRest h := (congrArg heldAtRest (HostSideOnly.timerCheck h) :)

/-- A cycle moves time on by its length, and changes nothing that is held at rest. -/
theorem clockCycle_atRest (c : Option (Nat × Nat × Bool)) (h : Hub) :
    heldAtRest (clockCycle c h) = (h.now + (cycleLength h).1, h.flash, h.nv, h.fuse) := by
  have hdraws := ((cycleLength_draws h).trans (clapAdvance_draws (cycleLength h).1 _)).trans (rtcAdvance_draws (cycleLength h).1 _)
  unfold DrawsOnly at hdraws
  unfold clockCycle
  dsimp only
  rw [hdraws]
  split
  · rfl
  · rw [timerWake_atRest, timerCheck_atRest]; rfl

/-- Settles O55. That an empty queue passes one cycle (log 1) is the model's choice. -/
theorem idleIsOneCycle : Obligations.IdleIsOneCycle := by
  rintro ⟨h, _⟩ rfl
  have hrest := clockCycle_atRest none h
  simp only [heldAtRest, Prod.mk.injEq] at hrest
  obtain ⟨hnow, hflash, hnv, hfuse⟩ := hrest
  exact ⟨_, step_idle h, rfl, Nat.lt_of_lt_of_eq (Nat.lt_add_of_pos_right (cycleLength_pos h)) hnow.symm, hflash, hnv,
    hfuse, fun hphase hon => congrArg Tmu.time (clockCycle_tmu none h hphase hon)⟩

/-! ### Sparse tables -/

theorem tab_get_put {α : Type} [DecidableEq α] {d : α} {t : Tab α} (hw : t.wf d = true) (k : Nat) (v : α) (j : Nat) :
    Tab.get d (Tab.put d k v t) j = if j = k then v else Tab.get d t j := by
  obtain ⟨hsorted, -⟩ := Bool.and_eq_true_iff.mp hw
  unfold Tab.put
  split
  next hv => rw [Tab.get_erase d k t 0 hsorted, hv]
  next => exact Tab.get_ins d k v t j

theorem tab_get_head {α : Type} (d : α) (k : Nat) (v : α) (t : Tab α) : Tab.get d ((k, v) :: t) k = v := if_pos rfl

/-- The first key of a canonical table reads as what no lower bound above it allows. -/
theorem tab_head_le {α : Type} {d v : α} {k j : Nat} {t u : Tab α} (hne : v ≠ d) (hu : Tab.sortedAbove j u = true)
    (hget : Tab.get d u k = Tab.get d ((k, v) :: t) k) : j ≤ k := by
  by_contra hlt
  rw [Tab.get_below d u j k (Nat.not_le.mp hlt) hu, tab_get_head] at hget
  exact hne hget.symm

/-- Canonical tables that read alike everywhere are equal, by induction on both: their first keys bound each other, so they are the same. -/
theorem tab_ext {α : Type} {d : α} : ∀ {t u : Tab α} {lo : Nat}, Tab.sortedAbove lo t = true → Tab.sortedAbove lo u = true →
    (∀ x ∈ t, x.2 ≠ d) → (∀ x ∈ u, x.2 ≠ d) → (∀ j, Tab.get d u j = Tab.get d t j) → u = t
  | [], [], _, _, _, _, _, _ => rfl
  | [], (k, v) :: u, _, _, _, _, hdu, hget => absurd ((tab_get_head d k v u).symm.trans (hget k)) (hdu _ (List.mem_cons_self ..))
  | (k, v) :: t, [], _, _, _, hdt, _, hget => absurd ((tab_get_head d k v t).symm.trans (hget k).symm) (hdt _ (List.mem_cons_self ..))
  | (k, v) :: t, (j, w) :: u, lo, ht, hu, hdt, hdu, hget => by
    simp only [Tab.sortedAbove, Bool.and_eq_true, decide_eq_true_eq] at ht hu
    obtain ⟨hvd, hdt'⟩ := List.forall_mem_cons.mp hdt
    obtain ⟨hwd, hdu'⟩ := List.forall_mem_cons.mp hdu
    have hjk : j ≤ k := tab_head_le (u := (j, w) :: u) hvd (by simp [Tab.sortedAbove, hu.2]) (hget k)
    have hkj : k ≤ j := tab_head_le (u := (k, v) :: t) hwd (by simp [Tab.sortedAbove, ht.2]) (hget j).symm
    obtain rfl := Nat.le_antisymm hjk hkj
    have hwv : w = v := by simpa only [tab_get_head] using hget j
    have htail : ∀ i, Tab.get d u i = Tab.get d t i := fun i => by
      by_cases hi : i ≤ j
      · rw [Tab.get_below d u _ i (Nat.lt_succ_of_le hi) hu.2, Tab.get_below d t _ i (Nat.lt_succ_of_le hi) ht.2]
      · have hne : j ≠ i := fun h => hi (Nat.le_of_eq h.symm)
        simpa only [Tab.get, if_neg hne] using hget i
    rw [hwv, tab_ext ht.2 hu.2 hdt' hdu' htail]

/-- Settles O59: a write is an erasure or an insertion, and both keep the canonical form. -/
theorem tablesReadBackAndStayCanonical : Obligations.TablesReadBackAndStayCanonical := by
  intro d k v t ht
  have hget := tab_get_put ht k v
  refine ⟨Tab.put_wf d k v t ht, by rw [hget, if_pos rfl], fun j hj => by rw [hget, if_neg hj], fun u hu hsame => ?ext⟩
  case ext =>
    simp only [Tab.wf, Bool.and_eq_true, List.all_eq_true, decide_eq_true_eq] at ht hu
    exact tab_ext ht.1 hu.1 ht.2 hu.2 hsame

/-! ### The state after reset (R10, R746) -/

theorem nth_replicate {α : Type} (d : α) {n i : Nat} (hi : i < n) : nth d (List.replicate n d) i = d := by simp [nth, hi]

theorem reset_region {r : Nat} (hr : r < 8) : State.reset.hub.region r = {} := by
  change nth {} (List.replicate 8 ({} : Region)) r = {}
  exact nth_replicate _ hr

theorem reset_bay {b : Nat} (hb : b < 128) : State.reset.hub.bay b = bayReset .f8 b := by
  change nth {} (baysReset .f8) b = _
  exact nth_map_range {} (bayReset .f8) hb

theorem reset_timer {n : Nat} (hn : n < 16) : State.reset.hub.tmu.timer n = {} := by
  change nth {} (List.replicate 16 ({} : Timer)) n = {}
  exact nth_replicate _ hn

theorem reset_port (p : Port) : State.reset.hub.port p = {} := by cases p <;> rfl

/-- Settles O60: the fields of the hub by their values in State.reset, and every region, bay, timer and port as one of its kind. -/
theorem resetValues : Obligations.ResetValues := by
  refine ⟨⟨rfl, rfl⟩, rfl, rfl, rfl, rfl, rfl, rfl, rfl, rfl, rfl, rfl, rfl, fun n hn => reset_timer hn, rfl, fun p => ?port, rfl, fun r hr => ?region,
    ?bays, fun b hb => ?bay⟩
  case port => rw [reset_port]; exact ⟨rfl, rfl, rfl, rfl, rfl⟩
  case region => rw [reset_region hr]; exact ⟨rfl, rfl, rfl, rfl⟩
  case bays => exact (List.length_map _).trans List.length_range
  case bay => rw [reset_bay hb]; exact ⟨rfl, rfl, rfl, rfl, rfl, rfl, rfl, rfl, rfl, rfl, rfl⟩

end Sys2Proof.Machine
end

section
/-! PROOFS. The host side: HOST_ROLE, mailboxes and notice rings, other registers of the window, port links and the SMBus port (R494 to R507, R522 to
R528, R655, R666, R677, R688, R695 to R697, R731). -/

namespace Sys2Proof.Machine

/-- A row that a port writes or reads while its link is up. -/
theorem onHub_next_port {p : Port} {f : Hub → Hub} {s : State} {g : Hub} (hlink : (s.hub.port p).linkUp = true) (hf : f s.hub = g) :
    onHub (fun h => .next (fromPort p f h)) s = .next (s.to g) :=
  onHub_next_all (f := fromPort p f) ((fromPort_linkUp hlink).trans hf)

/-! ### HOST_ROLE (R495) -/

theorem port_other_ne (p : Port) : Port.other p ≠ p := by cases p <;> decide

section
variable {p : Port} {h : Hub}

theorem claim_free (hfree : h.host.active = none) : claim p h = setActive (some p) h := by
  simp only [claim, hfree]

theorem claim_over (hother : h.host.active = some (Port.other p)) (hgone : (h.port (Port.other p)).linkUp = false ∨ lapsed h = true) :
    claim p h = setActive (some p) h := by
  have hmay : (!(h.port (Port.other p)).linkUp || lapsed h) = true := by simpa using hgone
  simp only [claim, hother, hmay, port_other_ne, if_true, if_false]

theorem heartbeat_active (hactive : h.host.active = some p) :
    heartbeat p h = { h with host := { h.host with heartbeat := h.now, hbLapsed := false } } :=
  if_pos (decide_eq_true hactive)

theorem releaseRole_active (hactive : h.host.active = some p) : releaseRole p h = setActive none h :=
  if_pos (decide_eq_true hactive)

end

/-- Settles O21: each value writes one bit of the register, and its action's condition holds. -/
theorem hostRoles : Obligations.HostRoles := by
  intro p s h
  refine ⟨fun hlink => ⟨fun hfree => ?free, fun hother hgone => ?claimOver, fun hactive => ?heartbeat, fun hactive => ?release⟩,
    fun hsome hlate => ?lapse⟩
  case free => exact onHub_next_port hlink (claim_free hfree)
  case claimOver => exact onHub_next_port hlink (claim_over hother hgone)
  case heartbeat => exact onHub_next_port hlink (heartbeat_active hactive)
  case release => exact onHub_next_port hlink (releaseRole_active hactive)
  case lapse =>
    change execHeartbeatLapse s = _
    exact onHub_next (congrArg _ (if_pos (Bool.and_eq_true_iff.mpr ⟨Option.isSome_iff_ne_none.mpr hsome, hlate⟩)))

/-! ### Mailboxes and notice rings (R502 to R507, R522, R523) -/

theorem setMailbox_setMailbox (h : Hub) (p : Port) (u : Bool) (f g : Mailbox → Mailbox) :
    (h.setMailbox (mbxOf p u) f).setMailbox (mbxOf p u) g = h.setMailbox (mbxOf p u) (fun m => g (f m)) := by
  cases u <;> cases p <;> rfl

theorem setPort_setPort (h : Hub) (p : Port) (f g : HostPort → HostPort) : (h.setPort p f).setPort p g = h.setPort p (fun x => g (f x)) := by
  cases p <;> rfl

section
variable {p : Port} {u : Bool} {h : Hub}

theorem cmdTail_handsOver {v : Nat} (hroom : subMod 512 (v % 512) (h.mailbox (mbxOf p u)).cmdHead ≤ 256)
    (hahead : subMod 512 (h.mailbox (mbxOf p u)).cmdTail (h.mailbox (mbxOf p u)).cmdHead ≤ subMod 512 (v % 512) (h.mailbox (mbxOf p u)).cmdHead) :
    cmdTail p u v h = h.setMailbox (mbxOf p u) (fun m => { m with cmdTail := v % 512 }) :=
  if_neg (not_or.mpr ⟨Nat.not_lt.mpr hroom, Nat.not_lt.mpr hahead⟩)

theorem rspHead_taken {v : Nat} (hbehind : subMod 512 (v % 512) (h.mailbox (mbxOf p u)).rspHead ≤
      subMod 512 (h.mailbox (mbxOf p u)).rspTail (h.mailbox (mbxOf p u)).rspHead) :
    rspHead p u v h =
      let w := h.setMailbox (mbxOf p u) (fun m => { m with rspHead := v % 512 })
      if v % 512 = (h.mailbox (mbxOf p u)).rspTail then w else ringVector p u w :=
  if_neg (Nat.not_lt.mpr hbehind)

theorem mailboxControl_reset {v : W32} (hreset : v.getLsbD 1 = true) (henable : v.getLsbD 0 = false) :
    mailboxControl p u v h = h.setMailbox (mbxOf p u) Mailbox.cleared := by
  simp only [mailboxControl, when_, hreset, henable, if_true, setMailbox_setMailbox]
  rfl

theorem mailboxControl_enable {v : W32} (hreset : v.getLsbD 1 = false) (henable : v.getLsbD 0 = true) :
    mailboxControl p u v h =
      h.setMailbox (mbxOf p u) (fun m => { m with enable := true, seqNext := if m.enable then m.seqNext else none }) := by
  have hseq : ∀ m : Mailbox, (if (true && !m.enable) = true then none else m.seqNext) = if m.enable then m.seqNext else none :=
    fun m => by cases m.enable <;> rfl
  simp only [mailboxControl, when_, hreset, henable, Bool.false_eq_true, if_false, hseq]

theorem ntcHead_taken {v : Nat} (hbehind : subMod 8192 (v % 8192) (h.port p).ntc.head ≤ ntcHeld (h.port p).ntc) :
    ntcHead p v h =
      let w := h.setPort p (fun x => { x with ntc := { x.ntc with head := v % 8192 } })
      if v % 8192 = (h.port p).ntc.tail then w else sendVector p 2 w :=
  if_neg (by simpa [ntcHeadOk] using hbehind)

theorem ntcControl_reset {v : W32} (hreset : v.getLsbD 1 = true) (henable : v.getLsbD 0 = false) :
    ntcControl p v h = h.setPort p (fun x => { x with ntc := { x.ntc with enable := false, head := 0, tail := 0 } }) := by
  simp only [ntcControl, when_, hreset, henable, if_true, setPort_setPort]

theorem ntcControl_enable {v : W32} (hreset : v.getLsbD 1 = false) :
    ntcControl p v h = h.setPort p (fun x => { x with ntc := { x.ntc with enable := v.getLsbD 0 } }) := by
  simp only [ntcControl, when_, hreset, Bool.false_eq_true, if_false]

end

/-- Settles O22: what each register does with a value it takes. -/
theorem mailboxRegisters : Obligations.MailboxRegisters := by
  intro p u v s h m n hlink
  refine ⟨fun hroom hahead => ?cmdTail, fun hbehind => ?rspHead, fun hreset henable => ?reset, fun hreset henable => ?enable, fun hbehind => ?ntcHead,
    fun hreset henable => ?ntcReset, fun hreset => ?ntcEnable⟩
  case cmdTail => exact onHub_next_port hlink (cmdTail_handsOver hroom hahead)
  case rspHead => exact onHub_next_port hlink (rspHead_taken hbehind)
  case reset => exact onHub_next_port hlink (mailboxControl_reset hreset henable)
  case enable => exact onHub_next_port hlink (mailboxControl_enable hreset henable)
  case ntcHead => exact onHub_next_port hlink (ntcHead_taken hbehind)
  case ntcReset => exact onHub_next_port hlink (ntcControl_reset hreset henable)
  case ntcEnable => exact onHub_next_port hlink (ntcControl_enable hreset)

/-! ### Other registers and the links (R494, R497, R655, R666, R677, R695 to R697, R731) -/

theorem tamperCfg_active {p : Port} {v : W32} {h : Hub} (hactive : h.host.active = some p) (hlc : h.lc = factory ∨ h.lc = commissioning) :
    tamperCfg p v h =
      let en := bits v.toNat 11 8
      let lv := bits v.toNat 7 4
      let fresh := (en &&& (15 ^^^ h.aon.tamperEn)) ||| (en &&& (lv ^^^ h.aon.tamperLevel))
      { h with aon := { h.aon with tamperEn := en, tamperLevel := lv, tamperAct := h.aon.tamperAct &&& en &&& (15 ^^^ fresh) } } :=
  if_neg (by simpa [Hub.isActive, hactive, or_iff_not_imp_left] using hlc)

theorem alarmWrite_active {p : Port} {v : W32} {h : Hub} (hactive : h.host.active = some p) :
    alarmWrite p 0x30180 v h =
      { h with aon := { h.aon with alarmFired := w1c h.aon.alarmFired (v.toNat / 16) 3, alarmWakeOut := bits v.toNat 3 2
                                   alarmEn := bits v.toNat 1 0, alarmDue := h.aon.alarmDue &&& bits v.toNat 1 0 } } :=
  if_neg (by simp [Hub.isActive, hactive])

theorem exec_clkMeasDone_due {s : State} {t : Nat} (hruns : clkRuns s.hub = true) (hsince : s.hub.clk.measSince = some t)
    (hdue : s.hub.passed t (ms 1) = true) :
    exec .clkMeasDone s = .next (s.to (setClk (fun c =>
      { c with measSince := none, measValid := true, measValue := (freeVal 29 s.hub).1, measUnitHz := c.measSel == 6 || c.measSel == 7 })
      (freeVal 29 s.hub).2)) := by
  change execClkMeasDone s = _
  apply onHub_next
  rw [hsince]
  exact congrArg _ (if_pos (by rw [hruns, hdue]; rfl))

theorem outWord_unavailable {g : Rng} (p : Port) (hoff : g.available = false) : (g.outWord p).1 = none := by
  simp [Rng.outWord, hoff]

/-- Settles O23. That a measured value is free (log 139) is the model's choice. -/
theorem windowAndLinkRegisters : Obligations.WindowAndLinkRegisters := by
  refine ⟨fun p v s => ⟨fun hlink => ⟨?vote, fun hactive hlc => ?tamper, fun hactive => ?alarm, ?measSel, ?clkEvent, fun off n hn => ?short⟩,
    fun t hruns hsince hdue => exec_clkMeasDone_due hruns hsince hdue⟩,
    fun p s => ⟨fun down => rfl, fun hphase hchip => ?linkUp, fun hlink => ⟨?rngOut, outWord_unavailable p⟩⟩⟩
  case vote => exact onHub_next_port hlink (by cases p <;> rfl)
  case tamper => exact onHub_next_port hlink (tamperCfg_active hactive hlc)
  case alarm => exact onHub_next_port hlink (alarmWrite_active hactive)
  case measSel => exact onHub_next_port hlink rfl
  case clkEvent => exact onHub_next_port hlink rfl
  case short => exact onHub_next_port hlink (by rw [if_pos hn]; rfl)
  case linkUp =>
    change execPcieLinkUp p s = _
    exact onHub_next (congrArg _ (if_neg (not_or.mpr ⟨hphase, not_not_intro hchip⟩)))
  case rngOut => exact onHub_next_port hlink rfl

/-! ### The SMBus port (R526 to R528, R688) -/

section
variable {s : State}

theorem exec_smbCommandWrite_taken {l : List Byte} (hserved : smbServed s.hub = true) (hidle : s.hub.host.smb.busy = false)
    (hread : s.hub.host.smb.rspReady = false) (hmin : 6 ≤ l.length) (hmax : l.length ≤ 32) :
    exec (.smbCommandWrite l) s =
      .next (s.to ((s.hub.setSmb (fun m => { m with lastUse := s.hub.now })).setSmb (fun m => { m with busy := true, held := some (smbReq l) }))) := by
  change execSmbCommandWrite l s = _
  refine onHub_next (congrArg _ ((if_neg (by simp [hserved])).trans (if_neg ?_)))
  simp [hidle, hread, hmin, hmax]

theorem exec_smbResponseRead_ready (hserved : smbServed s.hub = true) (hready : s.hub.host.smb.rspReady = true) :
    exec .smbResponseRead s =
      .next (s.to (((s.hub.setSmb (fun m => { m with lastUse := s.hub.now })).emit (.readBytes s.hub.host.smb.rsp)).setSmb
        (fun m => { m with rspReady := false, rsp := [] }))) := by
  change execSmbResponseRead s = _
  exact onHub_next (congrArg _ ((if_neg (by simp [hserved])).trans (if_pos hready)))

theorem exec_smbAddressMatchWake_own (hasleep : s.hub.pwr.chip ≠ .s0) :
    exec (.smbAddressMatchWake (0x58 + s.hub.boot.smbStrap)) s =
      .next (s.to { s.hub with pwr := { s.hub.pwr with wakeSrc := s.hub.pwr.wakeSrc ||| 1, wakeDuring := true, smbStretch := true } }) := by
  change execSmbAddressMatchWake _ s = _
  refine onHub_next (congrArg _ ((if_neg (not_not_intro rfl)).trans ?_))
  cases hchip : s.hub.pwr.chip
  case s0 => exact absurd hchip hasleep
  all_goals rfl

end

/-- Settles O24. -/
theorem smbusPort : Obligations.SmbusPort := by
  intro s h used
  refine ⟨fun hserved => ⟨fun l hidle hread hmin hmax => ?command, fun hready => ?response, ?status, fun hlow => ?alert⟩, ?wake⟩
  case command => exact exec_smbCommandWrite_taken hserved hidle hread hmin hmax
  case response => exact exec_smbResponseRead_ready hserved hready
  case status =>
    change execSmbStatusRead s = _
    exact onHub_next (congrArg _ (if_neg (by rw [hserved]; exact Bool.false_ne_true)))
  case alert =>
    change execSmbAlertResponse s = _
    exact onHub_next (congrArg _ (if_pos (Bool.and_eq_true_iff.mpr ⟨hserved, hlow⟩)))
  case wake => exact exec_smbAddressMatchWake_own

end Sys2Proof.Machine
end

section
/-! PROOFS. BAY_CONTROL and REGION_CONTROL (R539, R606), the reads of credentials, fleets and keys (R571, R573, R578, R594, R595), and what a command
that reads leaves (R533, R536). -/

namespace Sys2Proof.Machine

/-! ### Reads of credentials, fleets and keys (R571, R573, R578, R594, R595) -/

section
variable {q : Req} {c : CmdRef} {h : Hub}

theorem credQuery_none (hloaded : h.creds.loading = false) (hq : queried q.payload h = some none) :
    credQuery q c h = (.done .ok [⟨0, 4, noSlot⟩] [], h) := by
  simp only [credQuery, hloaded, hq, Bool.false_eq_true, if_false]

theorem credQuery_slot {i : Nat} (hloaded : h.creds.loading = false) (hq : queried q.payload h = some (some i)) :
    credQuery q c h = (.done .ok (queryResult i (h.cred i))
      (if 76 ≤ q.room then (slotBytes (h.cred i)).take 16 ++ (slotBytes (h.cred i)).drop 32 else []), h) := by
  simp only [credQuery, hloaded, hq, Bool.false_eq_true, if_false]

theorem fleetQuery_inRange (hloaded : h.creds.loading = false) (hf : fld q.payload 0 2 ≤ 4095) :
    fleetQuery q c h = (.done .ok
      [⟨0, 2, fld q.payload 0 2⟩, ⟨2, 2, (fleetOf h (fld q.payload 0 2)).quota⟩, ⟨4, 2, enrolled h (fld q.payload 0 2)⟩,
       ⟨6, 1, (fleetOf h (fld q.payload 0 2)).fobW⟩, ⟨8, 4, retiringOf h (fld q.payload 0 2)⟩] [], h) :=
  (if_neg (by rw [hloaded]; exact Bool.false_ne_true)).trans (if_neg (Nat.not_lt.mpr hf))

/-- The result of CRED_STATUS (R578). -/
def credStatusResult (h : Hub) : List Fld :=
  [⟨0, 4, (h.creds.slots.filter (fun x => x.2.valid)).length⟩, ⟨4, 4, (h.creds.slots.filter (fun x => x.2.retiring)).length⟩,
    ⟨8, 8, cellVal h cellEnrol⟩, ⟨16, 1, flags [h.creds.loading, decide (h.creds.bulk ≠ none), decide (enrolMax ≤ cellVal h cellEnrol)]⟩,
    ⟨28, 4, h.creds.ecc⟩, ⟨32, 4, h.creds.slotLost⟩, ⟨36, 4, h.creds.blockLost⟩, ⟨40, 4, backoffCount h⟩, ⟨44, 4, h.creds.resync.length⟩] ++
  (h.creds.bulk.map (fun x => [Fld.mk 20 4 x.loadId, ⟨24, 4, x.records.length⟩])).getD []

theorem credStatus_answers (hactive : bit (fld q.payload 0 1) 0 = true → fromActive q h = true) :
    credStatus q c h = (.done .ok (credStatusResult h) [],
      if bit (fld q.payload 0 1) 0 then { h with creds := { h.creds with ecc := 0, slotLost := 0, blockLost := 0 } } else h) := by
  have hmay : ¬(bit (fld q.payload 0 1) 0 && !fromActive q h) = true := by
    rw [Bool.and_eq_true]
    exact fun ⟨hclear, hother⟩ => by simp [hactive hclear] at hother
  have hload : h.creds.bulk.isSome = decide (h.creds.bulk ≠ none) := by cases h.creds.bulk <;> rfl
  rw [credStatusResult, ← hload]
  refine (if_neg hmay).trans ?_
  cases h.creds.bulk <;> rfl

theorem deviceKeyGet_present (hkey : (vaultKey h 0x13 0).present = true) :
    deviceKeyGet q c h =
      (.done .ok [bytesFld 0 (hashBytes (Config.sha256 (devicePoint h)))] (if 64 ≤ q.room then devicePoint h else []), h) :=
  if_pos hkey

end

/-- Settles O18: an entry that passes its body's own checks is answered at once; KEY_STATUS (R594) has none, and DEVICE_KEY_GET (R595) needs the key. -/
theorem credentialAndKeyReads : Obligations.CredentialAndKeyReads := by
  intro q s u p
  refine ⟨fun ha hloaded => ⟨fun hq => ?none, fun i hq => ?slot⟩, fun ha hloaded hf => ?fleet, fun ha hactive => ?status, fun ha => ?keys,
    fun ha hkey => ?deviceKey⟩
  case none => exact answers_now rfl ha (credQuery_none hloaded hq)
  case slot => exact answers_now rfl ha (credQuery_slot hloaded hq)
  case fleet => exact answers_now rfl ha (fleetQuery_inRange hloaded hf)
  case status => exact answers_now rfl ha (credStatus_answers hactive)
  case keys => exact answers_now rfl ha rfl
  case deviceKey => exact answers_now rfl ha (deviceKeyGet_present hkey)

/-! ### What a command that reads leaves (R533, R536) -/

/-- A row whose command needs no signature and whose body leaves the hub as it is changes the host side alone. -/
theorem hostRow_reads {i : Instr} {q : Req} {c : Spec} {body : Req → CmdRef → Hub → Reply × Hub} {s t : State}
    (he : exec i s = onHub (fun h => .next (hostCommand c body q h)) s) (hunsigned : ∀ u, c.signed q u = false)
    (hleaves : ∀ r w, (body q r w).2 = w) (hnext : exec i s = .next t) : t.pending = s.pending ∧ HostSideOnly s.hub t.hub := by
  have hrow := (hostRow_next he).symm.trans hnext
  injection hrow with hrow
  subst hrow
  exact ⟨rfl, hostCommand_quiet hunsigned fun r w => by rw [hleaves r w]; exact HostSideOnly.refl w⟩

section
variable (q : Req) (c : CmdRef) (h : Hub)

theorem bayTagRead_leaves : (bayTagRead q c h).2 = h := by
  unfold bayTagRead
  dsimp only
  split_ifs <;> rfl

theorem queueDump_leaves : (queueDump q c h).2 = h := by
  unfold queueDump
  dsimp only
  split_ifs <;> rfl

theorem captureRead_leaves : (captureRead q c h).2 = h := by
  unfold captureRead
  dsimp only
  split_ifs <;> rfl

theorem credQuery_leaves : (credQuery q c h).2 = h := by
  unfold credQuery
  split
  · rfl
  · split <;> rfl

theorem fleetQuery_leaves : (fleetQuery q c h).2 = h := by
  unfold fleetQuery
  dsimp only
  split_ifs <;> rfl

theorem logRead_leaves : (logRead q c h).2 = h := by
  unfold logRead
  dsimp only
  split_ifs <;> rfl

theorem deviceKeyGet_leaves : (deviceKeyGet q c h).2 = h := by
  unfold deviceKeyGet
  split <;> rfl

theorem bayStatus_leaves (hclear : bit (fld q.payload 2 1) 1 = false) : (bayStatus q c h).2 = h := by
  unfold bayStatus
  simp only [hclear, Bool.false_eq_true, false_and, if_false]
  split <;> rfl

theorem credStatus_leaves (hclear : bit (fld q.payload 0 1) 0 = false) : (credStatus q c h).2 = h := by
  simp only [credStatus, hclear, Bool.false_and, Bool.false_eq_true, if_false]

theorem logStatus_leaves (hclear : bit (fld q.payload 0 1) 1 = false) : (logStatus q c h).2 = h := by
  unfold logStatus
  simp only [hclear, Bool.false_and, Bool.false_eq_true, if_false]
  split <;> rfl

end

/-- Settles O20: no body of a read changes the hub it is given, and the shared course of a command stays on the host side. -/
theorem readingChangesNothing : Obligations.ReadingChangesNothing := by
  intro q s t i hi hnext
  simp only [List.mem_cons, List.not_mem_nil, or_false] at hi
  rcases hi with (rfl | rfl | rfl | rfl | rfl | rfl | rfl | rfl | rfl | rfl | rfl | rfl | rfl | rfl | rfl) |
      ⟨rfl, hclear⟩ | ⟨rfl, hclear⟩ | ⟨rfl, hclear⟩
  · exact hostRow_reads rfl (fun _ => rfl) (bayTagRead_leaves q) hnext
  · exact hostRow_reads rfl (fun _ => rfl) (queueDump_leaves q) hnext
  · exact hostRow_reads rfl (fun _ => rfl) (captureRead_leaves q) hnext
  · exact hostRow_reads (body := regionStatus) rfl (fun _ => rfl) (fun _ _ => rfl) hnext
  · exact hostRow_reads (body := complianceRead) rfl (fun _ => rfl) (fun _ _ => rfl) hnext
  · exact hostRow_reads rfl (fun _ => rfl) (credQuery_leaves q) hnext
  · exact hostRow_reads rfl (fun _ => rfl) (fleetQuery_leaves q) hnext
  · exact hostRow_reads rfl (fun _ => rfl) (logRead_leaves q) hnext
  · exact hostRow_reads (body := dailiesGet) rfl (fun _ => rfl) (fun _ _ => rfl) hnext
  · exact hostRow_reads (body := timeGet) rfl (fun _ => rfl) (fun _ _ => rfl) hnext
  · exact hostRow_reads (body := powerStatus) rfl (fun _ => rfl) (fun _ _ => rfl) hnext
  · exact hostRow_reads (body := keyStatus) rfl (fun _ => rfl) (fun _ _ => rfl) hnext
  · exact hostRow_reads rfl (fun _ => rfl) (deviceKeyGet_leaves q) hnext
  · exact hostRow_reads (body := version) rfl (fun _ => rfl) (fun _ _ => rfl) hnext
  · exact hostRow_reads (body := calibStatus) rfl (fun _ => rfl) (fun _ _ => rfl) hnext
  · exact hostRow_reads rfl (fun _ => rfl) (fun c h => bayStatus_leaves q c h hclear) hnext
  · exact hostRow_reads rfl (fun _ => rfl) (fun c h => credStatus_leaves q c h hclear) hnext
  · exact hostRow_reads rfl (fun _ => rfl) (fun c h => logStatus_leaves q c h hclear) hnext

/-! ### BAY_CONTROL (R539) -/

section
variable {q : Req} {c : CmdRef} {h : Hub}

theorem bayEnable_disabled (hact : fld q.payload 2 1 = 1) (hoff : (h.bay (fld q.payload 0 2)).link.enabled = false) :
    bayEnable q c h = (.done .ok [] [], h.setBay (fld q.payload 0 2) (fun x => { x with link := { x.link with enabled := true } })) :=
  (if_neg (not_not_intro hact)).trans (if_neg (by rw [hoff]; exact Bool.false_ne_true))

theorem bayDisable_noSession (hdue : (h.bay (fld q.payload 0 2)).link.disableDue = false) (hcharging : isCharging h (fld q.payload 0 2) = false)
    (hwrapping : isWrapping h (fld q.payload 0 2) = false) :
    bayDisable q c h = (.done .ok [] [], disabled (fld q.payload 0 2) (abortAuth (fld q.payload 0 2) .wrongState h)) := by
  simp only [bayDisable, hdue, hcharging, hwrapping, Bool.false_eq_true, or_self, if_false]

theorem bayWake_toWatch (hst : (h.bay (fld q.payload 0 2)).st = .idle ∨ (h.bay (fld q.payload 0 2)).st = .dark)
    (hactive : (h.region (regionOf (fld q.payload 0 2))).st = .active) (htest : (h.bay (fld q.payload 0 2)).radio.test = none) :
    bayWake q c h = (.done .ok [] [], wakeLink (fld q.payload 0 2) (toWatch (fld q.payload 0 2) h)) :=
  (if_pos hst).trans (if_pos ⟨hactive, htest⟩)

end

/-- Settles O2. That DISABLE ends a running authorisation with WRONG_STATE (log 101), and that RETRAIN leaves the port DOWN until a signal (log 53),
are the model's choices. -/
theorem bayControlActs : Obligations.BayControlActs := by
  intro q s u b
  refine ⟨fun ha hact hoff => ?enable, fun ha hdue hcharging hwrapping => ?disable, fun ha hst hactive htest => ?wake, fun ha => ?rearm,
    fun ha => ?retrain⟩
  case enable => exact answers_now rfl ha (bayEnable_disabled hact hoff)
  case disable => exact answers_now rfl ha (bayDisable_noSession hdue hcharging hwrapping)
  case wake => exact answers_now rfl ha (bayWake_toWatch hst hactive htest)
  case rearm => exact answers_now rfl ha rfl
  case retrain => exact answers_now rfl ha rfl

/-! ### REGION_CONTROL (R606) -/

theorem HostSideOnly.region_eq {a b : Hub} (h : HostSideOnly a b) (n : Nat) : b.region n = a.region n := (congrArg (Hub.region · n) h.eq_with :)
theorem HostSideOnly.activeSlot_eq {a b : Hub} (h : HostSideOnly a b) : activeSlot b = activeSlot a := (congrArg activeSlot h.eq_with :)
theorem HostSideOnly.regStarts_eq {a b : Hub} (h : HostSideOnly a b) (n : Nat) : regStarts b n = regStarts a n :=
  (congrArg (regStarts · n) h.eq_with :)

/-- A body that ends within the step, whatever its status. -/
theorem answers_reply {i : Instr} {q : Req} {s : State} {c : Spec} {body : Req → CmdRef → Hub → Reply × Hub} {r : Reply} {v : Hub}
    (he : exec i s = onHub (fun h => .next (hostCommand c body q h)) s) (ha : passes c q s.hub = true)
    (hb : body q (refOf c q) (taken q s) = (r, v)) (hr : r ≠ .later) : exec i s = .next (s.to (answer c q false r v)) := by
  rw [hostRow_next he, hostCommand_passes body ha]
  rw [taken] at hb
  simp only [hb, hr, if_false]

section
variable {q : Req} {c : CmdRef} {h : Hub} {r : Nat} (hr : fld q.payload 0 1 = r) (hone : r ≠ 0xFF) (hidle : (h.region r).restart = none)
include hr hone hidle

/-- An action on one region that no restart of it holds up, in a state that allows it. -/
theorem onRegion_allowed {states : RegionSt → Bool} {f : Nat → Hub → Reply × Hub} (hst : states (h.region r).st = true) :
    onRegion q states f h = f r h := by
  simp only [onRegion, hr, hone, hidle, hst, Option.isSome_none, Bool.not_true, Bool.false_eq_true, if_false]

theorem regQuarantine_allowed (hact : fld q.payload 1 1 = 1) (hst : (h.region r).st = .active ∨ (h.region r).st = .draining) :
    regQuarantine q c h = (.done .ok [] [], quarantine r .host h) :=
  (if_neg (not_not_intro hact)).trans (onRegion_allowed hr hone hidle (by simpa using hst))

theorem regRestore_allowed (hst : (h.region r).st = .quarantined) :
    regRestore q c h =
      if regStarts h (activeSlot h) then (.later, startRestart r .restore (some c) (countRestart r h)) else (.async .imageIncompatible [] [], h) := by
  refine (onRegion_allowed hr hone hidle (by simpa using hst)).trans ?_
  cases regStarts h (activeSlot h) <;> rfl

theorem regOff_allowed (hst : (h.region r).st = .active ∨ (h.region r).st = .quarantined) (hlive : liveBays h r = []) :
    regOff q c h = (.async .ok [] [], regionOff r h) :=
  (onRegion_allowed hr hone hidle (by simpa using hst)).trans (if_neg (not_not_intro hlive))

theorem regOn_allowed (hst : (h.region r).st = .off) : regOn q c h = (.later, startRestart r .power (some c) (regionPowerTo r .s0 h)) :=
  onRegion_allowed hr hone hidle (by simpa using hst)

end

theorem regSetRelease_allowed {q : Req} {c : CmdRef} {h : Hub} (hidle : ∀ x ∈ namedRegions (fld q.payload 0 1) h, (h.region x).restart = none)
    (harg : fld q.payload 2 1 ≤ 1) :
    regSetRelease q c h = (.async .ok [] [], forAll (namedRegions (fld q.payload 0 1) h)
      (fun x h => h.setRegion x (fun y => { y with quarRelease := if fld q.payload 2 1 = 0 then .cut else .proxy })) h) := by
  refine (if_neg ?_).trans (if_neg (Nat.not_lt.mpr harg))
  simpa using hidle

section
variable {q : Req} {s : State} {r : Nat} (hr : fld q.payload 0 1 = r) (hone : r ≠ 0xFF) (hidle : ((taken q s).region r).restart = none)
include hr hone hidle

theorem exec_regionControlRestore (ha : passes specRegionControlRestore q s.hub = true) (hst : ((taken q s).region r).st = .quarantined) :
    exec (.regionControlRestore q) s =
      .next (s.to (if regStarts (taken q s) (activeSlot (taken q s)) then
          startRestart r .restore (some (refOf specRegionControlRestore q)) (countRestart r (accept specRegionControlRestore q (taken q s)))
        else answer specRegionControlRestore q false (.async .imageIncompatible [] []) (taken q s))) := by
  have hbody : ∀ {h}, HostSideOnly (taken q s) h → regRestore q (refOf specRegionControlRestore q) h =
      if regStarts (taken q s) (activeSlot (taken q s)) then
        (.later, startRestart r .restore (some (refOf specRegionControlRestore q)) (countRestart r h))
      else (.async .imageIncompatible [] [], h) := fun hh => by
    rw [regRestore_allowed hr hone (by rwa [hh.region_eq]) (by rwa [hh.region_eq]), hh.regStarts_eq, hh.activeSlot_eq]
  split
  next hstarts => exact answers_later_of_hostSide rfl ha fun h hh => (hbody hh).trans (if_pos hstarts)
  next hstarts => exact answers_reply rfl ha ((hbody (HostSideOnly.refl _)).trans (if_neg hstarts)) Reply.noConfusion

theorem exec_regionControlOn (ha : passes specRegionControlOn q s.hub = true) (hst : ((taken q s).region r).st = .off) :
    exec (.regionControlOn q) s =
      .next (s.to (startRestart r .power (some (refOf specRegionControlOn q)) (regionPowerTo r .s0 (accept specRegionControlOn q (taken q s))))) :=
  answers_later_of_hostSide rfl ha fun _ hh => regOn_allowed hr hone (by rwa [hh.region_eq]) (by rwa [hh.region_eq])

end

/-- Settles O9: each action's own conditions hold; a restart that runs on begins after ACCEPTED, where the same holds of the region. -/
theorem regionControlActs : Obligations.RegionControlActs := by
  intro q s u r
  refine ⟨fun hone hidle => ⟨fun ha hact hst => ?quarantine, exec_regionControlRestore rfl hone hidle, fun ha hst hlive => ?off,
    exec_regionControlOn rfl hone hidle⟩, fun ha hidle harg => ?setRelease⟩
  case quarantine => exact answers_now rfl ha (regQuarantine_allowed rfl hone hidle hact hst)
  case off => exact answers_done rfl ha (regOff_allowed rfl hone hidle hst hlive)
  case setRelease => exact answers_done rfl ha (regSetRelease_allowed hidle harg)

end Sys2Proof.Machine
end

section
/-! PROOFS. SAFETY_CUT, PERMIT_DROP, METER_READ and SESSION_AUTHORIZE (R546, R547, R552 to R554). -/

namespace Sys2Proof.Machine

/-! ### PERMIT_DROP (R553) -/

/-- A safety cut has begun at every bay that is CHARGING or WRAPPING in the regions. -/
def regionsCut (regions : List Nat) (h : Hub) : Hub :=
  regions.foldl (fun h r => (liveBays h r).foldl (fun h b => hostSafetyCut b h) h) h

theorem permitDrop_noCutOpen {q : Req} {c : CmdRef} {h : Hub} {l : List Nat} (hl : namedRegions (fld q.payload 0 1) h = l)
    (hopen : ∀ r ∈ l, ((regionsCut l h).region r).bus.cutsOpen = [] ∧ ((regionsCut l h).region r).bus.cutFrames = []) :
    permitDrop q c h = (.done .ok [⟨8, 1, flags ((List.range 8).map (fun r => l.contains r))⟩] [],
      l.foldl (fun h r => setPermit r false h) (regionsCut l h)) := by
  have hnone : l.filter (fun r => ((regionsCut l h).region r).bus.cutsOpen ≠ [] || ((regionsCut l h).region r).bus.cutFrames ≠ []) = [] := by
    refine List.filter_eq_nil_iff.mpr fun r hr => ?_
    obtain ⟨hcuts, hframes⟩ := hopen r hr
    simp [hcuts, hframes]
  rw [regionsCut] at hnone
  simp only [permitDrop, hl, hnone, List.contains_nil, Bool.false_eq_true, if_false, if_true]
  rfl

/-! ### METER_READ (R554) -/

theorem meterRead_starts {q : Req} {c : CmdRef} {h : Hub} {b : Nat} (hb : fld q.payload 0 2 = b) (hsess : sessNamed q h b = true)
    (hplans : bayPlans h b = true) (hidle : (h.rel b).req = none) (hrng : h.rng.available = true) (hraw : h.rng.rawActive = false) :
    meterRead q c h = (.later, startMeter b .spot (some c) q.room h) := by
  simp only [meterRead, hb, hsess, hplans, hidle, hrng, hraw, Option.isSome_none, Bool.not_true, Bool.or_self, Bool.false_eq_true, if_false]

theorem HostSideOnly.rel_eq {a b : Hub} (h : HostSideOnly a b) (n : Nat) : b.rel n = a.rel n := (congrArg (Hub.rel · n) h.eq_with :)
theorem HostSideOnly.rng_eq {a b : Hub} (h : HostSideOnly a b) : b.rng = a.rng := (congrArg Hub.rng h.eq_with :)
theorem HostSideOnly.sessNamed_eq {a b : Hub} (h : HostSideOnly a b) (q : Req) (n : Nat) : sessNamed q b n = sessNamed q a n :=
  (congrArg (sessNamed q · n) h.eq_with :)

theorem exec_meterRead_starts {q : Req} {s : State} {b : Nat} (hb : fld q.payload 0 2 = b) (ha : passes specMeterRead q s.hub = true)
    (hsess : sessNamed q (taken q s) b = true) (hplans : bayPlans (taken q s) b = true) (hidle : ((taken q s).rel b).req = none)
    (hrng : (taken q s).rng.available = true) (hraw : (taken q s).rng.rawActive = false) :
    exec (.meterRead q) s =
      .next (s.to (startMeter b .spot (some (refOf specMeterRead q)) q.room (accept specMeterRead q (taken q s)))) := by
  refine answers_later_of_hostSide rfl ha fun h hh => meterRead_starts hb ?_ ?_ ?_ ?_ ?_
  · rwa [hh.sessNamed_eq]
  · rwa [hh.bayPlans_eq]
  · rwa [hh.rel_eq]
  · rwa [hh.rng_eq]
  · rwa [hh.rng_eq]

/-! ### SESSION_AUTHORIZE (R546, R547) -/

theorem HostSideOnly.boundDialogue_eq {a b : Hub} (h : HostSideOnly a b) (n : Nat) (k : TokenClass) (tok : Nat) :
    boundDialogue b n k tok = boundDialogue a n k tok := by
  simp only [boundDialogue, h.bay_eq]

theorem HostSideOnly.authorizeStatus_eq {a b : Hub} (h : HostSideOnly a b) (n : Nat) (k : TokenClass) (tok : Nat) :
    authorizeStatus b n k tok = authorizeStatus a n k tok :=
  (congrArg (authorizeStatus · n k tok) h.eq_with :)

theorem classOf_ne_f {n : Nat} (hn : n ≤ 1) : classOf n ≠ .f := by
  interval_cases n <;> decide

/-- A class V or C token whose dialogue passes every check opens its session. -/
theorem sessionAuthorize_opens {q : Req} {c : CmdRef} {h : Hub} {d : Dialogue} (hcls : fld q.payload 2 1 ≤ 1) (hrel : fld q.payload 3 1 ≠ 0)
    (hstatus : authorizeStatus h (fld q.payload 0 2) (classOf (fld q.payload 2 1)) (fld q.payload 4 8) = none)
    (hbound : boundDialogue h (fld q.payload 0 2) (classOf (fld q.payload 2 1)) (fld q.payload 4 8) = some d) :
    sessionAuthorize q c h =
      (.later, openSession (fld q.payload 0 2) (classOf (fld q.payload 2 1)) d (fld q.payload 3 1) (fld q.payload 12 8) c h) := by
  have hinRange : ¬(2 < fld q.payload 2 1 ∨ fld q.payload 3 1 = 0) := by omega
  simp only [sessionAuthorize, hinRange, hstatus, hbound, classOf_ne_f hcls, if_false]

/-- Settles O8: each body's reply is known; PERMIT_DROP answers at once as no cut is open, and the others that run on begin after ACCEPTED. -/
theorem cutsReadingsAndAuthorize : Obligations.CutsReadingsAndAuthorize := by
  refine ⟨fun q s => ⟨fun ha => ?cut, fun ha hopen => ?drop, exec_meterRead_starts rfl⟩, fun q s d ha hcls hrel hstatus hbound => ?authorize⟩
  case cut => exact answers_now rfl ha rfl
  case drop => exact answers_now rfl ha (permitDrop_noCutOpen rfl hopen)
  case authorize =>
    exact answers_later_of_hostSide rfl ha fun h hh =>
      sessionAuthorize_opens hcls hrel (by rwa [hh.authorizeStatus_eq]) (by rwa [hh.boundDialogue_eq])

end Sys2Proof.Machine
end

section
/-! PROOFS. KEY_INSTALL, LIFECYCLE_SET, RNG_READ, RUSHES_SET and RUSHES_READ (R591 to R600, R728, R736, R740, R744, R770). -/

namespace Sys2Proof.Machine

/-! ### KEY_INSTALL (R591 to R593) -/

/-- The result of KEY_INSTALL (R593). -/
def keyInstallResult (kind idx : Nat) (w : Option Nat) (m : Option (List Byte)) : List Fld :=
  [⟨8, 1, kind⟩, ⟨9, 1, idx⟩, bytesFld 12 (match m with | some l => keyCheck w l | none => [])]

/-- A blob of its kind's length that yields a key, within the rules of R591. -/
theorem keyInstall_allowed {q : Req} {c : CmdRef} {v x : Hub} {n : Nat} {w : Option Nat} {m : Option (List Byte)}
    (hkind : keyKind (keyOf q).1 = some (n, w)) (hidx : if (keyOf q).1 = 1 then (keyOf q).2.1 < 4 else 3 < (keyOf q).1 ∨ (keyOf q).2.1 = 0)
    (hlen : (if keySigned q v then signedData q else q.data).length = if (keyOf q).2.2 then 0 else n)
    (hkey : (if (keyOf q).2.2 then some none else (blobKey v w (if keySigned q v then signedData q else q.data)).map some) = some m)
    (hallowed : keyAllowed (keyOf q).1 (keyOf q).2.1 (keyOf q).2.2 v = true) (hinst : installKey (keyOf q).1 (keyOf q).2.1 m v = (true, x)) :
    keyInstall q c v = (.async .ok (keyInstallResult (keyOf q).1 (keyOf q).2.1 w m) [], x) := by
  have hinRange : ¬(if (keyOf q).1 = 1 then 4 ≤ (keyOf q).2.1 else (keyOf q).1 ≤ 3 ∧ (keyOf q).2.1 ≠ 0) := by
    split at hidx <;> simp only [*, if_true, if_false] <;> omega
  simp only [keyInstall, hkind]
  refine (if_neg hinRange).trans <| (if_neg (not_not_intro hlen)).trans ?_
  rw [hkey]
  simp only [hallowed, hinst, Bool.not_true, Bool.false_eq_true, if_false, if_true]
  rfl

/-! ### LIFECYCLE_SET (R596, R597, R744, R770) -/

/-- The hub once a transition has its burst: the field's copies programmed, and the vault cleared where it is DECOMMISSIONED. -/
def fieldProgrammed (new : Nat) (w : Hub) : Hub := if new = decommissioned then vaultCleared (programField new w) else programField new w

theorem lifecycleSet_transition {q : Req} {c : CmdRef} {v w : Hub} {k : Nat} (hstep : transition v.lc (fld q.payload 0 1) = true)
    (hready : transitionReady (fld q.payload 0 1) v = true) (hburst : pageBurst 1 v = (.done k, w)) :
    let y := fieldProgrammed (fld q.payload 0 1) w
    let torn := b2n (lcTorn y.fuse.lc)
    lifecycleSet q c v =
      (.async .ok [⟨8, 1, v.lc⟩, ⟨9, 1, fld q.payload 0 1⟩, ⟨10, 1, torn⟩] [],
       postEvent 8 chipSrc (lifecycleDetail v.lc (fld q.payload 0 1) torn) y) := by
  simp only [lifecycleSet, hstep, hready, hburst, Bool.not_true, Bool.false_eq_true, if_false, fieldProgrammed]

/-- Whatever its entry, LIFECYCLE_SET completes; a changed set of limits reaches the heads. -/
theorem exec_lifecycleSet (q : Req) (s : State) :
    exec (.lifecycleSet q) s = .next (s.to (limitsApplied s.hub (hostCommand specLifecycleSet lifecycleSet q s.hub))) := by
  change execLifecycleSet q s = _
  exact onHub_next rfl

/-! ### RNG_READ (R598, R728) -/

section
variable {q : Req} {c : CmdRef} {h : Hub} (hmin : 1 ≤ fld q.payload 0 2) (hmax : fld q.payload 0 2 ≤ 4096)
  (hroom : fld q.payload 0 2 ≤ 48 ∨ fld q.payload 0 2 ≤ q.room)
include hmin hmax hroom

theorem rngRead_inRange : ¬(fld q.payload 0 2 = 0 ∨ 4096 < fld q.payload 0 2) ∧ ¬(48 < fld q.payload 0 2 ∧ q.room < fld q.payload 0 2) := by
  omega

theorem rngRead_generates {l : List Byte} {g : Rng} (hgen : h.rng.generate (fld q.payload 0 2) = some (l, g)) :
    rngRead q c h =
      (.done .ok (if fld q.payload 0 2 ≤ 48 then [bytesFld 0 l] else []) (if fld q.payload 0 2 ≤ 48 then [] else l), { h with rng := g }) := by
  obtain ⟨hrange, hfits⟩ := rngRead_inRange hmin hmax hroom
  simp only [rngRead, hrange, hfits, hgen, if_false]
  split <;> rfl

/-- The RNG serves, yet the request gets nothing: it waits for the reseed that is due. -/
theorem rngRead_waits (hgen : h.rng.generate (fld q.payload 0 2) = none) (hon : h.rng.available = true) (hraw : h.rng.rawActive = false) :
    rngRead q c h = (.later, h.setRng (fun g => { g with waiting := g.waiting ++ [{ ref := c, len := fld q.payload 0 2 }] })) := by
  obtain ⟨hrange, hfits⟩ := rngRead_inRange hmin hmax hroom
  simp only [rngRead, hrange, hfits, hgen, hon, hraw, if_false]
  rfl

end

/-! ### RUSHES_SET and RUSHES_READ (R599, R600, R736) -/

section
variable {q : Req} {c : CmdRef} {h : Hub} (hlc : h.lc ≠ fielded) (hdata : q.data = [])
include hlc hdata

theorem rushesSet_on (hon : fld q.payload 0 1 = 1) (hmin : 1 ≤ fld q.payload 4 4) (hmax : fld q.payload 4 4 ≤ 3600) :
    rushesSet q c h = rushesOn (bit (fld q.payload 1 1) 0) (fld q.payload 4 4) c h := by
  have hrange : ¬(1 < fld q.payload 0 1 ∨ (fld q.payload 0 1 = 1 ∧ (fld q.payload 4 4 = 0 ∨ 3600 < fld q.payload 4 4))) := by omega
  exact (if_neg (by simp [hdata, hlc])).trans <| (if_neg hrange).trans (if_pos hon)

theorem rushesSet_off (hoff : fld q.payload 0 1 = 0) : rushesSet q c h = rushesOff c h := by
  have hrange : ¬(1 < fld q.payload 0 1 ∨ (fld q.payload 0 1 = 1 ∧ (fld q.payload 4 4 = 0 ∨ 3600 < fld q.payload 4 4))) := by omega
  exact (if_neg (by simp [hdata, hlc])).trans <| (if_neg hrange).trans (if_neg (by omega))

end

theorem rushesOn_again {force : Bool} {dur : Nat} {c : CmdRef} {h : Hub} (hraw : h.rng.rawActive = true) :
    rushesOn force dur c h = (.async .ok [] [], h.setRng (fun g => { g with rawEnd := h.now + sec dur })) :=
  if_pos hraw

theorem rushesOn_enters {force : Bool} {dur : Nat} {c : CmdRef} {h : Hub} (hraw : h.rng.rawActive = false) (hpend : h.rng.rawPend = none)
    (hlive : anyLive h = false) : rushesOn force dur c h = (.async .ok [] [], rushesEnter dur h) := by
  simp only [rushesOn, hraw, hpend, hlive, Option.isSome_none, Bool.false_eq_true, if_false]

theorem rushesOff_exits {c : CmdRef} {h : Hub} (hpend : h.rng.rawPend = none) (hraw : h.rng.rawActive = true) :
    rushesOff c h = (.later, rushesExit (some c) h) := by
  simp only [rushesOff, hpend, hraw, if_true]

theorem rushesRead_samples {q : Req} {c : CmdRef} {h : Hub} (hsrc : fld q.payload 0 1 ≤ 3 ∨ fld q.payload 0 1 = 0xFF) (hmin : 1 ≤ fld q.payload 4 4)
    (hmax : fld q.payload 4 4 ≤ 2 ^ 24) (hroom : fld q.payload 4 4 ≤ q.room) (hraw : h.rng.rawActive = true) :
    rushesRead q c h =
      (.async .ok [⟨8, 4, fld q.payload 4 4⟩] (toLe (fld q.payload 4 4) (freeVal (8 * fld q.payload 4 4) h).1),
       (freeVal (8 * fld q.payload 4 4) h).2) := by
  have hrange : ¬((3 < fld q.payload 0 1 ∧ fld q.payload 0 1 ≠ 0xFF) ∨ fld q.payload 4 4 = 0 ∨ 2 ^ 24 < fld q.payload 4 4) := by omega
  exact (if_neg hrange).trans <| (if_neg (Nat.not_lt.mpr hroom)).trans (if_neg (by rw [hraw]; exact Bool.false_ne_true))

theorem HostSideOnly.lc_eq {a b : Hub} (h : HostSideOnly a b) : b.lc = a.lc := (congrArg Hub.lc h.eq_with :)

/-! ### The rows -/

/-- Settles O14: a row's conditions decide what its body gives; where the command runs on, the same holds of the hub after ACCEPTED. That RNG_READ
waits for a reseed that is due (log 135), and that LIFECYCLE_SET's EVENT follows the burst of the fuses (log 132), are the model's choices. -/
theorem keysLifeCycleAndRng : Obligations.KeysLifeCycleAndRng := by
  refine ⟨fun q s => ⟨?keys, fun ha => ⟨_, exec_lifecycleSet q s, rfl, ?lifecycle⟩⟩,
    fun q s => ⟨fun ha hmin hmax hroom => ⟨fun l g hgen => ?read, fun hgen hon hraw => ?waits⟩,
      fun ha hlc hdata => ⟨fun hon hmin hmax hraw => ?again, fun hon hmin hmax hraw hpend hlive => ?enters, fun hoff hpend hraw => ?exits⟩,
      fun ha hsrc hmin hmax hroom hraw => ?samples, fun hraw hdue => ?ends⟩⟩
  case keys =>
    intro v n w m x kind idx remove blob hr hkind hidx hlen hkey hallowed hinst
    exact ready_done rfl hr (keyInstall_allowed hkind hidx hlen hkey hallowed hinst)
  case lifecycle =>
    intro v k w hv new hstep hready hburst
    exact congrArg (limitsApplied s.hub) (hostCommand_verified_done ha hv (lifecycleSet_transition hstep hready hburst))
  case read => exact answers_now rfl ha (rngRead_generates hmin hmax hroom hgen)
  case waits =>
    exact answers_later_of_hostSide rfl ha fun h hh =>
      rngRead_waits hmin hmax hroom (by rwa [hh.rng_eq]) (by rwa [hh.rng_eq]) (by rwa [hh.rng_eq])
  case again => exact answers_done rfl ha ((rushesSet_on hlc hdata hon hmin hmax).trans (rushesOn_again hraw))
  case enters => exact answers_done rfl ha ((rushesSet_on hlc hdata hon hmin hmax).trans (rushesOn_enters hraw hpend hlive))
  case exits =>
    exact answers_later_of_hostSide rfl ha fun h hh =>
      (rushesSet_off (by rwa [hh.lc_eq]) hdata hoff).trans (rushesOff_exits (by rwa [hh.rng_eq]) (by rwa [hh.rng_eq]))
  case samples => exact answers_done rfl ha (rushesRead_samples hsrc hmin hmax hroom hraw)
  case ends =>
    change execRushesDurationEnd s = _
    exact onHub_next (congrArg _ (if_pos (by simp [hraw, hdue])))

end Sys2Proof.Machine
end

section
/-! PROOFS. IMAGE_STAGE, IMAGE_ACTIVATE, SPLICE, COMPLIANCE_WRITE and the two manufacturing steps (R147 to R151, R517, R556, R602 to R604, R743, R763,
R765, R770, R780). -/

namespace Sys2Proof.Machine

/-! ### IMAGE_STAGE (R602, R763) -/

/-- The image that IMAGE_STAGE carries. -/
def stagedImage (q : Req) (v : Hub) : Image := { hdr := (imageData q v).take 256, payload := (imageData q v).drop 256 }

/-- R763: a slot named for the next start gives way to the one that runs. -/
def slotGivesWay (kind slot : Nat) (v : Hub) : Commit × Hub :=
  if kind = 0 ∧ (bootRec v).supActive = slot then writeBoot (fun r => { r with supActive := 1 - slot, trial := false }) v else (.done 0, v)

/-- The image stands in its slot, told by an EVENT. -/
def imageWritten (kind slot : Nat) (i : Image) (w : Hub) : Hub :=
  postEvent 9 chipSrc [⟨0, 1, kind⟩, ⟨1, 1, slot⟩, ⟨2, 4, imageVersion (some i)⟩]
    ({ w with flash := writeSlot kind slot i w.flash }.program (if kind = 0 then flashSup slot else flashReg slot) (i.hdr ++ i.payload))

theorem imageStage_sound {q : Req} {c : CmdRef} {v w : Hub} {k : Nat} (hflash : flashAbsent v = false) (hkind : fld q.payload 0 1 ≤ 1)
    (hsplice : fld q.payload 0 1 = 1 → v.splice = none) (himage : imageStatus v (fld q.payload 0 1) (stagedImage q v) = none)
    (hboot : slotGivesWay (fld q.payload 0 1) (stageSlot (fld q.payload 0 1) v) v = (.done k, w)) :
    let slot := stageSlot (fld q.payload 0 1) v
    imageStage q c v =
      (.async .ok [⟨8, 1, fld q.payload 0 1⟩, ⟨9, 1, slot⟩, ⟨12, 4, imageVersion (some (stagedImage q v))⟩] [],
       imageWritten (fld q.payload 0 1) slot (stagedImage q v) w) := by
  have hfree : ¬(fld q.payload 0 1 = 1 ∧ v.splice.isSome = true) := fun ⟨h1, hsome⟩ => by simp [hsplice h1] at hsome
  refine (if_neg (by rw [hflash]; exact Bool.false_ne_true)).trans <| (if_neg (Nat.not_lt.mpr hkind)).trans <| (if_neg hfree).trans ?_
  rw [stagedImage] at himage
  rw [slotGivesWay] at hboot
  simp only [himage, hboot]
  rfl

/-! ### IMAGE_ACTIVATE (R603, R765) -/

/-- The supervisor slot that runs. -/
def runningSlot (v : Hub) : Option Nat := if v.fwReady then some v.boot.supSlot else none

theorem imageActivate_valid {q : Req} {c : CmdRef} {v w : Hub} {k : Nat} (hflash : flashAbsent v = false) (hkind : fld q.payload 0 1 ≤ 1)
    (hslot : fld q.payload 1 1 ≤ 1)
    (hvalid : slotValid v (fld q.payload 0 1)
      (if fld q.payload 0 1 = 0 then supImage v (fld q.payload 1 1) else regImage v (fld q.payload 1 1)) = true)
    (hboot : writeBoot (activated (fld q.payload 0 1) (fld q.payload 1 1) (runningSlot v) (cellVal v cellBootTry)) v = (.done k, w)) :
    imageActivate q c v = (.async .ok [] [],
      if fld q.payload 0 1 = 0 ∧ runningSlot v = some (fld q.payload 1 1) then setBoot (fun b => { b with trial := false, tries := 0 }) w else w) := by
  have hrange : ¬(1 < fld q.payload 0 1 ∨ 1 < fld q.payload 1 1) := by omega
  refine (if_neg (by rw [hflash]; exact Bool.false_ne_true)).trans <| (if_neg hrange).trans ?_
  rw [runningSlot] at hboot
  simp only [hvalid, hboot, Bool.not_true, Bool.false_eq_true, if_false]
  rfl

/-! ### SPLICE (R604) -/

theorem HostSideOnly.splice_eq {a b : Hub} (h : HostSideOnly a b) : b.splice = a.splice := (congrArg Hub.splice h.eq_with :)
theorem HostSideOnly.regImage_eq {a b : Hub} (h : HostSideOnly a b) (n : Nat) : regImage b n = regImage a n := (congrArg (regImage · n) h.eq_with :)
theorem HostSideOnly.abiFits_eq {a b : Hub} (h : HostSideOnly a b) (i : Image) : abiFits b i = abiFits a i := (congrArg (abiFits · i) h.eq_with :)
theorem HostSideOnly.slotValid_eq {a b : Hub} (h : HostSideOnly a b) (n : Nat) (i : Option Image) : slotValid b n i = slotValid a n i :=
  (congrArg (slotValid · n i) h.eq_with :)

/-- A splice run over the 8 regions to a slot. -/
def spliceBegun (c : CmdRef) (slot : Nat) (h : Hub) : Hub :=
  spliceNext { h with splice := some { ref := c, slot := slot, old := activeSlot h, todo := List.range 8, done := [] } }

/-- The slot is valid, and its image fits the ABI of the running supervisor. -/
theorem spliceCommand_begins {q : Req} {c : CmdRef} {h : Hub} (hslot : fld q.payload 0 1 ≤ 1) (hidle : h.splice = none)
    (hvalid : slotValid h 1 (regImage h (fld q.payload 0 1)) = true)
    (hfits : ((regImage h (fld q.payload 0 1)).map (fun i => !abiFits h i)).getD false = false) :
    spliceCommand q c h = (.later, spliceBegun c (fld q.payload 0 1) h) := by
  simp only [spliceCommand, Nat.not_lt.mpr hslot, hidle, hvalid, hfits, Option.isSome_none, Bool.not_true, Bool.false_eq_true, if_false]
  rfl

theorem hostCommand_splice {q : Req} {h v : Hub} (ha : passesToSig specSplice q h = true) (hv : verifiedTo specSplice q h v)
    (hslot : fld q.payload 0 1 ≤ 1) (hidle : v.splice = none) (hvalid : slotValid v 1 (regImage v (fld q.payload 0 1)) = true)
    (hfits : ((regImage v (fld q.payload 0 1)).map (fun i => !abiFits v i)).getD false = false) :
    hostCommand specSplice spliceCommand q h = spliceBegun (refOf specSplice q) (fld q.payload 0 1) (accept specSplice q v) := by
  have hbody : ∀ a, HostSideOnly v a → spliceCommand q (refOf specSplice q) a = (.later, spliceBegun (refOf specSplice q) (fld q.payload 0 1) a) := by
    intro a hside
    refine spliceCommand_begins hslot (hside.splice_eq.trans hidle) ?_ ?_
    · rwa [hside.regImage_eq, hside.slotValid_eq]
    · simpa only [hside.regImage_eq, hside.abiFits_eq] using hfits
  rw [hostCommand_verified _ ha hv, hbody v (HostSideOnly.refl v), hbody _ (HostSideOnly.accepted specSplice q v)]
  rfl

/-! ### COMPLIANCE_WRITE (R147 to R151, R556) -/

theorem complianceWrite_newer {q : Req} {c : CmdRef} {v w : Hub} {k : Nat} (hintact : pageIntact (signedData q) = true)
    (hsigned : pageSigned v (signedData q) = true) (hnewer : ∀ o, flashVersion v = some o → o < fld (signedData q) 4 4)
    (hburst : pageBurst 16 v = (.done k, w)) :
    complianceWrite q c v = (.async .ok [⟨8, 4, fld (signedData q) 4 4⟩] [],
      postEvent 0xC chipSrc [⟨0, 4, fld (signedData q) 4 4⟩] (compWritten (signedData q) w)) := by
  refine (if_neg (by simp [hintact])).trans <| (if_neg (by simp [hsigned])).trans <| (if_neg ?older).trans ?_
  case older =>
    cases hold : flashVersion v with
    | none => exact Bool.false_ne_true
    | some o => simpa using hnewer o hold
  rw [hburst]
  rfl

theorem Twin.read_set {α : Type} (hi : Bool) (x : Option (Sector α)) (t : Twin α) : (if hi then (t.set hi x).s1 else (t.set hi x).s0) = x := by
  cases hi <;> rfl

/-- The page written is the one in force. -/
theorem compWritten_inForce (p : List Byte) (h : Hub) : (compWritten p h).boot.compValid = true ∧ compPage (compWritten p h) = some p := by
  exact ⟨rfl, congrArg (Option.map Sector.data) (Twin.read_set _ _ _)⟩

theorem exec_complianceWrite (q : Req) (s : State) :
    exec (.complianceWrite q) s =
      .next (s.to (if compPage (hostCommand specComplianceWrite complianceWrite q s.hub) = compPage s.hub
        then hostCommand specComplianceWrite complianceWrite q s.hub
        else retrainAll (hostCommand specComplianceWrite complianceWrite q s.hub))) := by
  change execComplianceWrite q s = _
  exact onHub_next rfl

/-- Settles O10: SPLICE runs on with the same effect after ACCEPTED; the answer of COMPLIANCE_WRITE is what the links' retraining starts from. -/
theorem spliceAndComplianceWrite : Obligations.SpliceAndComplianceWrite := by
  refine ⟨fun q s ha => ⟨_, hostRow_next rfl, rfl, fun v hv hslot hidle hvalid hfits => ?splice⟩,
    fun q s ha => ⟨_, exec_complianceWrite q s, rfl, fun v k w hv hintact hsigned hnewer hburst => ?compliance⟩⟩
  case splice => exact hostCommand_splice ha hv hslot hidle hvalid hfits
  case compliance =>
    obtain ⟨hforce, hpage⟩ := compWritten_inForce (signedData q) w
    have hanswer := hostCommand_verified_done ha hv (complianceWrite_newer (c := refOf specComplianceWrite q) hintact hsigned hnewer hburst)
    exact ⟨hforce, hpage, by rw [hanswer]⟩

/-! ### The manufacturing steps (R743, R770, R780) -/

/-- Where K_ROOT is fused already it stands; elsewhere it is drawn first. -/
def kRootDrawn (k : BitVec 256) (h h0 : Hub) : Prop :=
  h.fuse.kRoot = some k ∧ h0 = h ∨ h.fuse.kRoot = none ∧ ∃ n, drawRandom 32 h = some (n, h0) ∧ k = BitVec.ofNat 256 n

theorem mfgStep_completes {h h0 h1 h2 w1 w2 : Hub} {k : BitVec 256} {kImport dev cred i j : Nat} (hroot : kRootDrawn k h h0)
    (hdev : drawRandom 32 h0 = some (dev, h1)) (hcred : drawRandom 32 h1 = some (cred, h2))
    (hvault : pageBurst 13 (vaultErase 0 { h2 with fuse := { h2.fuse with kRoot := some k, rootCheck := rootCheckOf k } }) = (.done i, w1))
    (hfield : pageBurst 1 (vaultProgram 0 (w1.setNv (fun v => { v with vault := baseKeys dev cred (kImport % 2 ^ 256) v.vault }))) = (.done j, w2)) :
    mfgStep kImport h = programField factory w2 := by
  rcases hroot with ⟨hfused, rfl⟩ | ⟨hfresh, n, hdraw, rfl⟩
  · simp only [mfgStep, hfused, hdev, hcred, hvault, hfield]
  · simp only [mfgStep, hfresh, hdraw, Option.map_some, hdev, hcred, hvault, hfield]

theorem mfgCalib_sound {l : List Byte} {h w : Hub} {k : Nat} (hpage : pageSound l = true) (hserial : fld l 8 8 = Config.serial.toNat)
    (hburst : pageBurst wholeWrite h = (.done k, w)) :
    mfgCalib l h = pageInForce (factoryPage w l) (pageWritten wholeSectors (factoryPage w l) w) := by
  refine (if_pos ⟨hpage, hserial⟩).trans ?_
  rw [hburst]

theorem mfgCalib_refused {l : List Byte} {h : Hub} (hbad : pageSound l = false ∨ fld l 8 8 ≠ Config.serial.toNat) : mfgCalib l h = h := by
  refine if_neg fun ⟨hpage, hserial⟩ => ?_
  rcases hbad with hunsound | hother
  · simp [hpage] at hunsound
  · exact hother hserial

section
variable {s : State}

theorem exec_mfgStep_acts {kImport : Nat} (hphase : s.hub.boot.phase ≠ .held) (hlc : s.hub.lc = blank) (hrng : s.hub.rng.available = true) :
    exec (.mfgStep kImport) s = .next (s.to (mfgStep kImport s.hub)) := by
  change execMfgStep kImport s = _
  exact onHub_next (congrArg _ (if_pos ⟨hphase, hlc, hrng⟩))

theorem exec_mfgStep_elsewhere {kImport : Nat} (hlc : s.hub.lc ≠ blank) : exec (.mfgStep kImport) s = .next s := by
  change execMfgStep kImport s = _
  exact onHub_next (congrArg _ (if_neg fun ⟨_, hblank, _⟩ => hlc hblank))

theorem exec_mfgCalib_acts {l : List Byte} (hphase : s.hub.boot.phase ≠ .held) (hlc : s.hub.lc = factory) :
    exec (.mfgCalib l) s = .next (s.to (mfgCalib l s.hub)) := by
  change execMfgCalib l s = _
  exact onHub_next (congrArg _ (if_pos ⟨hphase, hlc⟩))

theorem exec_mfgCalib_elsewhere {l : List Byte} (hlc : s.hub.lc ≠ factory) : exec (.mfgCalib l) s = .next s := by
  change execMfgCalib l s = _
  exact onHub_next (congrArg _ (if_neg fun ⟨_, hfactory⟩ => hlc hfactory))

end

/-- Settles O15: what each body gives past its own checks. That MFG_STEP keeps a K_ROOT that is fused already (log 136), and that a step that is not
due has no effect (log 3), are the model's choices. -/
theorem imageAndManufacturingCommands : Obligations.ImageAndManufacturingCommands := by
  refine ⟨fun q s => ⟨fun v hr hflash hkind hsplice => ⟨_, hostRow_next rfl, rfl, fun k w himage hboot => ?stage⟩,
      fun v hr hflash hkind hslot => ⟨_, hostRow_next rfl, rfl, fun k w hvalid hboot => ?activate⟩⟩,
    fun s hphase => ⟨fun k kImport dev cred h0 h1 h2 i j w1 w2 hlc hrng hroot hdev hcred hvault hfield => ?mfgStep,
      fun kImport hlc => exec_mfgStep_elsewhere hlc, fun l k w hlc hpage hserial hburst => ?mfgCalib, fun l hother => ?refused⟩⟩
  case stage => rw [hostCommand_ready _ hr, imageStage_sound hflash hkind hsplice himage hboot]; rfl
  case activate => rw [hostCommand_ready _ hr, imageActivate_valid hflash hkind hslot hvalid hboot]; rfl
  case mfgStep => rw [exec_mfgStep_acts hphase hlc hrng, mfgStep_completes hroot hdev hcred hvault hfield]
  case mfgCalib => rw [exec_mfgCalib_acts hphase hlc, mfgCalib_sound hpage hserial hburst]
  case refused =>
    by_cases hlc : s.hub.lc = factory
    · rw [exec_mfgCalib_acts hphase hlc, mfgCalib_refused (hother.resolve_left (not_not_intro hlc))]
    · exact exec_mfgCalib_elsewhere hlc

end Sys2Proof.Machine
end

section
/-! PROOFS. Region faults, restarts and handback (R606, R622, R627 to R629, R637 to R641). -/

namespace Sys2Proof.Machine

section
variable {r : Nat} {s : State} (hr : r < 8)
include hr

/-! ### The watchdog, lanes and memory (R622) -/

theorem exec_regionWatchdogExpiry_runs (hruns : (s.hub.region r).seqRuns = true) (hpower : (s.hub.region r).power = .s0) :
    exec (.regionWatchdogExpiry r) s = .next (s.to (regionFault r .watchdog s.hub)) := by
  change execRegionWatchdogExpiry r s = _
  exact onHub_next_region hr (if_pos ⟨hruns, hpower⟩)

theorem exec_cryptoLaneFailure_hash :
    exec (.cryptoLaneFailure r true) s = .next (s.to (haltSequencer r (s.hub.setRegion r (fun x => { x with hashLane := false })))) := by
  change execCryptoLaneFailure r true s = _
  exact onHub_next_region hr (if_pos rfl)

theorem exec_cryptoLaneFailure_aes :
    let u := s.hub.setRegion r (fun x => { x with aesLanes := x.aesLanes - 1 })
    exec (.cryptoLaneFailure r false) s = .next (s.to (if (u.region r).aesLanes = 0 then haltSequencer r u else u)) := by
  intro u
  change execCryptoLaneFailure r false s = _
  exact onHub_next_region hr (if_neg Bool.false_ne_true)

/-! ### Quarantine: the restart by itself and the limit of a proxied release (R627, R628) -/

theorem exec_autoRestart_due (hst : (s.hub.region r).st = .quarantined) (hidle : (s.hub.region r).restart = none)
    (hauto : (s.hub.region r).reason.auto = true) (hlimit : (s.hub.region r).restartLimit = false)
    (hsince : s.hub.passed (s.hub.region r).enteredAt (ms 10) = true) :
    exec (.autoRestart r) s = .next (s.to (startRestart r .autoRestart none (countRestart r
      (s.hub.setRegion r (fun x => { x with autoTimes := s.hub.aon.rtc :: recentRestarts s.hub r }))))) := by
  change execAutoRestart r s = _
  exact onHub_next_region hr (if_pos ⟨hst, hidle, hauto, by rw [hlimit]; rfl, hsince⟩)

theorem exec_proxyLimit_due (hst : (s.hub.region r).st = .quarantined) (hmode : (s.hub.region r).quarMode = .proxy)
    (htold : (s.hub.region r).proxyTold = false) (hsince : s.hub.passed (s.hub.region r).proxyFrom (sec 10) = true) :
    exec (.proxyLimit r) s = .next (s.to (regionNotice r .quarantined .quarantined .proxyLimit
      (((baysOf r).filter (fun b => (s.hub.rel b).supervisor && isCharging s.hub b)).foldl (fun s b => trigger b cRegionFault s)
        (s.hub.setRegion r (fun x => { x with proxyTold := true }))))) := by
  change execProxyLimit r s = _
  exact onHub_next_region hr (if_pos ⟨hst, hmode, by rw [htold]; rfl, hsince⟩)

/-! ### Drain, start and handback (R637 to R641) -/

section
variable {y : Restart} (hrestart : (s.hub.region r).restart = some y)
include hrestart

theorem exec_drainTimeout_due (hphase : y.phase = .draining) (hsince : s.hub.passed y.since (ms 50) = true) :
    exec (.drainTimeout r) s = .next (s.to (
      let u := drainQueued r s.hub
      (u.items r).foldl (fun s i => match s.item r i.q with
        | some j => preemptItem j s
        | none => s) u)) := by
  change execDrainTimeout r s = _
  refine onHub_next_region hr ?_
  simp only [hrestart]
  exact if_pos ⟨hphase, hsince⟩

theorem exec_drainComplete_runs (hphase : y.phase = .draining) (hruns : ∃ i ∈ (drainQueued r s.hub).items r, i.granted = true) :
    exec (.drainComplete r) s = .next (s.to (drainQueued r s.hub)) := by
  change execDrainComplete r s = _
  refine onHub_next_region hr ?_
  simp only [hrestart]
  exact (if_pos hphase).trans (if_pos (List.any_eq_true.mpr hruns))

theorem exec_drainComplete_done (hphase : y.phase = .draining) (hnone : ∀ i ∈ (drainQueued r s.hub).items r, i.granted = false) :
    exec (.drainComplete r) s = .next (s.to (regionStep r
      ((forBays r (fun b s => endFreeDialogues b .dialogueEnd s) (drainQueued r s.hub)).setRegion r (fun x =>
        { x with restart := x.restart.map (fun y => { y with phase := .takeover }) })))) := by
  change execDrainComplete r s = _
  refine onHub_next_region hr ?_
  simp only [hrestart]
  exact (if_pos hphase).trans (if_neg (by simpa using hnone))

theorem exec_sequencerReady_restarting (hphase : y.phase = .restarting) (hheld : bit s.hub.boot.regHeld r = false) :
    exec (.sequencerReady r) s = .next (s.to (regionStep r (s.hub.setRegion r (fun x =>
      { x with seqRuns := true, halted := !x.hashLane || x.aesLanes == 0, imageVersion := imageVersion (regImage s.hub y.slot), imageSlot := y.slot
               masked := abiMasked s.hub y.slot, restart := x.restart.map (fun y => { y with phase := .handback }) })))) := by
  change execSequencerReady r s = _
  refine onHub_next_region hr ?_
  simp only [hrestart]
  exact if_pos ⟨hphase, by rw [hheld]; rfl⟩

theorem exec_restartLimitExpiry_due (hphase : y.phase = .restarting) (hsince : s.hub.passed y.since (ms (3 * intervalMax s.hub r)) = true) :
    exec (.restartLimitExpiry r) s = .next (s.to (if y.splice then spliceFails r .internal s.hub else quarantine r .watchdog s.hub)) := by
  change execRestartLimitExpiry r s = _
  refine onHub_next_region hr ?_
  simp only [hrestart]
  exact if_pos ⟨hphase, hsince⟩

end
end

/-- Settles O46: each event's own condition, and the phase of the restart at which it comes. -/
theorem regionLife : Obligations.RegionLife := by
  intro r s hr h x
  refine ⟨exec_regionWatchdogExpiry_runs hr, exec_autoRestart_due hr, exec_proxyLimit_due hr,
    fun y hrestart => ⟨fun hphase => ?draining, fun hphase => ?restarting⟩,
    exec_cryptoLaneFailure_hash hr, exec_cryptoLaneFailure_aes hr, onHub_next_region (f := haltSequencer r) hr rfl⟩
  case draining =>
    exact ⟨exec_drainTimeout_due hr hrestart hphase, exec_drainComplete_runs hr hrestart hphase, exec_drainComplete_done hr hrestart hphase⟩
  case restarting => exact ⟨exec_sequencerReady_restarting hr hrestart hphase, exec_restartLimitExpiry_due hr hrestart hphase⟩

end Sys2Proof.Machine
end

section
/-! PROOFS. The random number generator (R720 to R735, R745). -/

namespace Sys2Proof.Machine

/-! ### Sources (R720 to R722) -/

section
variable {n : Nat} {s : State} (hn : n < 4)
include hn

theorem exec_rngStartupDone_admits (hstarted : (nth {} s.hub.rng.srcs n).started = false) :
    exec (.rngStartupDone n) s = .next (s.to (s.hub.setRng (fun g => g.setSrc n (fun x => { x with started := true, admitted := true })))) := by
  change execRngStartupDone n s = _
  exact onHub_next_unit hn (if_neg (by rw [hstarted]; exact Bool.false_ne_true))

theorem exec_rngSourceReturn_due (hstarted : (nth {} s.hub.rng.srcs n).started = true) (hout : (nth {} s.hub.rng.srcs n).admitted = false)
    (hlocked : (nth {} s.hub.rng.srcs n).lockedOut = false) (hpassed : s.hub.passed (nth {} s.hub.rng.srcs n).okFrom (sec 10) = true) :
    exec (.rngSourceReturn n) s =
      .next (s.to (rngNotice 0x04 n 0 (s.hub.setRng (fun g => g.setSrc n (fun x => { x with admitted := true }))))) := by
  change execRngSourceReturn n s = _
  exact onHub_next_unit hn (if_pos (by rw [hstarted, hout, hlocked, hpassed]; rfl))

end

/-- A source that is out starts its 10 s anew. -/
theorem setOut_out {n k : Nat} {h : Hub} (hstarted : (nth {} h.rng.srcs n).started = true) (hout : (nth {} h.rng.srcs n).admitted = false) :
    setOut n k h = h.setRng (fun g => g.setSrc n (fun x => { x with okFrom := h.now })) :=
  (if_neg (by rw [hstarted]; exact Bool.false_ne_true)).trans (if_pos (by rw [hout]; rfl))

/-- An admitted source that fails a test, before the health of the rest is looked at. -/
def sourceOut (n k : Nat) (h : Hub) : Hub :=
  let c := satAddAt 0xFF (nth {} h.rng.srcs n).setOut 1
  rngNotice 0x03 n k (h.setRng (fun g =>
    { g.setSrc n (fun x => { x with admitted := false, setOut := c, lastTest := k, okFrom := h.now, lockedOut := decide (4 ≤ c) }) with
      pool := [], healthEv := true }))

theorem setOut_admitted {n k : Nat} {h : Hub} (hstarted : (nth {} h.rng.srcs n).started = true) (hin : (nth {} h.rng.srcs n).admitted = true) :
    setOut n k h = if (sourceOut n k h).rng.healthy then sourceOut n k h else rngDown (sourceOut n k h) :=
  (if_neg (by rw [hstarted]; exact Bool.false_ne_true)).trans (if_neg (by rw [hin]; exact Bool.false_ne_true))

theorem exec_rngSourceSetOut {n : Nat} (hn : n < 4) (k : Nat) (s : State) :
    exec (.rngSourceSetOut n k) s = .next (s.to (setOut n k s.hub)) :=
  onHub_next_unit hn rfl

/-! ### The pool (R724) -/

/-- The pool after a block: while the RNG is healthy the block enters it, in place of the oldest where it is full. -/
def poolAfter (g : Rng) (c : BitVec 256) : List (BitVec 256) :=
  if g.healthy then (if 4 ≤ g.pool.length then g.pool.drop 1 else g.pool) ++ [c] else g.pool

theorem poolAfter_room {g : Rng} {c : BitVec 256} (hhealthy : g.healthy = true) (hroom : g.pool.length < 4) : poolAfter g c = g.pool ++ [c] :=
  (if_pos hhealthy).trans (congrArg (· ++ [c]) (if_neg (Nat.not_le.mpr hroom)))

theorem poolAfter_full {g : Rng} {c : BitVec 256} (hhealthy : g.healthy = true) (hfull : 4 ≤ g.pool.length) :
    poolAfter g c = g.pool.drop 1 ++ [c] :=
  (if_pos hhealthy).trans (congrArg (· ++ [c]) (if_pos hfull))

theorem poolAfter_unhealthy {g : Rng} {c : BitVec 256} (hill : g.healthy = false) : poolAfter g c = g.pool :=
  if_neg (by rw [hill]; exact Bool.false_ne_true)

theorem exec_conditionedBlock {raw : List Bool} {s : State} (hraw : raw.length = 1024) {l : List (BitVec 256)}
    (hpool : poolAfter s.hub.rng (raw.foldl condClock s.hub.rng.cond) = l) :
    exec (.conditionedBlock raw) s =
      .next (s.to (s.hub.setRng (fun g => { g with cond := raw.foldl condClock s.hub.rng.cond, pool := l }))) := by
  change execConditionedBlock raw s = _
  exact hpool ▸ onHub_next_all (if_neg (not_not_intro hraw))

/-! ### Reseed, reserve and instantiation (R727, R728, R735) -/

section
variable {s : State}

theorem exec_drbgReseed_due (hon : s.hub.rng.available = true) (hdue : s.hub.rng.reqLeft = 0) (hpool : 2 ≤ s.hub.rng.pool.length) :
    exec .drbgReseed s = .next (s.to (serveDraws (s.hub.setRng Rng.reseed))) := by
  change execDrbgReseed s = _
  exact onHub_next_all (if_pos (by rw [hon, hdue, decide_eq_true hpool]; rfl))

theorem exec_nonceReserveRefill_low (hlow : s.hub.rng.reserve.length ≤ 376) :
    exec .nonceReserveRefill s = .next (s.to (match s.hub.rng.generate 64 with
      | none => s.hub
      | some (l, g) => { s.hub with rng := { g with reserve := g.reserve ++ nonces l } })) := by
  change execNonceReserveRefill s = _
  exact onHub_next_all (if_pos hlow)

end

/-- The RNG is instantiated from two pool blocks, told by a notice. -/
def instantiated (a b : BitVec 256) (l : List (BitVec 256)) (h : Hub) : Hub :=
  rngNotice 0x02 0xFF 0 (h.setRng (fun g => { g with
    drbg := some (drbgUpdate (seed384 a b ^^^ personal h.tmu.time.toNat) (0, 0)), pool := l, reqLeft := 4096
    reseeds := satAdd g.reseeds 1, available := true }))

/-- A notice leaves the generator as it is. -/
theorem rngNotice_rng (kind src test : Nat) (h : Hub) : (rngNotice kind src test h).rng = h.rng :=
  ((HostSideOnly.refl h).notice _ _ _).rng_eq

theorem drbgInstantiate_ready {h : Hub} {a b : BitVec 256} {l : List (BitVec 256)} (hnone : h.rng.drbg = none) (hpool : h.rng.pool = a :: b :: l)
    (hhealthy : h.rng.healthy = true) (hraw : h.rng.rawActive = false) (hready : h.fwReady = true) (href : h.rng.rawRef = none) :
    drbgInstantiate h = instantiated a b l h := by
  have hwaits : (instantiated a b l h).rng.rawRef = none := (congrArg Rng.rawRef (rngNotice_rng _ _ _ _)).trans href
  rw [instantiated] at hwaits
  simp only [drbgInstantiate, hnone, hpool, hhealthy, hraw, hready, Bool.not_false, Bool.true_or, Bool.and_self, if_true, hwaits]
  rfl

/-- Settles O53: each event's condition, and what a source is when its test fails. -/
theorem rngRuns : Obligations.RngRuns := by
  intro n k raw s h x
  refine ⟨fun hn => ⟨exec_rngStartupDone_admits hn, fun hstarted hout => ⟨?out, exec_rngSourceReturn_due hn hstarted hout⟩,
      fun hstarted hin => ?admitted⟩,
    fun hraw => ⟨fun hhealthy hroom => exec_conditionedBlock hraw (poolAfter_room hhealthy hroom),
      fun hhealthy hfull => exec_conditionedBlock hraw (poolAfter_full hhealthy hfull),
      fun hill => exec_conditionedBlock hraw (poolAfter_unhealthy hill)⟩,
    exec_drbgReseed_due, exec_nonceReserveRefill_low, fun a b l hnone hpool hhealthy hrawOff hready href => ?instantiate⟩
  case out => rw [exec_rngSourceSetOut hn, setOut_out hstarted hout]
  case admitted => rw [exec_rngSourceSetOut hn, setOut_admitted hstarted hin]; rfl
  case instantiate =>
    change execDrbgInstantiate s = _
    exact onHub_next_all (drbgInstantiate_ready hnone hpool hhealthy hrawOff hready href)

end Sys2Proof.Machine
end

section
/-! PROOFS. Clock sources, PLLs and multiplexers (R651 to R656, R660 to R663); boot, the trial and the JTAG instructions (R678, R750, R764, R765, R773,
R810). -/

namespace Sys2Proof.Machine

/-! ### Sources and PLLs (R651 to R654) -/

section
variable {s : State} (hruns : clkRuns s.hub = true)
include hruns

theorem exec_sourceLost_runs {x : Src} (hpresent : (s.hub.source x).present = true) :
    exec (.sourceLost x) s = .next (s.to (
      let u := clockEvent 0x07 (srcUnit x) 0 0 0 (flagClk (srcBit x) (setSource x (fun y => { y with present := false, lostAt := s.hub.now }) s.hub))
      if x = .xtal then muxRequest .rtc false u else allPlls.foldl (fun s p => coastIfFed x p s) u)) := by
  have hafter : clkRuns (setSource x (fun y => { y with present := false, lostAt := s.hub.now }) s.hub) = true := by
    cases x <;> exact hruns
  change execSourceLost x s = _
  refine onHub_next_all ((if_neg (by simp [hruns, hpresent])).trans ?_)
  dsimp only
  rw [if_pos hafter]

theorem exec_sourceReturned_runs {x : Src} (hlost : (s.hub.source x).present = false) :
    exec (.sourceReturned x) s = .next (s.to (
      let u := clockEvent 0x08 (srcUnit x) 0 0 ((s.hub.now - (s.hub.source x).lostAt) / ms 1)
        (setSource x (fun y => { y with present := true }) s.hub)
      if x = .xtal then muxRequest .rtc true u else u)) := by
  have hnow : (setSource x (fun y => { y with present := true }) s.hub).now = s.hub.now := by cases x <;> rfl
  change execSourceReturned x s = _
  refine onHub_next_all ((if_neg (by simp [hruns, hlost])).trans ?_)
  dsimp only
  rw [hnow]

theorem exec_pllPhaseError_locked {p : Pll} (hsource : (s.hub.source (pllSource p)).present = true) (hlock : (s.hub.pll p).lock = true) :
    exec (.pllPhaseError p) s = .next (s.to (coastEntry p s.hub)) := by
  change execPllPhaseError p s = _
  exact onHub_next_all (if_pos (by rw [hruns, hsource, hlock]; rfl))

theorem exec_coastExit_unlocked {p : Pll} (hsource : (s.hub.source (pllSource p)).present = true) (hlock : (s.hub.pll p).lock = false) :
    exec (.coastExit p) s = .next (s.to (
      let u := lockEffect p (setPll p (fun x => { x with lock := true, coast := false }) s.hub)
      startRegions (if (s.hub.pll p).coast then clockEvent 0x02 (pllUnit p) 0 0 ((u.now - (s.hub.pll p).since) / ms 1) u else u))) := by
  change execCoastExit p s = _
  exact onHub_next_all (if_neg (by simp [hruns, hsource, hlock]))

/-! ### Multiplexers (R660 to R662) -/

theorem muxRuns_of_clkRuns (m : Mux) : muxRuns s.hub m = true := by simp [muxRuns, hruns]

theorem exec_clockMuxSwitch_target {m : Mux} {t : Bool} (htarget : muxTarget s.hub m = some t) :
    exec (.clockMuxSwitch m t) s = .next (s.to (muxDone m t s.hub)) := by
  change execClockMuxSwitch m t s = _
  refine onHub_next_all ((if_neg (by simp [muxRuns_of_clkRuns hruns])).trans ?_)
  rw [htarget]
  exact if_pos rfl

theorem exec_clkswForced_target {m : Mux} {t : Bool} (htarget : muxTarget s.hub m = some t) :
    exec (.clkswForced m) s = .next (s.to (clockEvent 0x03 (muxUnit m) 0 0 0 (muxDone m t (flagClk (muxBit m) s.hub)))) := by
  change execClkswForced m s = _
  refine onHub_next_all ((if_neg (by simp [muxRuns_of_clkRuns hruns])).trans ?_)
  simp only [htarget, hruns, if_true]

theorem exec_clkswFail_target {m : Mux} {t : Bool} (htarget : muxTarget s.hub m = some t) :
    exec (.clkswFail m) s = .next (s.to (clockEvent 0x04 (muxUnit m) 0 0 0 (muxDone m false (flagClk 4 s.hub)))) := by
  change execClkswFail m s = _
  refine onHub_next_all ((if_neg (by simp [muxRuns_of_clkRuns hruns])).trans ?_)
  simp only [htarget, hruns, if_true]

end

theorem exec_tpllCoastBoundary_due {b : Nat} {s : State} (hb : b < 128) (hdue : coastBoundaryDue s.hub b = true) :
    exec (.tpllCoastBoundary b) s = .next (s.to (boundaryStep b s.hub)) := by
  change execTpllCoastBoundary b s = _
  exact onHub_next_bay hb (if_pos hdue)

/-- Settles O50: while the clock block runs, each row's condition decides its guard. COAST_EXIT of a PLL that has never locked (log 138), and a switch
as request and handshake in one row (log 137), are the model's choices. -/
theorem clocksFailAndReturn : Obligations.ClocksFailAndReturn := by
  intro x p m b s hb hruns h
  exact ⟨exec_sourceLost_runs hruns, exec_sourceReturned_runs hruns,
    fun hsource => ⟨exec_pllPhaseError_locked hruns hsource, exec_coastExit_unlocked hruns hsource⟩, exec_tpllCoastBoundary_due hb,
    fun t htarget => ⟨exec_clockMuxSwitch_target hruns htarget, exec_clkswForced_target hruns htarget, exec_clkswFail_target hruns htarget⟩⟩

/-! ### BOOT (R750, R764, R810) -/

/-- The fuses and the boot unit are as they were. -/
def SameFuseBoot (a b : Hub) : Prop := b.fuse = a.fuse ∧ b.boot = a.boot

theorem SameFuseBoot.refl (h : Hub) : SameFuseBoot h h := ⟨rfl, rfl⟩

theorem sectorsFail_sameFuseBoot (m : BootInput) (h : Hub) : SameFuseBoot h (sectorsFail m h) := by
  refine List.foldlRecOn m.lost _ (SameFuseBoot.refl h) fun u hu x _ => ?_
  obtain ⟨area, n, hi⟩ := x
  cases area <;> exact hu

theorem flashRead_sameFuseBoot (m : BootInput) (h : Hub) : SameFuseBoot h (flashRead m h) := sectorsFail_sameFuseBoot m h

/-- A release leaves the fuses and the phase. -/
theorem released_fuse_phase (m : BootInput) (h : Hub) : (released m h).fuse = h.fuse ∧ (released m h).boot.phase = h.boot.phase := by
  obtain ⟨hfuse, hboot⟩ := flashRead_sameFuseBoot m (clocksUp m (aonBack m h))
  exact ⟨hfuse, (congrArg Boot.phase hboot :)⟩

/-- In BLANK with TEST_EN high, the scan mode. -/
theorem romStarts_scan {m : BootInput} {h : Hub} (hlc : h.lc = blank) (htest : m.testEn = true) :
    romStarts m h = setBoot (fun b => { b with scan := true }) h :=
  (if_pos hlc).trans (if_pos htest)

section
variable {m : BootInput} {s : State}

theorem exec_boot_released (hphase : s.hub.boot.phase = .held) (hscan : s.hub.boot.scan = false) (hmain : m.main = true ∨ bootWrites s.hub = false) :
    exec (.boot m) s = .next (s.to (romStarts m (released m s.hub))) := by
  have hpower : (!m.main && bootWrites s.hub) = false := by
    rcases hmain with hmain | hquiet <;> simp [*]
  change execBoot m s = _
  exact onHub_next_all (if_neg (by simp [hphase, hscan, hpower]))

theorem exec_boot_runs (hruns : s.hub.boot.phase ≠ .held ∨ s.hub.boot.scan = true) : exec (.boot m) s = .next s := by
  change execBoot m s = _
  exact onHub_next_all (if_pos (hruns.imp_right .inl))

theorem exec_boot_scan (hlc : s.hub.lc = blank) (htest : m.testEn = true) (hphase : s.hub.boot.phase = .held) (hscan : s.hub.boot.scan = false)
    (hmain : m.main = true ∨ bootWrites s.hub = false) :
    ∃ t, exec (.boot m) s = .next t ∧ t.pending = s.pending ∧ t.hub.boot.scan = true ∧ t.hub.boot.phase = .held := by
  obtain ⟨hfuse, hkept⟩ := released_fuse_phase m s.hub
  have hblank : (released m s.hub).lc = blank := by rwa [Hub.lc, hfuse]
  rw [exec_boot_released hphase hscan hmain, romStarts_scan hblank htest]
  exact ⟨_, rfl, rfl, rfl, hkept.trans hphase⟩

/-! ### TRIAL_CONFIRM (R765) -/

theorem exec_trialConfirm_due {k : Nat} {u : Hub} (hready : s.hub.fwReady = true) (htrial : s.hub.boot.trial = true)
    (hsince : s.hub.passed s.hub.boot.readyAt (sec 60) = true) (hboot : writeBoot (fun r => { r with trial := false }) s.hub = (.done k, u)) :
    exec .trialConfirm s = .next (s.to (setBoot (fun b => { b with trial := false, tries := 0 }) u)) := by
  change execTrialConfirm s = _
  refine onHub_next_all ((if_pos (by rw [hready, htrial, hsince]; rfl)).trans ?_)
  rw [hboot]

/-! ### The JTAG instructions (R678, R773) -/

section
variable (hdebug : debugAllowed s.hub = true)
include hdebug

theorem exec_jtag_holdSupervisor :
    exec (.jtagInstruction .holdSupervisor) s =
      .next (s.to (setBoot (fun b => { b with supHeld := some (b.supHeld.getD s.hub.now) }) s.hub)) := by
  change execJtagInstruction .holdSupervisor s = _
  exact onHub_next (congrArg _ (if_pos hdebug))

theorem exec_jtag_releaseSupervisor :
    exec (.jtagInstruction .releaseSupervisor) s = .next (s.to (setBoot (fun b => { b with supHeld := none }) s.hub)) := by
  change execJtagInstruction .releaseSupervisor s = _
  exact onHub_next (congrArg _ (if_pos hdebug))

variable {r : Nat} (hr : r < 8) (hpresent : s.hub.regionPresent r = true)
include hr hpresent

theorem exec_jtag_holdRegion :
    exec (.jtagInstruction (.holdRegion r)) s = .next (s.to (setBoot (fun b => { b with regHeld := b.regHeld ||| 2 ^ r }) s.hub)) := by
  change execJtagInstruction (.holdRegion r) s = _
  exact onHub_next ((atRegion_next hr).trans (congrArg _ (if_pos ⟨hdebug, hpresent⟩)))

theorem exec_jtag_releaseRegion :
    exec (.jtagInstruction (.releaseRegion r)) s =
      .next (s.to (setBoot (fun b => { b with regHeld := b.regHeld &&& (255 ^^^ 2 ^ r) }) s.hub)) := by
  change execJtagInstruction (.releaseRegion r) s = _
  exact onHub_next ((atRegion_next hr).trans (congrArg _ (if_pos ⟨hdebug, hpresent⟩)))

end

/-- Where debug is not allowed, a hold or release leaves the hub as it is. -/
theorem exec_jtag_refused {r : Nat} (hr : r < 8) (hdebug : debugAllowed s.hub = false) {i : Jtag}
    (hi : i ∈ [Jtag.holdSupervisor, .releaseSupervisor, .holdRegion r, .releaseRegion r]) : exec (.jtagInstruction i) s = .next s := by
  have hno : ¬debugAllowed s.hub = true := by rw [hdebug]; exact Bool.false_ne_true
  have hnot : ¬(debugAllowed s.hub = true ∧ s.hub.regionPresent r = true) := fun ⟨hyes, _⟩ => hno hyes
  change execJtagInstruction i s = _
  simp only [List.mem_cons, List.not_mem_nil, or_false] at hi
  rcases hi with rfl | rfl | rfl | rfl
  · exact onHub_next (congrArg _ (if_neg hno))
  · exact onHub_next (congrArg _ (if_neg hno))
  · exact onHub_next ((atRegion_next hr).trans (congrArg _ (if_neg hnot)))
  · exact onHub_next ((atRegion_next hr).trans (congrArg _ (if_neg hnot)))

end

/-- Settles O49. BOOT as one step that waits for main power where it has to write (log 148), and a BOOT without effect elsewhere (log 3), are the
model's choices. -/
theorem bootAndDebug : Obligations.BootAndDebug := by
  intro m r s hr h
  refine ⟨exec_boot_released, exec_boot_runs, exec_boot_scan, fun k u => exec_trialConfirm_due, fun hdebug => ?allowed,
    fun hdebug i hi => exec_jtag_refused hr hdebug hi, fun i hi => ?leaves⟩
  case allowed =>
    exact ⟨exec_jtag_holdSupervisor hdebug, exec_jtag_releaseSupervisor hdebug,
      fun hpresent => ⟨exec_jtag_holdRegion hdebug hr hpresent, exec_jtag_releaseRegion hdebug hr hpresent⟩⟩
  case leaves =>
    simp only [List.mem_cons, List.not_mem_nil, or_false] at hi
    rcases hi with rfl | rfl <;> rfl

end Sys2Proof.Machine
end
